-- ==== Sys2Proof/Word.lean ====
section
/-!
DEFINITION. Word.lean: the few values of the ER-26 that the manual treats as bits (everything else is a
number or a named case), and the named items both the commands and the state speak of.
-/
namespace Sys2Proof

/-- A value of the transport timer, 0..65535, wrapping (R71: every sum and difference is modulo 65536). -/
abbrev Tick := BitVec 16

/-- A character on a feed link (R147: 8-bit characters in both directions). -/
abbrev Chr := BitVec 8

/-- The value of a data character, 0..127 (R147). -/
abbrev Data := BitVec 7

/-- One level per pocket 0..39, bit p for pocket p (the pocket drawer and floor scan of the part's lines). -/
abbrev PocketLevels := BitVec 40

/-- The two feed links (00_scope.md, "Names in the running text"). -/
inductive Link where
  | a
  | b
deriving DecidableEq, Repr

/-- The two sensors beyond the gate (00_scope.md, "Terms": ST and SP). -/
inductive ExitSensor where
  | st
  | sp
deriving DecidableEq, Repr

/-- Two things of one kind, one for link A and one for link B. -/
structure Pair (α : Type) where
  a : α
  b : α
deriving DecidableEq, Repr

namespace Pair

/-- The one of link `l`. -/
def get {α : Type} (p : Pair α) : Link → α
  | .a => p.a
  | .b => p.b

/-- The pair with link `l`'s one replaced. -/
def set {α : Type} (p : Pair α) (l : Link) (v : α) : Pair α :=
  match l with
  | .a => { p with a := v }
  | .b => { p with b := v }

@[simp] theorem get_set_same {α : Type} (p : Pair α) (l : Link) (v : α) : (p.set l v).get l = v := by
  cases l <;> rfl

theorem get_set_other {α : Type} (p : Pair α) {l m : Link} (v : α) (h : m ≠ l) :
    (p.set l v).get m = p.get m := by
  cases l <;> cases m <;> first | rfl | exact absurd rfl h

@[simp] theorem set_get {α : Type} (p : Pair α) (l : Link) : p.set l (p.get l) = p := by
  cases l <;> rfl

@[simp] theorem set_set {α : Type} (p : Pair α) (l : Link) (v w : α) : (p.set l v).set l w = p.set l w := by
  cases l <;> rfl

end Pair

end Sys2Proof
end

