-- ==== Sys2Proof/Syntax.lean ====
section
/-!
DEFINITION. Syntax.lean: the commands of the ER-26, one constructor per row of spec/opcode_table.json. A row is a step
of the part: a character at a receiver, the frame handler taking the oldest frame of a link, a sensor edge, a motion
completion, a timer's expiry, a start. The operands are what the step's rule reads from outside the part and
cannot find in its state: the link, the pocket, the captured tick, and the levels of the sensors the rule says are
read at the step. A request's own fields are not operands: they stand in the frame the handler takes (R152).
-/
namespace Sys2Proof

/-- The pocket drawer and floor scan (12_run_states_faults_and_power.md, "The part's lines"). -/
structure PocketPins where
  /-- bit p: pocket p's drawer reads in. -/
  drawersIn : PocketLevels
  /-- bit p: pocket p's floor sensor reads empty. -/
  floorsEmpty : PocketLevels
deriving DecidableEq, Repr

/-- The levels of the input lines that a rule reads as levels ("The part's lines"; R167, R169). -/
structure Pins where
  /-- SA, SB, ST and SP covered. -/
  saCovered : Bool
  sbCovered : Bool
  stCovered : Bool
  spCovered : Bool
  /-- the tray sensor reads occupied. -/
  trayOccupied : Bool
  /-- the shelf sensor reads occupied. -/
  shelfOccupied : Bool
  /-- the elevator reads at its receiving position. -/
  elevatorHome : Bool
  /-- the three address strap pins. -/
  address : BitVec 3
  /-- the LINKB-PRESENT strap pin. -/
  linkBPresent : Bool
  /-- the TOWER40 strap pin. -/
  tower40 : Bool
  /-- the pocket drawer and floor scan. -/
  pockets : PocketPins
deriving DecidableEq, Repr

/-- The commands. `link` is the link of the receiver, the transmitter, the frame handler or the entry sensor. -/
inductive Instr where
  /-- FRAME_RECEIVED (R149): the END that completes a frame at `link`'s receiver. -/
  | frameReceived (link : Link)
  /-- UNKNOWN_KIND (R152): the handler takes a frame of no inbound request kind. -/
  | unknownKind (link : Link)
  /-- ANNOUNCE (R23). -/
  | announce (link : Link)
  /-- OPEN_JOB (R10). -/
  | openJob (link : Link)
  /-- CLOSE_JOB (R20). -/
  | closeJob (link : Link)
  /-- LOAD_CLASS (R137). -/
  | loadClass (link : Link)
  /-- LOAD_SEATS (R137). -/
  | loadSeats (link : Link)
  /-- LOAD_PLAN (R137). -/
  | loadPlan (link : Link)
  /-- LOAD_GRADE (R137). -/
  | loadGrade (link : Link)
  /-- LOAD_POCKET (R137). -/
  | loadPocket (link : Link)
  /-- LOAD_TRANSPORT (R137). -/
  | loadTransport (link : Link)
  /-- COMMIT (R141), with the drawers and floors as they read (R122). -/
  | commit (link : Link) (pins : PocketPins)
  /-- INSERT (R126). -/
  | insert (link : Link)
  /-- RUN (R162). -/
  | run (link : Link)
  /-- STANDBY (R162). -/
  | standby (link : Link)
  /-- CLEAR (R167), with the sensors as they read. -/
  | clear (link : Link) (pins : Pins)
  /-- MARK_RETAINED (R170). -/
  | markRetained (link : Link)
  /-- CLEAR_COUNTS (R151). -/
  | clearCounts (link : Link)
  /-- ASK_STATUS (R159). -/
  | askStatus (link : Link)
  /-- ASK_JOB (R160). -/
  | askJob (link : Link)
  /-- ASK_POCKET (R160). -/
  | askPocket (link : Link)
  /-- ASK_QUEUE (R161). -/
  | askQueue (link : Link)
  /-- ASK_CAPTURE (R161). -/
  | askCapture (link : Link)
  /-- ASK_ENTRY (R161). -/
  | askEntry (link : Link)
  /-- ASK_SET (R159). -/
  | askSet (link : Link)
  /-- TRANSMIT_COMPLETE (R153): `link`'s transmitter finishes its frame. -/
  | transmitComplete (link : Link)
  /-- LEAD_CAPTURE (R74): a lead edge at `link`'s entry sensor, captured at `tick`. -/
  | leadCapture (link : Link) (tick : Tick)
  /-- TRAIL_CAPTURE (R76): a trail edge at `link`'s entry sensor, captured at `tick`. -/
  | trailCapture (link : Link) (tick : Tick)
  /-- GATE_DECISION (R79): the compare point of the oldest undecided entry is reached. -/
  | gateDecision
  /-- ARRIVAL_DEADLINE (R87): the arrival deadline of the entry at `position` of the path list is reached. -/
  | arrivalDeadline (position : Nat)
  /-- ST_LEAD_EDGE (R83). -/
  | stLeadEdge
  /-- SP_LEAD_EDGE (R84). -/
  | spLeadEdge
  /-- ST_SP_TRAIL_EDGE (R72). -/
  | stSpTrailEdge (sensor : ExitSensor)
  /-- BIN_EMPTIED (R89). -/
  | binEmptied
  /-- FEED_WINDOW_EXPIRY (R49). -/
  | feedWindowExpiry
  /-- STALL_TIMER_EXPIRY (R53). -/
  | stallTimerExpiry
  /-- SHELF_UP (R62). -/
  | shelfUp
  /-- SHELF_DOWN (R63). -/
  | shelfDown
  /-- MOTION_TIMER_EXPIRY (R62, R63). -/
  | motionTimerExpiry
  /-- STAPLER_COMPLETION (R99). -/
  | staplerCompletion
  /-- COMPLETION_TIMER_EXPIRY (R100). -/
  | completionTimerExpiry
  /-- RECOVERY_WINDOW_END (R99). -/
  | recoveryWindowEnd
  /-- STAPLER_HOME (R100). -/
  | staplerHome
  /-- CARTRIDGE_INSERTED (R101). -/
  | cartridgeInserted
  /-- SET_RECEIVED (R108). -/
  | setReceived
  /-- EJECT_TIMER_EXPIRY (R104). -/
  | ejectTimerExpiry
  /-- DEPOSIT_COMPLETE (R116). -/
  | depositComplete
  /-- DELIVERY_TIMER_EXPIRY (R114, R133). -/
  | deliveryTimerExpiry
  /-- DRAWER_OPEN (R119). -/
  | drawerOpen (pocket : Nat)
  /-- DRAWER_CLOSE (R120), with the pocket's floor sensor as it reads. -/
  | drawerClose (pocket : Nat) (floorEmpty : Bool)
  /-- FLOOR_EMPTY (R121). -/
  | floorEmpty (pocket : Nat)
  /-- STACKER_EMPTIED (R111). -/
  | stackerEmptied
  /-- INSERT_POSITION (R129). -/
  | insertPosition
  /-- POSITIONING_TIMER_EXPIRY (R129). -/
  | positioningTimerExpiry
  /-- SI_EVENT (R131). -/
  | siEvent
  /-- INSDONE (R132). -/
  | insDone
  /-- FIRST_SHEET_TIMER_EXPIRY (R132). -/
  | firstSheetTimerExpiry
  /-- BETWEEN_SHEETS_TIMER_EXPIRY (R132). -/
  | betweenSheetsTimerExpiry
  /-- HOME_EVENT (R133). -/
  | homeEvent
  /-- AT_SPEED (R163). -/
  | atSpeed
  /-- WARMUP_TIMER_EXPIRY (R163). -/
  | warmupTimerExpiry
  /-- RETLOW (R170). -/
  | retLow
  /-- POWER_ON (R169), with the straps and sensors as they read. -/
  | powerOn (pins : Pins)
  /-- RESET_LINE (R169), with the straps and sensors as they read. -/
  | resetLine (pins : Pins)
  /-- CHARACTER_RECEIVED (R149): a character at `link`'s receiver. -/
  | characterReceived (link : Link) (chr : Chr)
deriving DecidableEq, Repr

end Sys2Proof
end

