-- ==== Sys2Proof/Decode.lean ====
section
/-!
DEFINITION. Decode.lean: the reading of a table word. No row of spec/opcode_table.json gives any bits (each row's
"fields" is empty and none has "fixed"): no word spells a command, so the reading answers none on every word.
-/
namespace Sys2Proof

/-- The command that the `nbits` bits of `w` spell by the table: none, since the table gives no row bits. -/
def decodeTableWord (_nbits _w : Nat) : Option Instr := none

end Sys2Proof
end

