-- ==== Sys2Proof/Config.lean ====
section
/-!
DEFINITION. Config.lean: the limits and times the manual fixes, each with the rule that states it, and the one
value the manual leaves free.
-/
namespace Sys2Proof.Config

/-- Ticks of 100 µs in one millisecond (00_scope.md, "Numbers and units"). -/
def ticksPerMs : Nat := 10

/-! Sizes of lists, queues and counts. -/

/-- R8: at most 16 job records. -/
def maxJobs : Nat := 16
/-- 00_scope.md, "Numbering of things": the highest job number. -/
def maxJobNumber : Nat := 63
/-- R24: at most 12 descriptors in a feed queue. -/
def maxQueue : Nat := 12
/-- R73: at most 4 sheets in the path list. -/
def maxPath : Nat := 4
/-- R61: at most 2 set records on the shelf. -/
def maxShelf : Nat := 2
/-- R152: at most 4 frames in an inbound FIFO. -/
def maxFifo : Nat := 4
/-- R153: at most 8 frames in an outbound queue. -/
def maxOutbound : Nat := 8
/-- R148: the longest payload. -/
def maxPayload : Nat := 120
/-- R118: the number of pocket records. -/
def pocketCount : Nat := 40
/-- R88, R42: the purge-bin count from which no grant is issued. -/
def purgeFull : Nat := 250
/-- The top of the saturating counts of range 0..65535 (R9, R32, R88, R151). -/
def countTop : Nat := 65535
/-- The top of the saturating counts of range 0..255 (R115, R151, R166). -/
def smallCountTop : Nat := 255

/-! Heights, fills and staples, in tu. -/

/-- R93: the most sheets a segment may hold. -/
def maxSegmentSheets : Nat := 99
/-- R92, R93: the greatest tray height. -/
def maxTrayHeight : Nat := 1200
/-- R60: the greatest tray height of a set that may be parked. -/
def maxParkHeight : Nat := 600
/-- R95: the greatest tray height that is stapled. -/
def maxStapleHeight : Nat := 520
/-- R5: the staple allowance of one staple. -/
def stapleAllowance : Nat := 6
/-- R101: the count of a new cartridge. -/
def cartridgeFull : Nat := 5000
/-- R111: the capacity of the stacker. -/
def stackerCapacity : Nat := 30000

/-! Times, in milliseconds. -/

/-- R162: the warm-up timer. -/
def warmupMs : Nat := 3000
/-- R62, R63: the shelf motion timer. -/
def motionMs : Nat := 2000
/-- R99: the stapler's completion timer. -/
def completionMs : Nat := 400
/-- R99: the stapler's recovery window. -/
def recoveryMs : Nat := 300
/-- R102: the eject timer. -/
def ejectMs : Nat := 3000
/-- R110, R133: the delivery timer. -/
def deliveryMs : Nat := 6000
/-- R129: the positioning timer. -/
def positioningMs : Nat := 6000
/-- R132: the first-sheet timer. -/
def firstSheetMs : Nat := 60000
/-- R132: the between-sheets timer. -/
def betweenSheetsMs : Nat := 20000

/-! Characters of the links (R147). -/

/-- SYNC. -/
def sync : Chr := 0xF5
/-- START. -/
def start : Chr := 0xF1
/-- END. -/
def stop : Chr := 0xF2
/-- ABORT. -/
def abort : Chr := 0xF4
/-- IDLE. -/
def idle : Chr := 0xFF
/-- R150: the broadcast address. -/
def broadcastAddress : Nat := 15

/-- FREE VALUE. Where several events fall due at one tick the manual lets any of them be taken first (R87, R100,
R104, R114 and the other "in either order" rules): which one the `n`-th such race takes is not fixed. It has no
body, so no proof can know it (notes/assumptions/3.md). -/
opaque freeRace : Nat → Nat

end Sys2Proof.Config
end

