-- ==== Sys2Proof/Machine/State.lean ====
section
/-!
DEFINITION. Machine/State.lean: everything the ER-26 holds, block by block, as plain data, and the state after reset.
Each field's docstring names the rule that gives it. INVENTORY.md lists them with their reset values.
-/
namespace Sys2Proof.Machine

/-! ## Run controller (R162 to R170) -/

/-- The run states (R162). -/
inductive RunState where
  | standby
  | warming
  | running
  | halting
  | faulted
deriving DecidableEq, Repr

/-- The fault causes, in R165's order. -/
inductive FaultCause where
  | pathJam
  | sensor
  | towerJam
  | shelfJam
  | warmup
  | trayOccupied
  | shelfOccupied
deriving DecidableEq, Repr

/-- The path sensors a fault can name, in R165's order. -/
inductive PathSensor where
  | sa
  | sb
  | st
  | sp
deriving DecidableEq, Repr

/-- A fault cause with its details (R165). -/
structure FaultDetail where
  cause : FaultCause
  sensor : Option PathSensor
  link : Option Link
  tag : Option Nat
deriving DecidableEq, Repr

/-- The fault record (R166): the first cause with its details, and the count of further faults, 0..255. -/
structure FaultRecord where
  first : Option FaultDetail
  further : Nat
deriving DecidableEq, Repr

/-- The straps as last latched (R169). -/
structure Straps where
  /-- R150: the unit address, 0..7. -/
  address : BitVec 3
  linkBPresent : Bool
  tower40 : Bool
deriving DecidableEq, Repr

/-! ## Descriptors and feed queues (R22 to R33) -/

/-- An announced sheet, each field as the engine sent it (R22). -/
structure Desc where
  tag : Nat
  job : Nat
  seat : Nat
  part : Nat
  index : Nat
  /-- last-in-part. -/
  last : Bool
  grade : Nat
  size : Nat
  note : Option Nat
deriving DecidableEq, Repr

/-- The reasons of a FAULTY mark, in R32's order. -/
inductive FaultyReason where
  | range
  | duplicateTag
  | unknownJob
  | seatRange
  | partRange
  | wrongLink
  | order
deriving DecidableEq, Repr

/-- The route of a grant (R47). -/
inductive Route where
  | tray
  | purge
deriving DecidableEq, Repr

/-- The standing of a queued descriptor (R27), a granted one with its grant's route. -/
inductive Standing where
  | queued
  | waiting
  | granted (route : Route)
deriving DecidableEq, Repr

/-- One place of a feed queue (R24 to R30). -/
structure QueueEntry where
  desc : Desc
  standing : Standing
  /-- R30: it passed the checks at the head. -/
  checked : Bool
  /-- R26, R30: its FAULTY mark, with the reason. -/
  faulty : Option FaultyReason
deriving DecidableEq, Repr

/-- The fault capture of a link (R32). -/
structure Capture where
  /-- 0..65535, saturating. -/
  count : Nat
  held : Option (Desc × FaultyReason)
deriving DecidableEq, Repr

/-- A feed queue, head first (R24), with its link's fault capture. -/
structure Feed where
  entries : List QueueEntry
  capture : Capture
deriving DecidableEq, Repr

/-! ## Sets (R38, R91, R97) -/

/-- The flags of a set (R38). -/
structure SetFlags where
  short : Bool
  incomplete : Bool
  gap : Bool
  withheld : Bool
  routeException : Bool
  unstapled : Bool
deriving DecidableEq, Repr

/-- One entry of a set's part list (R38). -/
structure PartCount where
  /-- sheets granted for the part that have not failed to reach the tray (R41). -/
  taken : Nat
  /-- last index taken, 0 when no sheet of the part has been taken. -/
  lastIndex : Nat
deriving DecidableEq, Repr

/-- The assembly state of a set (R38, R55). -/
inductive Assembly where
  | assembling
  | closePending
deriving DecidableEq, Repr

/-- Where a set last came into the tray from (R38). -/
inductive Origin where
  | linkA
  | linkB
  | shelf
deriving DecidableEq, Repr

/-- A set record (R38), with the tray's exception mark (R91). -/
structure SetRec where
  job : Nat
  seat : Nat
  plan : Nat
  cls : Nat
  priority : Nat
  replyTag : Nat
  assembly : Assembly
  /-- current part, from 1. -/
  part : Nat
  parts : List PartCount
  segment : Nat
  traySheets : Nat
  trayHeight : Nat
  totalSheets : Nat
  flags : SetFlags
  note : Option Nat
  origin : Origin
  exceptionMark : Bool
deriving DecidableEq, Repr

/-- The kind of a segment's close (R91). -/
inductive CloseKind where
  | split
  | final
deriving DecidableEq, Repr

/-- The route of a segment (R97). -/
inductive SegRoute where
  | normal
  | exception
deriving DecidableEq, Repr

/-- The segment-close record (R91). -/
structure SegClose where
  kind : CloseKind
  asked : Nat
  fired : Nat
  jamMark : Bool
  unstapled : Bool
  /-- fixed when the segment becomes READY. -/
  route : Option SegRoute
deriving DecidableEq, Repr

/-- The segment record handed to the tower (R97). -/
structure Segment where
  job : Nat
  seat : Nat
  plan : Nat
  cls : Nat
  replyTag : Nat
  segment : Nat
  final : Bool
  sheets : Nat
  totalSheets : Nat
  height : Nat
  staples : Nat
  route : SegRoute
  flags : SetFlags
  jamMark : Bool
  note : Option Nat
deriving DecidableEq, Repr

/-! ## The compile tray, the stapler and the shelf (R61, R91, R99) -/

/-- The tray states (R91). -/
inductive TrayPhase where
  | empty
  | compiling
  | stapling
  | ready
  | ejecting
  | parking
  | unparking
deriving DecidableEq, Repr

/-- The compile tray (R91): its state, its set record and its segment-close record. -/
structure Tray where
  phase : TrayPhase
  held : Option SetRec
  close : Option SegClose
deriving DecidableEq, Repr

/-- The shelf's motion states (R61). -/
inductive Motion where
  | idle
  | lifting
  | lowering
deriving DecidableEq, Repr

/-- The parking shelf (R61): its motion state and its stack, top first. -/
structure Shelf where
  motion : Motion
  stack : List SetRec
deriving DecidableEq, Repr

/-- The stapler states (R99). -/
inductive StaplerPhase where
  | ready
  | firing
  | recovering
  | jammed
deriving DecidableEq, Repr

/-- The segment a fire belongs to (R99). -/
structure FireOwner where
  job : Nat
  seat : Nat
  segment : Nat
  /-- R99: the segment was lost at CLEAR before the fire ended. -/
  lost : Bool
deriving DecidableEq, Repr

/-- The stapler (R99) and its cartridge count (R101, retained). -/
structure Stapler where
  phase : StaplerPhase
  /-- R99: a fire request waits for the end of the recovery window. -/
  requestWaiting : Bool
  owner : Option FireOwner
  cartridge : Nat
deriving DecidableEq, Repr

/-! ## The tower (R107, R111, R118) -/

/-- The tower states (R107). -/
inductive TowerPhase where
  | idle
  | receiving
  | carrying
  | blocked
  | held
deriving DecidableEq, Repr

/-- A destination of a chain (R109). -/
inductive Dest where
  | pocket (n : Nat)
  | stacker
deriving DecidableEq, Repr

/-- The place of a destination in its chain, in R117's order. -/
inductive Place where
  | seat
  | exception
  | overflow
  | stacker
deriving DecidableEq, Repr

/-- One option of a destination chain (R109). -/
structure ChainOption where
  dest : Dest
  place : Place
deriving DecidableEq, Repr

/-- The tower controller's working state (R107). -/
structure Tower where
  phase : TowerPhase
  carried : Option Segment
  charge : Option Nat
  chain : List ChainOption
  target : Option ChainOption
deriving DecidableEq, Repr

/-- The side a segment is dropped on (R115). -/
inductive Side where
  | left
  | right
deriving DecidableEq, Repr

/-- The stacker record (R111, retained). -/
structure Stacker where
  fill : Nat
  side : Side
deriving DecidableEq, Repr

/-- The pocket states, in R118's order. -/
inductive PocketState where
  | available
  | full
  | withdrawn
  | disabled
  | unverified
deriving DecidableEq, Repr

/-- A pocket record (R118, retained). -/
structure Pocket where
  state : PocketState
  /-- the remembered state of a WITHDRAWN pocket. -/
  remembered : Option PocketState
  fill : Nat
  setCount : Nat
  side : Side
  /-- R160: its floor sensor as last read, true for empty. -/
  floorEmpty : Bool
deriving DecidableEq, Repr

/-! ## The insert session (R128) -/

/-- The states of an existing session (R128; NONE is the absence of a session). -/
inductive SessionPhase where
  | waiting
  | active
deriving DecidableEq, Repr

/-- The session timers (R128). -/
inductive SessionTimer where
  | positioning
  | firstSheet
  | betweenSheets
deriving DecidableEq, Repr

/-- The insert session record (R128). -/
structure Session where
  phase : SessionPhase
  job : Nat
  seat : Nat
  grade : Nat
  expected : Nat
  replyTag : Nat
  target : Nat
  place : Place
  towerTaken : Bool
  inserted : Nat
  /-- the session timer that runs, with the ticks it has left. -/
  timer : Option (SessionTimer × Nat)
deriving DecidableEq, Repr

/-- The end causes of a session, in R133's order. -/
inductive EndCause where
  | insDone
  | countReached
  | noFirstSheet
  | sheetGap
  | drawer
  | targetDisabled
  | noPocket
  | fault
deriving DecidableEq, Repr

/-! ## The table store (R135) -/

/-- A table entry (R135). The reference count is of plan and class entries; it stays 0 in the other groups. -/
structure Entry (α : Type) where
  active : α
  pending : Option α
  marked : Bool
  refs : Nat
deriving DecidableEq, Repr

/-- A seat entry (R2). -/
structure SeatEntry where
  offset : Nat
  withheld : Bool
deriving DecidableEq, Repr

/-- The contents of a class entry (R1), its seat entries from seat 1. -/
structure ClassBody where
  seatCount : Nat
  pocketBase : Nat
  seats : List SeatEntry
deriving DecidableEq, Repr

/-- The staple modes (R3). -/
inductive StapleMode where
  | none
  | corner
  | edge
deriving DecidableEq, Repr

/-- One part of a plan (R3). -/
structure PlanPart where
  source : Link
  minCount : Nat
  maxCount : Nat
deriving DecidableEq, Repr

/-- The contents of a plan entry (R3). The part count is the number of parts. -/
structure PlanBody where
  parts : List PlanPart
  stapleMode : StapleMode
  stapleRequired : Bool
  parkPermitted : Bool
deriving DecidableEq, Repr

/-- The contents of a pocket configuration entry (R135). -/
structure PocketConfig where
  capacity : Nat
  enabled : Bool
deriving DecidableEq, Repr

/-- The contents of the transport entry (R135). -/
structure Transport where
  /-- mm/s. -/
  speed : Nat
  /-- ms. -/
  feedWindow : Nat
  /-- s. -/
  stall : Nat
  noticeLink : Link
deriving DecidableEq, Repr

/-- The table store (R135, retained). -/
structure Tables where
  classes : List (Entry ClassBody)
  plans : List (Entry PlanBody)
  grades : List (Entry Nat)
  pockets : List (Entry PocketConfig)
  transport : Entry Transport
deriving DecidableEq, Repr

/-! ## The job list (R8, R9) -/

/-- The states of a job (R9). -/
inductive JobPhase where
  | opened
  | closing
deriving DecidableEq, Repr

/-- The seat statuses, in R12's order. -/
inductive SeatStatus where
  | pending
  | inProgress
  | delivered
  | diverted
  | exception
  | withheld
  | lost
  | late
deriving DecidableEq, Repr

/-- A job record (R9, retained). -/
structure Job where
  number : Nat
  phase : JobPhase
  plan : Nat
  cls : Nat
  priority : Nat
  exceptionPocket : Nat
  overflowPocket : Option Nat
  replyTag : Nat
  /-- the seat-status list, from seat 1. -/
  seats : List SeatStatus
  /-- the reprint list, oldest addition first. -/
  reprint : List Nat
  delivered : Nat
  diverted : Nat
  exceptions : Nat
  lost : Nat
deriving DecidableEq, Repr

/-! ## The sequencer's grant (R42, R47) and the path (R71 to R88) -/

/-- The purpose of a sheet in the path (R73). -/
inductive Purpose where
  | tray
  | purgeFaulty
  | purgeOrphan
  | stray
deriving DecidableEq, Repr

/-- How far the GRANT frame of the outstanding grant has come (R47, R154). -/
inductive GrantStage where
  | inLane
  | sending
  | sent
deriving DecidableEq, Repr

/-- The outstanding grant (R42, R47). -/
structure Grant where
  link : Link
  tag : Nat
  purpose : Purpose
  stage : GrantStage
deriving DecidableEq, Repr

/-- The length results (R77). -/
inductive LengthResult where
  | good
  | shortSheet
  | longSheet
deriving DecidableEq, Repr

/-- The states of a path entry (R73). -/
inductive PathState where
  | preGate
  | toTray
  | toPurge
deriving DecidableEq, Repr

/-- An entry of the path list (R73). -/
structure PathEntry where
  desc : Option Desc
  faulty : Option FaultyReason
  link : Link
  purpose : Purpose
  lead : Tick
  compare : Tick
  trail : Option Tick
  length : Option LengthResult
  /-- R77: the measured length stored with the result, in mm. -/
  measured : Option Nat
  conflict : Bool
  state : PathState
  deadline : Option Tick
  /-- the model's own: this entry's deadline has been reached and acted on (R87). -/
  overdue : Bool
deriving DecidableEq, Repr

/-- The gate positions (R81). -/
inductive GateSide where
  | traySide
  | purgeSide
deriving DecidableEq, Repr

/-- The path monitor (R71 to R88). The purge-bin count is retained. -/
structure Path where
  timer : Tick
  entries : List PathEntry
  gate : GateSide
  purgeCount : Nat
deriving DecidableEq, Repr

/-! ## The links (R147 to R157) -/

/-- A receiver's states (R149). RECEIVING holds whether the address was the broadcast one and the data characters
taken since START: address, kind, length, payload, check. -/
inductive Receiver where
  | hunt
  | idle
  | receiving (broadcast : Bool) (taken : List Data)
  | skipping
deriving DecidableEq, Repr

/-- A complete, checked frame of the inbound FIFO (R152). -/
structure Frame where
  broadcast : Bool
  kind : Nat
  payload : List Data
deriving DecidableEq, Repr

/-- The refusal reasons (R155). -/
inductive Reason where
  | badState
  | busy
  | full
  | inUse
  | unknownJob
  | invalidEntry
  | range
  | structureError
  | notStandby
  | linkAbsent
  | noPocket
  | unknownKind
  | badLength
deriving DecidableEq, Repr

/-- The results of a request (R155). -/
inductive Result where
  | done
  | clamped
  | accepted
  | refused (reason : Reason)
deriving DecidableEq, Repr

/-- An ANSWER frame's contents (R155). -/
structure Answer where
  kind : Nat
  result : Result
  body : List Data
deriving DecidableEq, Repr

/-- The fields of SET-DELIVERED (R117). -/
structure Delivery where
  seat : Nat
  dest : Dest
  place : Place
  side : Side
  segment : Nat
  final : Bool
  sheets : Nat
  totalSheets : Nat
  height : Nat
  charge : Nat
  staples : Nat
  route : SegRoute
  flags : SetFlags
  jamMark : Bool
  note : Option Nat
  fillAfter : Nat
deriving DecidableEq, Repr

/-- The summary of a job beside its number and reply tag (R21). -/
structure Summary where
  delivered : Nat
  diverted : Nat
  exceptions : Nat
  lost : Nat
  reprints : Nat
  pending : Nat
deriving DecidableEq, Repr

/-- The notice kinds with their body fields (R157). -/
inductive NoticeBody where
  | setDelivered (d : Delivery)
  | setLost (seat segment : Nat) (final : Bool) (totalSheets : Nat) (flags : SetFlags) (jamMark : Bool)
  | setEmpty (seat segment totalSheets : Nat) (flags : SetFlags)
  | sheetRejected (link : Link) (desc : Desc) (cause : LengthResult) (expected : Nat) (measured : Option Nat)
  | sheetPurged (link : Link) (desc : Desc)
  | descriptorFault (link : Link) (reason : FaultyReason) (desc : Desc) (count : Nat)
  | queueOverflow (link : Link) (desc : Desc)
  | feedMissed (link : Link) (desc : Desc)
  | mergeConflict (entries : List (Link × Tick)) (granted : Option (Desc × Purpose))
  | pocketFull (pocket fill capacity : Nat) (failedCharge : Option Nat)
  | pocketWithdrawn (pocket : Nat) (remembered : PocketState) (fill : Nat)
  | pocketReturned (pocket : Nat) (state : PocketState) (fill : Nat)
  | stackerFull (seat segment charge fill : Nat)
  | stackerEmptied
  | purgeFull (count : Nat)
  | purgeEmptied
  | staplerJam (seat segment : Nat)
  | staplesLow (count : Nat)
  | cartridgeIn (count : Nat)
  | jobClosed (summary : Summary)
  | commitDone (applied : Nat)
  | insertReady (seat target : Nat) (place : Place) (fill expected : Nat)
  | insertDone (seat target : Nat) (place : Place) (expected inserted : Nat) (cause : EndCause) (fill : Nat)
  | stateChange (previous next : RunState)
  | fault (detail : FaultDetail)
  | retentionLost
deriving DecidableEq, Repr

/-- A notice: the header's reply tag and job number, and the body (R156). -/
structure Notice where
  replyTag : Nat
  job : Nat
  body : NoticeBody
deriving DecidableEq, Repr

/-- A frame the part sends (R153, R154). -/
inductive Outbound where
  | grant (tag : Nat) (route : Route)
  | withdraw (tag : Nat)
  | answer (a : Answer)
  | notice (n : Notice)
deriving DecidableEq, Repr

/-- One link: receiver and FIFO, grant lane, outbound queue, transmitter and counts (R149 to R154). -/
structure LinkPort where
  rx : Receiver
  fifo : List Frame
  /-- R153: at most one GRANT or WITHDRAW frame. -/
  lane : Option Outbound
  queue : List Outbound
  /-- the frame being sent; none while the transmitter sends IDLE. -/
  sending : Option Outbound
  /-- the characters of the frame being sent, its SYNC first (R147, R148). -/
  line : List Chr
  framingErrors : Nat
  checkErrors : Nat
  overruns : Nat
  dropped : Nat
deriving DecidableEq, Repr

/-! ## Countdown timers -/

/-- The countdown timers outside the session record, each with the ticks of 100 µs it has left while it runs. -/
structure Timers where
  /-- R162. -/
  warmup : Option Nat
  /-- R47. -/
  feedWindow : Option Nat
  /-- R53. -/
  stall : Option Nat
  /-- R62, R63. -/
  motion : Option Nat
  /-- R99. -/
  completion : Option Nat
  /-- R99. -/
  recovery : Option Nat
  /-- R102. -/
  eject : Option Nat
  /-- R110, R133. -/
  delivery : Option Nat
deriving DecidableEq, Repr

/-! ## The whole part -/

/-- The state of the ER-26. -/
structure State where
  /-- R162. -/
  run : RunState
  /-- R166. -/
  fault : FaultRecord
  /-- R170: the retention-valid flag. -/
  retentionValid : Bool
  /-- R169. -/
  straps : Straps
  /-- the input lines as last sensed ("The part's lines"). -/
  pins : Pins
  /-- R149 to R154. -/
  links : Pair LinkPort
  /-- R24, R32. -/
  feeds : Pair Feed
  /-- R42: the outstanding grant. -/
  grant : Option Grant
  /-- R91. -/
  tray : Tray
  /-- R61. -/
  shelf : Shelf
  /-- R99, R101. -/
  stapler : Stapler
  /-- R107. -/
  tower : Tower
  /-- R111. -/
  stacker : Stacker
  /-- R118: the pocket records, 0..39. -/
  pockets : List Pocket
  /-- R128. -/
  session : Option Session
  /-- R8. -/
  jobs : List Job
  /-- R135. -/
  tables : Tables
  /-- R73, R88. -/
  path : Path
  /-- the countdown timers. -/
  timers : Timers
  /-- the model's own: how many same-tick races have been settled by `Config.freeRace`. -/
  races : Nat
  /-- the model's own: the commands that wait, first in first out. -/
  pending : List Instr
deriving DecidableEq, Repr

/-- The reasons a command stops. -/
inductive Fault where
  /-- Raised by DRAWER_OPEN, DRAWER_CLOSE and FLOOR_EMPTY with a pocket number above 39: the part has 40 pocket records
  (R118), so no such event exists. Safe: the model stops where the part could do nothing. -/
  | noSuchPocket (pocket : Nat)
deriving DecidableEq, Repr

/-- The reasons a command is refused a meaning. -/
inductive Refusal where
  /-- Raised by a Dispatch arm for a command without a meaning. No arm raises it now. Safe: the model stops. -/
  | notModelled (mnemonic : String)
deriving DecidableEq, Repr

/-- What a command's meaning answers. -/
abbrev Out := Host.Outcome State Fault Refusal

/-! ## The state after reset -/

/-- R147, R149, R151 to R153: a link after a reset. -/
def LinkPort.reset : LinkPort :=
  { rx := .hunt, fifo := [], lane := none, queue := [], sending := none, line := [],
    framingErrors := 0, checkErrors := 0, overruns := 0, dropped := 0 }

/-- R24, R32: a feed queue and its capture after a reset. -/
def Feed.reset : Feed := { entries := [], capture := { count := 0, held := none } }

/-- An entry with contents `x` and nothing staged. -/
def Entry.fresh {α : Type} (x : α) : Entry α := { active := x, pending := none, marked := false, refs := 0 }

/-- R146: a class after power-on with retention invalid. -/
def ClassBody.default : ClassBody :=
  { seatCount := 0, pocketBase := 0, seats := List.replicate 40 { offset := 0, withheld := false } }

/-- R146: a plan after power-on with retention invalid. -/
def PlanBody.default : PlanBody :=
  { parts := [], stapleMode := .none, stapleRequired := false, parkPermitted := false }

/-- R6, R146: the default grade thicknesses. -/
def defaultGrades : List Nat := [10, 12, 15, 19, 8, 25, 10, 10]

/-- R146: the transport entry after power-on with retention invalid. -/
def Transport.default : Transport := { speed := 400, feedWindow := 1000, stall := 8, noticeLink := .a }

/-- R146: the table store's defaults. -/
def Tables.default : Tables :=
  { classes := List.replicate 24 (Entry.fresh ClassBody.default)
    plans := List.replicate 16 (Entry.fresh PlanBody.default)
    grades := defaultGrades.map Entry.fresh
    pockets := List.replicate 40 (Entry.fresh { capacity := 3000, enabled := true })
    transport := Entry.fresh Transport.default }

/-- R123: a pocket with its drawer in and its floor empty, after power-on with retention invalid. -/
def Pocket.fresh : Pocket :=
  { state := .available, remembered := none, fill := 0, setCount := 0, side := .right, floorEmpty := true }

/-- No countdown timer runs. -/
def Timers.stopped : Timers :=
  { warmup := none, feedWindow := none, stall := none, motion := none, completion := none, recovery := none,
    eject := none, delivery := none }

/-- The levels the model takes the input lines to have at `State.reset`: nothing covered or occupied, the elevator home,
drawers in and floors empty, unit address 0, link B present and 40 pockets (DESIGN CHOICE, notes/assumptions/1.md). -/
def Pins.reset : Pins :=
  { saCovered := false, sbCovered := false, stCovered := false, spCovered := false, trayOccupied := false,
    shelfOccupied := false, elevatorHome := true, address := 0, linkBPresent := true, tower40 := true,
    pockets := { drawersIn := BitVec.allOnes 40, floorsEmpty := BitVec.allOnes 40 } }

/-- R91: an empty tray. -/
def Tray.empty : Tray := { phase := .empty, held := none, close := none }

/-- R107: an idle tower. -/
def Tower.idle : Tower := { phase := .idle, carried := none, charge := none, chain := [], target := none }

/-- The part after power-on with the retention-valid flag clear (R169, R146, R123), with the input lines of
`Pins.reset`. -/
def State.reset : State :=
  { run := .standby
    fault := { first := none, further := 0 }
    retentionValid := false
    straps := { address := 0, linkBPresent := true, tower40 := true }
    pins := Pins.reset
    links := { a := LinkPort.reset, b := LinkPort.reset }
    feeds := { a := Feed.reset, b := Feed.reset }
    grant := none
    tray := Tray.empty
    shelf := { motion := .idle, stack := [] }
    stapler := { phase := .ready, requestWaiting := false, owner := none, cartridge := 0 }
    tower := Tower.idle
    stacker := { fill := 0, side := .right }
    pockets := List.replicate 40 Pocket.fresh
    session := none
    jobs := []
    tables := Tables.default
    path := { timer := 0, entries := [], gate := .purgeSide, purgeCount := 0 }
    timers := Timers.stopped
    races := 0
    pending := [] }

end Sys2Proof.Machine
end

