-- ==== Sys2Proof/Machine/Ops.lean ====
section
/-!
DEFINITION. Machine/Ops.lean: the small shared operations: saturating counts, an element of a list changed, the records
of the state found and changed, the open set, the liveness of a set, the passing of time.
-/
namespace Sys2Proof.Machine

/-! ## Counts and lists -/

/-- A count of range 0..`top` raised by one, saturating (00_scope.md, "Numbers and units"). -/
def satSucc (top n : Nat) : Nat := min top (n + 1)

/-- `v` brought into `lo..hi` (R139). -/
def clampTo (lo hi v : Nat) : Nat := min hi (max lo v)

/-- The list with its element `i` changed by `f`; unchanged when there is no such element. -/
def changeAt {α : Type} (i : Nat) (f : α → α) : List α → List α
  | [] => []
  | x :: xs => match i with
    | 0 => f x :: xs
    | j + 1 => x :: changeAt j f xs

/-- The smallest whole number not less than `n ÷ d` (00_scope.md, "Rounding": ceiling). -/
def ceilDiv (n d : Nat) : Nat := (n + d - 1) / d

/-- `n ÷ d` rounded to nearest, halves up (00_scope.md, "Rounding"). -/
def roundDiv (n d : Nat) : Nat := (2 * n + d) / (2 * d)

/-- A time in ms as a count of ticks of 100 µs. -/
def msTicks (ms : Nat) : Nat := ms * Config.ticksPerMs

/-! ## Links and run states -/

/-- R169: the tower size. -/
def towerSize (s : State) : Nat := if s.straps.tower40 then 40 else 24

/-- Link `l` is fitted (R23, R149: LINKB-PRESENT). -/
def linkPresent (s : State) (l : Link) : Bool :=
  match l with
  | .a => true
  | .b => s.straps.linkBPresent

/-- RUNNING or HALTING: the states in which the part works and the transport timer counts (R71). -/
def active (s : State) : Bool :=
  match s.run with
  | .running | .halting => true
  | .standby | .warming | .faulted => false

def otherLink : Link → Link
  | .a => .b
  | .b => .a

/-! ## Records -/

/-- R8: the record of job `n`. -/
def findJob (s : State) (n : Nat) : Option Job := s.jobs.find? (fun j => j.number == n)

/-- The state with job `n`'s record changed by `f`. -/
def changeJob (s : State) (n : Nat) (f : Job → Job) : State :=
  { s with jobs := s.jobs.map (fun j => if j.number == n then f j else j) }

/-- The jobs of the list in ascending number (R8: ASK STATUS lists them so). -/
def jobsAscending (s : State) : List Job :=
  (List.range (Config.maxJobNumber + 1)).filterMap (findJob s)

/-- R7: the active part of plan `n`; an invalid plan when there is no such entry. -/
def planOf (s : State) (n : Nat) : PlanBody := ((s.tables.plans[n]?).map (·.active)).getD PlanBody.default

/-- R7: the active part of class `n`; an invalid class when there is no such entry. -/
def classOf (s : State) (n : Nat) : ClassBody := ((s.tables.classes[n]?).map (·.active)).getD ClassBody.default

/-- R6: the thickness of grade `g`, from the active part as it stands. -/
def thickness (s : State) (g : Nat) : Nat := ((s.tables.grades[g]?).map (·.active)).getD 0

/-- R118: the active capacity of pocket `p`. -/
def capacityOf (s : State) (p : Nat) : Nat := ((s.tables.pockets[p]?).map (·.active.capacity)).getD 0

/-- R118: the record of pocket `p`. -/
def pocketOf (s : State) (p : Nat) : Pocket := (s.pockets[p]?).getD Pocket.fresh

/-- The state with pocket `p`'s record changed by `f`. -/
def changePocket (s : State) (p : Nat) (f : Pocket → Pocket) : State :=
  { s with pockets := changeAt p f s.pockets }

/-- R135: the entry is draining. -/
def Entry.draining {α : Type} (e : Entry α) : Bool := e.marked && decide (0 < e.refs)

/-- R135: plan `n` is draining. -/
def planDraining (s : State) (n : Nat) : Bool := ((s.tables.plans[n]?).map Entry.draining).getD false

/-- R135: class `n` is draining. -/
def classDraining (s : State) (n : Nat) : Bool := ((s.tables.classes[n]?).map Entry.draining).getD false

/-- R2: the seat entry of seat `seat` (from 1) of a class. -/
def ClassBody.seatEntry (c : ClassBody) (seat : Nat) : SeatEntry :=
  (c.seats[seat - 1]?).getD { offset := 0, withheld := false }

/-- R2: the seat's pocket, 0..78, formed from the class's active part. -/
def seatPocket (s : State) (cls seat : Nat) : Nat :=
  (classOf s cls).pocketBase + ((classOf s cls).seatEntry seat).offset

/-! ## The open set and the live sets -/

/-- R39: the open set: the tray's set, unless it has been handed over for its final close. -/
def openSet (s : State) : Option SetRec :=
  match s.tray.close with
  | some c => match c.kind with
    | .final => none
    | .split => s.tray.held
  | none => s.tray.held

/-- The state with the tray's set record changed by `f`. -/
def changeHeld (s : State) (f : SetRec → SetRec) : State :=
  { s with tray := { s.tray with held := s.tray.held.map f } }

/-- `r` is a set of the job and seat. -/
def SetRec.isOf (r : SetRec) (job seat : Nat) : Bool := r.job == job && r.seat == seat

/-- R12: the job and seat of each live set: in the tray, on the shelf, and the closed set the elevator holds. An
earlier segment of a split set is of the set in the tray or on the shelf, and adds none. -/
def liveSets (s : State) : List (Nat × Nat) :=
  (s.tray.held.toList.map (fun r => (r.job, r.seat))) ++
  (s.shelf.stack.map (fun r => (r.job, r.seat))) ++
  ((s.tower.carried.toList.filter (·.final)).map (fun g => (g.job, g.seat)))

/-- R12: some set of the job and seat is live. -/
def seatLive (s : State) (job seat : Nat) : Bool := (liveSets s).contains (job, seat)

/-- R98, R168: the elevator holds an earlier segment of the set of this job and seat. -/
def elevatorHoldsEarlier (s : State) (job seat : Nat) : Bool :=
  match s.tower.carried with
  | some g => !g.final && g.job == job && g.seat == seat
  | none => false

/-! ## Queues -/

/-- R24: the head of link `l`'s feed queue. -/
def headOf (s : State) (l : Link) : Option QueueEntry := (s.feeds.get l).entries.head?

/-- The state with link `l`'s feed queue changed by `f`. -/
def changeFeed (s : State) (l : Link) (f : Feed → Feed) : State :=
  { s with feeds := s.feeds.set l (f (s.feeds.get l)) }

/-- The state with the head of link `l`'s feed queue changed by `f`. -/
def changeHead (s : State) (l : Link) (f : QueueEntry → QueueEntry) : State :=
  changeFeed s l (fun q => { q with entries := changeAt 0 f q.entries })

/-- The state with link `l`'s port changed by `f`. -/
def changePort (s : State) (l : Link) (f : LinkPort → LinkPort) : State :=
  { s with links := s.links.set l (f (s.links.get l)) }

/-! ## The path -/

/-- R73: the entry is a tray-bound sheet of the open set. -/
def PathEntry.trayBound (e : PathEntry) : Bool :=
  match e.purpose with
  | .tray => match e.state with
    | .preGate | .toTray => true
    | .toPurge => false
  | .purgeFaulty | .purgeOrphan | .stray => false

/-- The tray-bound sheets in the path list (R73). -/
def trayBound (s : State) : List PathEntry := s.path.entries.filter (·.trayBound)

/-- Some entry of the path list is PRE-GATE (R42). -/
def anyPreGate (s : State) : Bool := s.path.entries.any (fun e => e.state == .preGate)

/-- The first element that satisfies `p`, with the list without it. -/
def takeFirst {α : Type} (p : α → Bool) : List α → Option (α × List α)
  | [] => none
  | x :: xs => if p x then some (x, xs) else (takeFirst p xs).map (fun r => (r.1, x :: r.2))

/-- The list with the first element that satisfies `p` changed by `f`. -/
def changeFirst {α : Type} (p : α → Bool) (f : α → α) : List α → List α
  | [] => []
  | x :: xs => if p x then f x :: xs else x :: changeFirst p f xs

/-! ## Time -/

/-- `n` ticks pass on a running countdown timer. -/
def countDown (n : Nat) (t : Option Nat) : Option Nat := t.map (· - n)

/-- `n` ticks pass on the countdown timers. -/
def Timers.elapse (n : Nat) (t : Timers) : Timers :=
  { warmup := countDown n t.warmup
    feedWindow := countDown n t.feedWindow
    stall := countDown n t.stall
    motion := countDown n t.motion
    completion := countDown n t.completion
    recovery := countDown n t.recovery
    eject := countDown n t.eject
    delivery := countDown n t.delivery }

/-- `n` ticks pass: on the countdown timers, on the session's timer and, while it counts, on the transport timer
(R71). -/
def elapse (n : Nat) (s : State) : State :=
  { s with
    timers := s.timers.elapse n
    session := s.session.map (fun z => { z with timer := z.timer.map (fun t => (t.1, t.2 - n)) })
    path := { s.path with timer := if active s then s.path.timer + BitVec.ofNat 16 n else s.path.timer } }

/-- The transport timer has come to hold `t` (an edge captured at `t`, a compare point or deadline `t` reached):
the ticks up to `t` have passed (notes/assumptions/2.md). -/
def advanceTo (t : Tick) (s : State) : State := elapse (t - s.path.timer).toNat s

end Sys2Proof.Machine
end

