-- ==== Sys2Proof/Machine/Clock.lean ====
section
/-!
DEFINITION. Machine/Clock.lean: the part's own clock. The table has no row for a tick: on an empty queue `step` lets a tick
of 100 µs pass, unless a timer, a compare point or a deadline is reached, which is then taken as the table's command
for it (DESIGN CHOICE, notes/assumptions/2.md and 3.md).
-/
namespace Sys2Proof.Machine

/-- The command `c` is due: the timer `t` runs and has come to 0. -/
def dueAt (c : Instr) (t : Option Nat) : List Instr :=
  match t with
  | some 0 => [c]
  | _ => []

/-- The command of a session timer's expiry. -/
def SessionTimer.expiry : SessionTimer → Instr
  | .positioning => .positioningTimerExpiry
  | .firstSheet => .firstSheetTimerExpiry
  | .betweenSheets => .betweenSheetsTimerExpiry

/-- The session timer's expiry, when it is due. -/
def dueSession (s : State) : List Instr :=
  match s.session.bind (·.timer) with
  | some (k, 0) => [k.expiry]
  | _ => []

/-- R78, R79: the compare point of the oldest PRE-GATE entry is reached. -/
def dueGate (s : State) : List Instr :=
  match s.path.entries.find? (fun e => e.state == .preGate) with
  | some e => if active s && e.compare == s.path.timer then [.gateDecision] else []
  | none => []

/-- R82, R87: the arrival deadline of a decided entry is reached, and has not been acted on. -/
def PathEntry.late (s : State) (e : PathEntry) : Bool :=
  match e.deadline with
  | some t => !e.overdue && (active s || s.run == .faulted) && s.path.timer == t
  | none => false

/-- The deadlines reached by the entries of the list, the first one being at position `i`. -/
def dueDeadlines (s : State) (i : Nat) : List PathEntry → List Instr
  | [] => []
  | e :: es => (if e.late s then [Instr.arrivalDeadline i] else []) ++ dueDeadlines s (i + 1) es

/-- The commands of the timers, compare points and deadlines that are reached now. -/
def due (s : State) : List Instr :=
  dueAt .warmupTimerExpiry s.timers.warmup ++ dueAt .feedWindowExpiry s.timers.feedWindow ++
  dueAt .stallTimerExpiry s.timers.stall ++ dueAt .motionTimerExpiry s.timers.motion ++
  dueAt .completionTimerExpiry s.timers.completion ++ dueAt .recoveryWindowEnd s.timers.recovery ++
  dueAt .ejectTimerExpiry s.timers.eject ++ dueAt .deliveryTimerExpiry s.timers.delivery ++
  dueSession s ++ dueGate s ++ dueDeadlines s 0 s.path.entries

end Sys2Proof.Machine
end

