-- ==== Sys2Proof/Machine/Flags.lean ====
section
/-!
DEFINITION. Machine/Flags.lean: the flags of a set: how each is set, what they decide, and the character that carries
them.
-/
namespace Sys2Proof.Machine

/-- R38: no flag set. -/
def SetFlags.clear : SetFlags :=
  { short := false, incomplete := false, gap := false, withheld := false, routeException := false,
    unstapled := false }

/-- R52: the set gains SHORT when the ended part's taken count is below its min count. A flag once set stays set
(R38). -/
def SetFlags.judgeShort (f : SetFlags) (taken minCount : Nat) : SetFlags :=
  { f with short := f.short || decide (taken < minCount) }

/-- R41: the set gains GAP when the granted index exceeds the last index held before by more than 1. -/
def SetFlags.judgeGap (f : SetFlags) (index lastIndex : Nat) : SetFlags :=
  { f with gap := f.gap || decide (lastIndex + 1 < index) }

/-- R49, R50, R168: the set gains INCOMPLETE. -/
def SetFlags.withIncomplete (f : SetFlags) : SetFlags := { f with incomplete := true }

/-- R95, R96: the set gains UNSTAPLED. -/
def SetFlags.withUnstapled (f : SetFlags) : SetFlags := { f with unstapled := true }

/-- R97: the flags that send every segment of the set by the exception route. -/
def SetFlags.takesException (f : SetFlags) : Bool := f.short || f.incomplete || f.withheld || f.routeException

/-- R156: the character of the set flags, one bit each from bit 0 upward, the staple-jam mark last. -/
def SetFlags.bits (f : SetFlags) (jamMark : Bool) : Nat :=
  f.short.toNat + 2 * f.incomplete.toNat + 4 * f.gap.toNat + 8 * f.withheld.toNat + 16 * f.routeException.toNat +
  32 * f.unstapled.toNat + 64 * jamMark.toNat

end Sys2Proof.Machine
end

