-- ==== Sys2Proof/Machine/Operands.lean ====
section
/-!
DEFINITION. Machine/Operands.lean: the operands of the requests: the kinds of inbound frames, the fields of a payload and
the length a request calls for (R152, R155, and "Byte layouts" at the end of 10_the_feed_links.md).
-/
namespace Sys2Proof.Machine

/-! ## Frame kinds (the kind table of "Byte layouts") -/

def kindAnnounce : Nat := 0x01
def kindOpenJob : Nat := 0x02
def kindCloseJob : Nat := 0x03
def kindLoad : Nat := 0x04
def kindCommit : Nat := 0x05
def kindRun : Nat := 0x06
def kindStandby : Nat := 0x07
def kindClear : Nat := 0x08
def kindMarkRetained : Nat := 0x09
def kindClearCounts : Nat := 0x0A
def kindInsert : Nat := 0x0B
def kindAsk : Nat := 0x0C
def kindGrant : Nat := 0x40
def kindWithdraw : Nat := 0x41
def kindAnswer : Nat := 0x42
def kindNotice : Nat := 0x43

/-- R152: the kind is one of the inbound kinds, ANNOUNCE 0x01 up to ASK 0x0C. -/
def inboundKind (k : Nat) : Bool := decide (kindAnnounce ≤ k) && decide (k ≤ kindAsk)

/-! ## Payload fields -/

/-- The value of payload character `i`. -/
def field (p : List Data) (i : Nat) : Nat := ((p[i]?).map (·.toNat)).getD 0

/-- A field of two characters from position `i`, the low 7 bits first (R147). -/
def field2 (p : List Data) (i : Nat) : Nat := field p i + 128 * field p (i + 1)

/-- A link's code: A 0, B 1. -/
def linkOfCode : Nat → Option Link
  | 0 => some .a
  | 1 => some .b
  | _ => none

/-- A yes-or-no field: 0 for no and 1 for yes. -/
def boolOfCode : Nat → Option Bool
  | 0 => some false
  | 1 => some true
  | _ => none

/-- A staple mode's code: NONE 0, CORNER 1, EDGE 2. -/
def stapleModeOfCode : Nat → Option StapleMode
  | 0 => some .none
  | 1 => some .corner
  | 2 => some .edge
  | _ => none

/-- R22, R23: the descriptor of an ANNOUNCE payload. -/
def announcedDesc (p : List Data) : Desc :=
  { tag := field p 0
    job := field p 1
    seat := field p 2
    part := field p 3
    index := field p 4
    last := field p 5 % 2 == 1
    grade := field p 6 % 8
    size := field p 6 / 8 % 4
    note := if field p 5 / 2 % 2 == 1 then some (field p 7) else none }

/-! ## The length a request calls for -/

/-- The payload holds the character the length depends on at position `i`, and the length is `len` of it. -/
def lengthFrom (p : List Data) (i : Nat) (len : Nat → Option Nat) : Bool :=
  decide (i < p.length) && (len (field p i) == some p.length)

/-- The LOAD kinds' lengths; a code that names no LOAD kind passes whatever the length. -/
def loadLengthOk (p : List Data) : Bool :=
  match p with
  | [] => false
  | code :: _ => match code.toNat with
    | 0 => p.length == 4
    | 1 => lengthFrom p 3 (fun run => some (4 + 2 * run))
    | 2 => lengthFrom p 2 (fun parts => some (6 + 3 * parts))
    | 3 => p.length == 3
    | 4 => p.length == 5
    | 5 => p.length == 7
    | _ => true

/-- The ASK subjects' lengths; a subject code, or a group code of ENTRY, that names nothing passes whatever the
length. -/
def askLengthOk (p : List Data) : Bool :=
  match p with
  | [] => false
  | code :: _ => match code.toNat with
    | 0 => p.length == 1
    | 1 => p.length == 2
    | 2 => p.length == 2
    | 3 => p.length == 3
    | 4 => p.length == 2
    | 5 => decide (1 < p.length) &&
      (if field p 1 == 0 then p.length == 4 else if field p 1 ≤ 4 then p.length == 3 else true)
    | 6 => p.length == 1
    | _ => true

/-- R152: the payload length is the one the frame's kind and its own fields call for. -/
def lengthOk (f : Frame) : Bool :=
  if f.kind == kindAnnounce then
    lengthFrom f.payload 5 (fun flags => some (if flags / 2 % 2 == 1 then 8 else 7))
  else if f.kind == kindOpenJob then
    lengthFrom f.payload 5 (fun presence => if presence == 0 then some 7 else if presence == 1 then some 8 else none)
  else if f.kind == kindCloseJob then f.payload.length == 1
  else if f.kind == kindLoad then loadLengthOk f.payload
  else if f.kind == kindCommit then f.payload.length == 1
  else if f.kind == kindInsert then f.payload.length == 4
  else if f.kind == kindAsk then askLengthOk f.payload
  else f.payload.length == 0

/-- The LOAD kind code (or ASK subject code) at the front of the payload is `code`, or names nothing in `0..top`, or
is missing (notes/assumptions/6.md). -/
def selects (code top : Nat) (p : List Data) : Bool :=
  match p with
  | [] => true
  | c :: _ => c.toNat == code || decide (top < c.toNat)

/-- R152: the frame is a LOAD of the kind `code`, or one whose kind code names no LOAD kind. -/
def isLoad (code : Nat) (f : Frame) : Bool := f.kind == kindLoad && selects code 5 f.payload

/-- R152: the frame is an ASK of the subject `code`, or one whose subject code names no subject. -/
def isAsk (code : Nat) (f : Frame) : Bool := f.kind == kindAsk && selects code 6 f.payload

end Sys2Proof.Machine
end

