-- ==== Sys2Proof/Machine/Wire.lean ====
section
/-!
DEFINITION. Machine/Wire.lean: the characters of the frames the part sends: the encoding of fields (R147, R156), the
codes of the enumerated fields, the notice bodies (R157), the answers (R155) and the frame envelope (R148).
-/
namespace Sys2Proof.Machine

/-! ## Fields (R147, R156) -/

/-- A field of one character. -/
def enc1 (n : Nat) : List Data := [BitVec.ofNat 7 n]

/-- A field of two characters, the low 7 bits first. -/
def enc2 (n : Nat) : List Data := [BitVec.ofNat 7 n, BitVec.ofNat 7 (n / 128)]

/-- A field of three characters, the low 7 bits first. -/
def enc3 (n : Nat) : List Data := [BitVec.ofNat 7 n, BitVec.ofNat 7 (n / 128), BitVec.ofNat 7 (n / 16384)]

/-- A yes-or-no field. -/
def encBool (b : Bool) : List Data := enc1 b.toNat

/-- An optional field: its presence character, then its value when present. -/
def encOpt {α : Type} (enc : α → List Data) : Option α → List Data
  | none => enc1 0
  | some x => enc1 1 ++ enc x

/-- A list, preceded by the number of its elements (R158). -/
def encList {α : Type} (enc : α → List Data) (xs : List α) : List Data := enc1 xs.length ++ xs.flatMap enc

/-! ## Codes of the enumerated fields, from 0 in the order of the table or rule that lists them (R156) -/

def Link.code : Link → Nat
  | .a => 0
  | .b => 1

def RunState.code : RunState → Nat
  | .standby => 0
  | .warming => 1
  | .running => 2
  | .halting => 3
  | .faulted => 4

def FaultCause.code : FaultCause → Nat
  | .pathJam => 0
  | .sensor => 1
  | .towerJam => 2
  | .shelfJam => 3
  | .warmup => 4
  | .trayOccupied => 5
  | .shelfOccupied => 6

def PathSensor.code : PathSensor → Nat
  | .sa => 0
  | .sb => 1
  | .st => 2
  | .sp => 3

def FaultyReason.code : FaultyReason → Nat
  | .range => 0
  | .duplicateTag => 1
  | .unknownJob => 2
  | .seatRange => 3
  | .partRange => 4
  | .wrongLink => 5
  | .order => 6

def Route.code : Route → Nat
  | .tray => 0
  | .purge => 1

def Standing.code : Standing → Nat
  | .queued => 0
  | .waiting => 1
  | .granted _ => 2

def Assembly.code : Assembly → Nat
  | .assembling => 0
  | .closePending => 1

def Origin.code : Origin → Nat
  | .linkA => 0
  | .linkB => 1
  | .shelf => 2

def SegRoute.code : SegRoute → Nat
  | .normal => 0
  | .exception => 1

def TrayPhase.code : TrayPhase → Nat
  | .empty => 0
  | .compiling => 1
  | .stapling => 2
  | .ready => 3
  | .ejecting => 4
  | .parking => 5
  | .unparking => 6

def Motion.code : Motion → Nat
  | .idle => 0
  | .lifting => 1
  | .lowering => 2

def StaplerPhase.code : StaplerPhase → Nat
  | .ready => 0
  | .firing => 1
  | .recovering => 2
  | .jammed => 3

def TowerPhase.code : TowerPhase → Nat
  | .idle => 0
  | .receiving => 1
  | .carrying => 2
  | .blocked => 3
  | .held => 4

/-- R156: a destination: the pocket number, or 127 for the stacker. -/
def Dest.code : Dest → Nat
  | .pocket n => n
  | .stacker => 127

def Place.code : Place → Nat
  | .seat => 0
  | .exception => 1
  | .overflow => 2
  | .stacker => 3

def Side.code : Side → Nat
  | .left => 0
  | .right => 1

def PocketState.code : PocketState → Nat
  | .available => 0
  | .full => 1
  | .withdrawn => 2
  | .disabled => 3
  | .unverified => 4

def EndCause.code : EndCause → Nat
  | .insDone => 0
  | .countReached => 1
  | .noFirstSheet => 2
  | .sheetGap => 3
  | .drawer => 4
  | .targetDisabled => 5
  | .noPocket => 6
  | .fault => 7

def StapleMode.code : StapleMode → Nat
  | .none => 0
  | .corner => 1
  | .edge => 2

def JobPhase.code : JobPhase → Nat
  | .opened => 0
  | .closing => 1

def SeatStatus.code : SeatStatus → Nat
  | .pending => 0
  | .inProgress => 1
  | .delivered => 2
  | .diverted => 3
  | .exception => 4
  | .withheld => 5
  | .lost => 6
  | .late => 7

def Purpose.code : Purpose → Nat
  | .tray => 0
  | .purgeFaulty => 1
  | .purgeOrphan => 2
  | .stray => 3

/-- The cause of SHEET-REJECTED: SHORT-SHEET 0, LONG-SHEET 1 (R80). GOOD is never a cause. -/
def LengthResult.causeCode : LengthResult → Nat
  | .shortSheet => 0
  | .longSheet => 1
  | .good => 0

/-- R149: the receiver's state. -/
def Receiver.code : Receiver → Nat
  | .hunt => 0
  | .idle => 1
  | .receiving _ _ => 2
  | .skipping => 3

def Reason.code : Reason → Nat
  | .badState => 0
  | .busy => 1
  | .full => 2
  | .inUse => 3
  | .unknownJob => 4
  | .invalidEntry => 5
  | .range => 6
  | .structureError => 7
  | .notStandby => 8
  | .linkAbsent => 9
  | .noPocket => 10
  | .unknownKind => 11
  | .badLength => 12

def Result.code : Result → Nat
  | .done => 0
  | .clamped => 1
  | .accepted => 2
  | .refused _ => 3

/-! ## Notice bodies (R157) -/

/-- The tag, job, seat, part and sheet index of a descriptor. -/
def encSheet (d : Desc) : List Data := enc1 d.tag ++ enc1 d.job ++ enc1 d.seat ++ enc1 d.part ++ enc1 d.index

/-- The job summary's counts and numbers (R21, JOB-CLOSED of R157). -/
def encSummary (m : Summary) : List Data :=
  enc3 m.delivered ++ enc3 m.diverted ++ enc3 m.exceptions ++ enc3 m.lost ++ enc1 m.reprints ++ enc1 m.pending

/-- The fields of SET-DELIVERED, in R117's order. -/
def encDelivery (d : Delivery) : List Data :=
  enc1 d.seat ++ enc1 d.dest.code ++ enc1 d.place.code ++ enc1 d.side.code ++ enc1 d.segment ++ encBool d.final ++
  enc1 d.sheets ++ enc2 d.totalSheets ++ enc2 d.height ++ enc2 d.charge ++ enc1 d.staples ++ enc1 d.route.code ++
  enc1 (d.flags.bits d.jamMark) ++ encOpt enc1 d.note ++ enc3 d.fillAfter

/-- R157: the code of a notice's kind. -/
def NoticeBody.code : NoticeBody → Nat
  | .setDelivered _ => 1
  | .setLost _ _ _ _ _ _ => 2
  | .setEmpty _ _ _ _ => 3
  | .sheetRejected _ _ _ _ _ => 4
  | .sheetPurged _ _ => 5
  | .descriptorFault _ _ _ _ => 6
  | .queueOverflow _ _ => 7
  | .feedMissed _ _ => 8
  | .mergeConflict _ _ => 9
  | .pocketFull _ _ _ _ => 10
  | .pocketWithdrawn _ _ _ => 11
  | .pocketReturned _ _ _ => 12
  | .stackerFull _ _ _ _ => 13
  | .stackerEmptied => 14
  | .purgeFull _ => 15
  | .purgeEmptied => 16
  | .staplerJam _ _ => 17
  | .staplesLow _ => 18
  | .cartridgeIn _ => 19
  | .jobClosed _ => 20
  | .commitDone _ => 21
  | .insertReady _ _ _ _ _ => 22
  | .insertDone _ _ _ _ _ _ _ => 23
  | .stateChange _ _ => 24
  | .fault _ => 25
  | .retentionLost => 26

/-- R157: the body fields of a notice, in order. -/
def NoticeBody.fields : NoticeBody → List Data
  | .setDelivered d => encDelivery d
  | .setLost seat seg fin total flags jam =>
    enc1 seat ++ enc1 seg ++ encBool fin ++ enc2 total ++ enc1 (flags.bits jam)
  | .setEmpty seat seg total flags => enc1 seat ++ enc1 seg ++ enc2 total ++ enc1 (flags.bits false)
  | .sheetRejected l d cause expected measured =>
    enc1 (Link.code l) ++ enc1 d.tag ++ enc1 d.seat ++ enc1 d.part ++ enc1 d.index ++ enc1 cause.causeCode ++
    enc2 expected ++ encOpt enc2 measured
  | .sheetPurged l d => enc1 (Link.code l) ++ enc1 d.tag ++ enc1 d.seat ++ enc1 d.part ++ enc1 d.index
  | .descriptorFault l reason d count =>
    enc1 (Link.code l) ++ enc1 reason.code ++ encSheet d ++ encBool d.last ++ enc1 d.grade ++ enc1 d.size ++
    encOpt enc1 d.note ++ enc3 count
  | .queueOverflow l d => enc1 (Link.code l) ++ encSheet d
  | .feedMissed l d => enc1 (Link.code l) ++ encSheet d
  | .mergeConflict es granted =>
    encList (fun e : Link × Tick => enc1 (Link.code e.1) ++ enc3 e.2.toNat) es ++
    encOpt (fun g : Desc × Purpose => encSheet g.1 ++ enc1 g.2.code) granted
  | .pocketFull p fill cap charge => enc1 p ++ enc2 fill ++ enc2 cap ++ encOpt enc2 charge
  | .pocketWithdrawn p st fill => enc1 p ++ enc1 st.code ++ enc2 fill
  | .pocketReturned p st fill => enc1 p ++ enc1 st.code ++ enc2 fill
  | .stackerFull seat seg charge fill => enc1 seat ++ enc1 seg ++ enc2 charge ++ enc3 fill
  | .stackerEmptied => []
  | .purgeFull count => enc3 count
  | .purgeEmptied => []
  | .staplerJam seat seg => enc1 seat ++ enc1 seg
  | .staplesLow count => enc2 count
  | .cartridgeIn count => enc2 count
  | .jobClosed m => encSummary m
  | .commitDone n => enc1 n
  | .insertReady seat target place fill expected =>
    enc1 seat ++ enc1 target ++ enc1 place.code ++ enc2 fill ++ enc1 expected
  | .insertDone seat target place expected inserted cause fill =>
    enc1 seat ++ enc1 target ++ enc1 place.code ++ enc1 expected ++ enc1 inserted ++ enc1 cause.code ++ enc2 fill
  | .stateChange p n => enc1 p.code ++ enc1 n.code
  | .fault d => enc1 d.cause.code ++ encOpt (fun x => enc1 (PathSensor.code x)) d.sensor ++
    encOpt (fun x => enc1 (Link.code x)) d.link ++ encOpt enc1 d.tag
  | .retentionLost => []

/-! ## Frames (R148, R154, R155, R156) -/

/-- The frame kind of a frame the part sends. -/
def Outbound.kind : Outbound → Nat
  | .grant _ _ => kindGrant
  | .withdraw _ => kindWithdraw
  | .answer _ => kindAnswer
  | .notice _ => kindNotice

/-- The payload of a frame the part sends: R154 for GRANT and WITHDRAW, R155 for ANSWER, R156 for NOTICE. -/
def Outbound.payload : Outbound → List Data
  | .grant tag route => enc1 tag ++ enc1 route.code
  | .withdraw tag => enc1 tag
  | .answer a => enc1 a.kind ++ enc1 a.result.code ++
    (match a.result with | .refused r => enc1 r.code | _ => []) ++ a.body
  | .notice n => enc1 n.body.code ++ enc1 n.replyTag ++ enc1 n.job ++ n.body.fields

/-- R148: the check: the sum of the characters, modulo 128. -/
def checkOf (cs : List Data) : Data := cs.foldl (· + ·) 0

/-- The character that carries a data value (R147: top bit clear). -/
def dataChr (d : Data) : Chr := d.setWidth 8

/-- R147, R148: the characters of a frame: SYNC, START, address, kind, length, payload, check, END. -/
def frameChars (address : BitVec 3) (o : Outbound) : List Chr :=
  let inner : List Data :=
    address.setWidth 7 :: BitVec.ofNat 7 o.kind :: BitVec.ofNat 7 o.payload.length :: o.payload
  [Config.sync, Config.start] ++ (inner ++ [checkOf inner]).map dataChr ++ [Config.stop]

end Sys2Proof.Machine
end

