-- ==== Sys2Proof/Machine/Outbound.lean ====
section
/-!
DEFINITION. Machine/Outbound.lean: the grant lanes, outbound queues and transmitters (R153, R154), and the queueing of
answers (R155) and notices (R156).
-/
namespace Sys2Proof.Machine

/-- The transmitter starts sending `o`. -/
def LinkPort.begin (address : BitVec 3) (o : Outbound) (k : LinkPort) : LinkPort :=
  { k with sending := some o, line := frameChars address o }

/-- R153: an idle transmitter starts the frame in the grant lane if there is one, and otherwise the oldest frame of the
outbound queue. -/
def LinkPort.startNext (address : BitVec 3) (k : LinkPort) : LinkPort :=
  match k.sending with
  | some _ => k
  | none => match k.lane with
    | some o => LinkPort.begin address o { k with lane := none }
    | none => match k.queue with
      | o :: os => LinkPort.begin address o { k with queue := os }
      | [] => k

/-- R153: a frame joins the outbound queue, or is dropped and counted when the queue holds 8. -/
def LinkPort.enqueue (o : Outbound) (k : LinkPort) : LinkPort :=
  if k.queue.length < Config.maxOutbound then { k with queue := k.queue ++ [o] }
  else { k with dropped := satSucc Config.smallCountTop k.dropped }

/-- The transmitter of link `l` starts its next frame if it is sending IDLE. An absent link B sends IDLE and nothing
else (R147). -/
def pump (s : State) (l : Link) : State :=
  if linkPresent s l then changePort s l (LinkPort.startNext s.straps.address) else s

/-- A frame is queued on link `l`; an idle transmitter starts at once (notes/assumptions/4.md). -/
def queueOut (s : State) (l : Link) (o : Outbound) : State :=
  pump (changePort s l (LinkPort.enqueue o)) l

/-- The frame handler's answer to a request that came in on link `l` (R155); a broadcast is not answered (R150). -/
def answer (s : State) (l : Link) (broadcast : Bool) (kind : Nat) (result : Result) (body : List Data) : State :=
  if broadcast then s else queueOut s l (.answer { kind := kind, result := result, body := body })

/-- R145, R153: the link notices go on. -/
def noticeLink (s : State) : Link :=
  if s.straps.linkBPresent then s.tables.transport.active.noticeLink else .a

/-- R156: a notice is queued on the notice link in force. -/
def notify (s : State) (replyTag job : Nat) (body : NoticeBody) : State :=
  queueOut s (noticeLink s) (.notice { replyTag := replyTag, job := job, body := body })

/-- R156: a notice about no job. -/
def notifyPlain (s : State) (body : NoticeBody) : State := notify s 0 0 body

/-- The reply tag of job `n` when it is in the job list, and 0 otherwise. -/
def replyTagOf (s : State) (n : Nat) : Nat := ((findJob s n).map (·.replyTag)).getD 0

/-- R156: a notice about job `n`, with 0 for job and reply tag when the job is not in the list. -/
def notifyJob (s : State) (n : Nat) (body : NoticeBody) : State :=
  match findJob s n with
  | some j => notify s j.replyTag n body
  | none => notify s 0 0 body

/-- R25, R33, R75: a notice about an announced job number: the header holds it when it is 1..63, and the job's reply
tag when it is in the list. -/
def notifyAnnounced (s : State) (n : Nat) (body : NoticeBody) : State :=
  notify s (replyTagOf s n) (if 1 ≤ n ∧ n ≤ Config.maxJobNumber then n else 0) body

/-- The stage of the outstanding grant of link `l` becomes `st`. -/
def setGrantStage (s : State) (l : Link) (st : GrantStage) : State :=
  { s with grant := s.grant.map (fun g => if g.link == l then { g with stage := st } else g) }

/-- R154: a frame is put in link `l`'s grant lane, which never holds two: an unsent GRANT whose grant has ended gives way
to it (DESIGN CHOICE, notes/assumptions/40.md). An idle transmitter starts it at once. -/
def placeInLane (s : State) (l : Link) (o : Outbound) : State :=
  pump (changePort s l (fun k => { k with lane := some o })) l

/-- R154: the GRANT of the outstanding grant of link `l` has left the lane when the lane is empty. -/
def noteGrantSending (s : State) (l : Link) : State :=
  if (s.links.get l).lane.isNone then
    { s with grant := s.grant.map (fun g =>
        if g.link == l && g.stage == .inLane then { g with stage := .sending } else g) }
  else s

/-- R43, R154: the outstanding grant's GRANT frame is made. -/
def sendGrant (s : State) (l : Link) (tag : Nat) (route : Route) : State :=
  noteGrantSending (placeInLane s l (.grant tag route)) l

/-- R47, R153: the transmitter of link `l` finishes its frame. When it was the outstanding grant's GRANT, the feed
window starts. The next frame starts at once. -/
def finishFrame (s : State) (l : Link) : State :=
  match (s.links.get l).sending with
  | none => s
  | some _ =>
    let s := match s.grant with
      | some g =>
        if g.link == l && g.stage == .sending then
          { setGrantStage s l .sent with
            timers := { s.timers with feedWindow := some (msTicks s.tables.transport.active.feedWindow) } }
        else s
      | none => s
    noteGrantSending (pump (changePort s l (fun k => { k with sending := none, line := [] })) l) l

end Sys2Proof.Machine
end

