-- ==== Sys2Proof/Machine/Handler.lean ====
section
/-!
DEFINITION. Machine/Handler.lean: the frame handler (R152): the oldest frame of a link's FIFO is taken, its length tested,
and the frame handed to its owner.
-/
namespace Sys2Proof.Machine

/-- R152: the oldest frame of link `l`'s inbound FIFO. -/
def oldestFrame (s : State) (l : Link) : Option Frame := (s.links.get l).fifo.head?

/-- R152: the frame leaves its FIFO when the handler takes it. -/
def takeFrame (s : State) (l : Link) : State := changePort s l (fun k => { k with fifo := k.fifo.tail })

/-- The answer to the frame `f` of link `l`. -/
def answerTo (s : State) (l : Link) (f : Frame) (r : Result) (body : List Data) : State :=
  answer s l f.broadcast f.kind r body

/-- R155: the frame is refused for `reason`. -/
def refuse (s : State) (l : Link) (f : Frame) (reason : Reason) : State := answerTo s l f (.refused reason) []

/-- R152: the handler takes the oldest frame of link `l` when it is one that this command stands for: a frame of a
wrong length is answered REFUSED BAD-LENGTH, and any other is handed to its owner. When the oldest frame is another,
or there is none, this command is not the step the handler makes, and nothing changes (notes/assumptions/5.md). -/
def handle (wanted : Frame → Bool) (owner : Link → Frame → State → State) (l : Link) (s : State) : State :=
  match oldestFrame s l with
  | none => s
  | some f =>
    if wanted f then
      if lengthOk f then owner l f (takeFrame s l) else refuse (takeFrame s l) l f .badLength
    else s

/-- The frame is of kind `k`. -/
def ofKind (k : Nat) (f : Frame) : Bool := f.kind == k

end Sys2Proof.Machine
end

