-- ==== Sys2Proof/Machine/Asks.lean ====
section
/-!
DEFINITION. Machine/Asks.lean: the queries (R158 to R161): the contents of each subject's answer and the ASK commands.
Every list is preceded by the number of its elements and every field is encoded as R156 lays down
(notes/assumptions/20.md).
-/
namespace Sys2Proof.Machine

/-! ## Shared items -/

/-- The outstanding grant: link, tag and route (R159). -/
def encGrant (g : Grant) : List Data :=
  enc1 (Link.code g.link) ++ enc1 g.tag ++ enc1 (match g.purpose with
    | .tray => Route.code .tray
    | .purgeFaulty | .purgeOrphan | .stray => Route.code .purge)

/-- The descriptor's fields of ASK QUEUE up to its note (R161). -/
def encDesc (d : Desc) : List Data :=
  encSheet d ++ encBool d.last ++ enc1 d.grade ++ enc1 d.size ++ encOpt enc1 d.note

/-! ## STATUS (R159) -/

/-- R159: the carried segment of a CARRYING or BLOCKED tower, and the target of a CARRYING one. R159 names both optionals in one
item and does not say whether the target's presence character is sent when there is no carried segment: the model puts it
inside the carried segment's item, so that an absent segment is one 0 and nothing else (DESIGN CHOICE,
notes/assumptions/20.md). -/
def encCarried (t : Tower) : List Data :=
  let target : Option ChainOption := match t.phase with
    | .carrying => t.target
    | .idle | .receiving | .blocked | .held => none
  let carried : Option Segment := match t.phase with
    | .carrying | .blocked => t.carried
    | .idle | .receiving | .held => none
  encOpt (fun g => enc1 g.job ++ enc1 g.seat ++ enc1 g.segment ++
    encOpt (fun o : ChainOption => enc1 o.dest.code ++ enc1 o.place.code) target) carried

/-- R159: a link's receiver state and counts. -/
def encPort (k : LinkPort) : List Data :=
  enc1 k.rx.code ++ enc3 k.framingErrors ++ enc3 k.checkErrors ++ enc3 k.overruns ++ enc2 k.dropped

/-- R159: the contents of ASK STATUS. -/
def statusBody (s : State) : List Data :=
  enc1 s.run.code ++ enc1 s.tray.phase.code ++ enc1 s.shelf.stack.length ++ enc1 s.tower.phase.code ++
  encCarried s.tower ++ enc1 s.stapler.phase.code ++ enc2 s.stapler.cartridge ++ enc3 s.stacker.fill ++
  enc3 s.path.purgeCount ++ encPort s.links.a ++ encPort s.links.b ++ encBool s.retentionValid ++
  encOpt (fun d : FaultDetail => enc1 d.cause.code) s.fault.first ++ enc2 s.fault.further ++
  encOpt encGrant s.grant ++
  encList (fun j : Job => enc1 j.number ++ enc1 j.phase.code) (jobsAscending s)

/-! ## JOB and POCKET (R160) -/

/-- R160: the contents of ASK JOB. -/
def jobBody (j : Job) : List Data :=
  enc1 j.number ++ enc1 j.phase.code ++ enc1 j.plan ++ enc1 j.cls ++ enc1 j.priority ++ enc1 j.exceptionPocket ++
  encOpt enc1 j.overflowPocket ++ enc1 j.replyTag ++ enc3 j.delivered ++ enc3 j.diverted ++ enc3 j.exceptions ++
  enc3 j.lost ++ encList (fun st : SeatStatus => enc1 st.code) j.seats ++ encList enc1 j.reprint

/-- R160: the contents of ASK POCKET. -/
def pocketBody (s : State) (p : Nat) : List Data :=
  let k := pocketOf s p
  enc1 k.state.code ++ encOpt (fun st : PocketState => enc1 st.code) k.remembered ++ enc2 k.fill ++
  enc2 k.setCount ++ enc1 k.side.code ++ enc2 (capacityOf s p) ++
  encBool (((s.tables.pockets[p]?).map (·.active.enabled)).getD false) ++ enc1 (if k.floorEmpty then 0 else 1)

/-! ## QUEUE and CAPTURE (R161) -/

/-- R161: a queued descriptor. -/
def encQueueEntry (e : QueueEntry) : List Data :=
  let route : Option Route := match e.standing with
    | .granted r => some r
    | .queued | .waiting => none
  encDesc e.desc ++ enc1 e.standing.code ++ encOpt (fun r : Route => enc1 r.code) route ++ encBool e.checked ++
  encOpt (fun r : FaultyReason => enc1 r.code) e.faulty

/-- The items from the front of a list that together take at most `room` characters. -/
def fitting (room : Nat) : List (List Data) → List (List Data)
  | [] => []
  | x :: xs => if x.length ≤ room then x :: fitting (room - x.length) xs else []

/-- R148: the characters left for the descriptors of an ASK QUEUE answer: the payload also holds the request's kind, the
result and the two counts. -/
def queueRoom : Nat := Config.maxPayload - 4

/-- R161: the contents of ASK QUEUE. Eight descriptors with notes, most of them FAULTY, would take a payload above R148's
120 characters: the model gives as many of them, from the first on, as the frame has room for (R161's "up to 8"; that it is
the most that fit is a DESIGN CHOICE, notes/assumptions/37.md). -/
def queueBody (s : State) (l : Link) (first : Nat) : List Data :=
  let q := (s.feeds.get l).entries
  enc1 q.length ++ encList id (fitting queueRoom (((q.drop first).take 8).map encQueueEntry))

/-- R161: the contents of ASK CAPTURE; the descriptor in the form of ASK QUEUE without standing, route or checked
flag. -/
def captureBody (s : State) (l : Link) : List Data :=
  let c := (s.feeds.get l).capture
  enc3 c.count ++ encOpt (fun x : Desc × FaultyReason => enc1 x.2.code) c.held ++
  encOpt (fun x : Desc × FaultyReason => encDesc x.1 ++ encOpt (fun r : FaultyReason => enc1 r.code) (some x.2)) c.held

/-! ## ENTRY (R161) -/

/-- R161: a class part: seat count, pocket base, and the seats from the first one up to 20 of them. -/
def encClass (first : Nat) (c : ClassBody) : List Data :=
  enc1 c.seatCount ++ enc1 c.pocketBase ++
  encList (fun e : SeatEntry => enc1 e.offset ++ encBool e.withheld) ((c.seats.drop (first - 1)).take 20)

/-- R161: a plan part. -/
def encPlan (b : PlanBody) : List Data :=
  encList (fun p : PlanPart => enc1 (Link.code p.source) ++ enc1 p.minCount ++ enc1 p.maxCount) b.parts ++
  enc1 b.stapleMode.code ++ encBool b.stapleRequired ++ encBool b.parkPermitted

/-- A pocket configuration's contents (R135). -/
def encPocketConfig (c : PocketConfig) : List Data := enc2 c.capacity ++ encBool c.enabled

/-- The transport entry's contents (R135). -/
def encTransport (t : Transport) : List Data :=
  enc2 t.speed ++ enc2 t.feedWindow ++ enc1 t.stall ++ enc1 (Link.code t.noticeLink)

/-- R161: an entry's active part, pending part and mark. -/
def encEntry {α : Type} (enc : α → List Data) (e : Entry α) : List Data :=
  enc e.active ++ encOpt enc e.pending ++ encBool e.marked

/-- R161: the contents of ASK ENTRY; none when a parameter is outside its range. -/
def entryBody (s : State) (group index first : Nat) : Option (List Data) :=
  match group with
  | 0 => if first = 0 ∨ 40 < first then none
         else (s.tables.classes[index]?).map (fun e => encEntry (encClass first) e ++ enc1 e.refs)
  | 1 => (s.tables.plans[index]?).map (fun e => encEntry encPlan e ++ enc1 e.refs)
  | 2 => (s.tables.grades[index]?).map (fun e => encEntry enc1 e)
  | 3 => (s.tables.pockets[index]?).map (fun e => encEntry encPocketConfig e)
  | 4 => if index = 0 then some (encEntry encTransport s.tables.transport) else none
  | _ => none

/-! ## SET (R159) -/

/-- R159: a set record, with every field of R38 in its table's order and the tray's exception mark. R38's flags hold no
staple-jam mark, while R156's character has a bit for one: that bit is 0 here, also for the open set of a split segment that
carries the mark in its segment-close record (DESIGN CHOICE, notes/assumptions/20.md). -/
def encSetRec (r : SetRec) : List Data :=
  enc1 r.job ++ enc1 r.seat ++ enc1 r.plan ++ enc1 r.cls ++ enc1 r.priority ++ enc1 r.replyTag ++
  enc1 r.assembly.code ++ enc1 r.part ++
  encList (fun c : PartCount => enc1 c.taken ++ enc1 c.lastIndex) r.parts ++
  enc1 r.segment ++ enc1 r.traySheets ++ enc2 r.trayHeight ++ enc2 r.totalSheets ++ enc1 (r.flags.bits false) ++
  encOpt enc1 r.note ++ enc1 r.origin.code ++ encBool r.exceptionMark

/-- R159: the stall timer: its state in R156's numbering of "running or stopped" (running 0, stopped 1), a running one
followed by the milliseconds that remain (notes/assumptions/20.md). -/
def encStall : Option Nat → List Data
  | some n => enc1 0 ++ enc3 (ceilDiv n Config.ticksPerMs)
  | none => enc1 1

/-- R159: the contents of ASK SET. -/
def setBody (s : State) : List Data :=
  encOpt encSetRec (openSet s) ++ encOpt encGrant s.grant ++ encStall s.timers.stall ++ enc1 s.shelf.motion.code ++
  encList encSetRec s.shelf.stack

/-! ## The ASK requests (R158) -/

/-- R158: the answer to an ASK: DONE with the contents, or a refusal. -/
def answerAsk (l : Link) (f : Frame) (s : State) (r : Except Reason (List Data)) : State :=
  match r with
  | .ok body => answerTo s l f .done body
  | .error reason => refuse s l f reason

/-- R158: the judgement of an ASK whose subject code is `code`, by the subject's own contents; a subject code that names
no subject is refused RANGE. -/
def ask (code : Nat) (contents : List Data → State → Except Reason (List Data)) (l : Link) (f : Frame) (s : State) :
    State :=
  answerAsk l f s (if field f.payload 0 = code then contents f.payload s else .error .range)

/-- R160: ASK JOB's judgement. -/
def askedJob (p : List Data) (s : State) : Except Reason (List Data) :=
  let n := field p 1
  if n = 0 ∨ Config.maxJobNumber < n then .error .range
  else match findJob s n with
    | none => .error .unknownJob
    | some j => .ok (jobBody j)

/-- R160: ASK POCKET's judgement. -/
def askedPocket (p : List Data) (s : State) : Except Reason (List Data) :=
  if field p 1 < Config.pocketCount then .ok (pocketBody s (field p 1)) else .error .range

/-- R161: ASK QUEUE's judgement. -/
def askedQueue (p : List Data) (s : State) : Except Reason (List Data) :=
  match linkOfCode (field p 1) with
  | none => .error .range
  | some l => if field p 2 < Config.maxQueue then .ok (queueBody s l (field p 2)) else .error .range

/-- R161: ASK CAPTURE's judgement. -/
def askedCapture (p : List Data) (s : State) : Except Reason (List Data) :=
  match linkOfCode (field p 1) with
  | none => .error .range
  | some l => .ok (captureBody s l)

/-- R161: ASK ENTRY's judgement. -/
def askedEntry (p : List Data) (s : State) : Except Reason (List Data) :=
  match entryBody s (field p 1) (field p 2) (field p 3) with
  | none => .error .range
  | some b => .ok b

/-- ASK_STATUS (R159). -/
def execAskStatus (l : Link) (s : State) : Out :=
  .next (handle (isAsk 0) (ask 0 (fun _ s => .ok (statusBody s))) l s)

/-- ASK_JOB (R160). -/
def execAskJob (l : Link) (s : State) : Out := .next (handle (isAsk 1) (ask 1 askedJob) l s)

/-- ASK_POCKET (R160). -/
def execAskPocket (l : Link) (s : State) : Out := .next (handle (isAsk 2) (ask 2 askedPocket) l s)

/-- ASK_QUEUE (R161). -/
def execAskQueue (l : Link) (s : State) : Out := .next (handle (isAsk 3) (ask 3 askedQueue) l s)

/-- ASK_CAPTURE (R161). -/
def execAskCapture (l : Link) (s : State) : Out := .next (handle (isAsk 4) (ask 4 askedCapture) l s)

/-- ASK_ENTRY (R161). -/
def execAskEntry (l : Link) (s : State) : Out := .next (handle (isAsk 5) (ask 5 askedEntry) l s)

/-- ASK_SET (R159). -/
def execAskSet (l : Link) (s : State) : Out :=
  .next (handle (isAsk 6) (ask 6 (fun _ s => .ok (setBody s))) l s)

end Sys2Proof.Machine
end

