-- ==== Sys2Proof/Machine/Jobs.lean ====
section
/-!
DEFINITION. Machine/Jobs.lean: the job list's accounting: seat statuses, counts, the reprint list, set outcomes and the
removal of CLOSING jobs (R9 to R21).
-/
namespace Sys2Proof.Machine

/-! ## One record -/

/-- The record with seat `seat`'s status set. -/
def Job.withSeat (j : Job) (seat : Nat) (st : SeatStatus) : Job :=
  if seat = 0 then j else { j with seats := changeAt (seat - 1) (fun _ => st) j.seats }

/-- The status of seat `seat`, when the seat-status list has it. -/
def Job.seatStatus (j : Job) (seat : Nat) : Option SeatStatus :=
  if seat = 0 then none else j.seats[seat - 1]?

/-- R17: the seat is added at the tail of the reprint list, unless it is there. A number that is no seat of the job is not
added (no set or sheet names one, notes/assumptions/26.md). -/
def Job.addReprint (j : Job) (seat : Nat) : Job :=
  if j.reprint.contains seat || seat == 0 || decide (j.seats.length < seat) then j
  else { j with reprint := j.reprint ++ [seat] }

/-- R18: the seat is removed from the reprint list. -/
def Job.removeReprint (j : Job) (seat : Nat) : Job := { j with reprint := j.reprint.filter (· != seat) }

/-- R14: one of the four counts of a set outcome. -/
inductive OutcomeCount where
  | delivered
  | diverted
  | exception
  | lost
deriving DecidableEq, Repr

/-- R14: the count is raised by 1, saturating at 65535. -/
def Job.raise (j : Job) : OutcomeCount → Job
  | .delivered => { j with delivered := satSucc Config.countTop j.delivered }
  | .diverted => { j with diverted := satSucc Config.countTop j.diverted }
  | .exception => { j with exceptions := satSucc Config.countTop j.exceptions }
  | .lost => { j with lost := satSucc Config.countTop j.lost }

/-- R21: the job summary. -/
def Job.summary (j : Job) : Summary :=
  { delivered := j.delivered, diverted := j.diverted, exceptions := j.exceptions, lost := j.lost,
    reprints := j.reprint.length, pending := (j.seats.filter (· == .pending)).length }

/-- R21: the body of CLOSE-JOB's DONE answer. -/
def Job.summaryBody (j : Job) : List Data := enc1 j.number ++ enc1 j.replyTag ++ encSummary j.summary

/-! ## Outcomes of sets (R14), taken when the set itself is no longer in the state -/

/-- R14: the record of a set's outcome: the count rises, and the seat takes the status unless another set of it is
live. -/
def accountOutcome (s : State) (job seat : Nat) (st : SeatStatus) (c : OutcomeCount) : State :=
  changeJob s job (fun j =>
    let j := j.raise c
    if seatLive s job seat then j else j.withSeat seat st)

/-- R17: the seat joins the reprint list of its job. -/
def addReprint (s : State) (job seat : Nat) : State := changeJob s job (fun j => j.addReprint seat)

/-- R18: the seat leaves the reprint list of its job. -/
def removeReprint (s : State) (job seat : Nat) : State := changeJob s job (fun j => j.removeReprint seat)

/-- R14, R168: the lost outcome. -/
def accountLost (s : State) (job seat : Nat) : State :=
  addReprint (accountOutcome s job seat .lost .lost) job seat

/-- R14: the segment loss: the seat stays IN-PROGRESS. -/
def accountSegmentLoss (s : State) (job seat : Nat) : State :=
  addReprint (changeJob s job (fun j => j.raise .lost)) job seat

/-- R14, R17, R98: the empty outcome. -/
def accountEmpty (s : State) (job seat : Nat) (flags : SetFlags) : State :=
  let s := accountOutcome s job seat .exception .exception
  if flags.incomplete then addReprint s job seat else s

/-- R14: the status and the count of a deposited final segment. The route of the final segment is EXCEPTION when any
earlier segment's was (R97). -/
def depositStatus (g : Segment) (place : Place) : SeatStatus × OutcomeCount :=
  if g.flags.withheld then (.withheld, .exception)
  else match g.route with
    | .exception => (.exception, .exception)
    | .normal => match place with
      | .seat => (.delivered, .delivered)
      | .exception | .overflow | .stacker => (.diverted, .diverted)

/-- R14, R17, R18: the deposited outcome. -/
def accountDeposit (s : State) (g : Segment) (place : Place) : State :=
  let o := depositStatus g place
  let s := accountOutcome s g.job g.seat o.1 o.2
  if g.flags.incomplete then addReprint s g.job g.seat
  else match o.1 with
    | .delivered | .diverted | .withheld => removeReprint s g.job g.seat
    | .pending | .inProgress | .exception | .lost | .late => s

/-- R15, R134: the end of an insert session. -/
def accountSession (s : State) (job seat inserted : Nat) : State :=
  if inserted = 0 then s
  else changeJob s job (fun j =>
    let j := j.removeReprint seat
    if seatLive s job seat then j else j.withSeat seat .late)

/-! ## Closing (R19, R20) -/

/-- A descriptor of job `n` stands in link `l`'s feed queue. -/
def queueHolds (s : State) (l : Link) (n : Nat) : Bool := (s.feeds.get l).entries.any (fun e => e.desc.job == n)

/-- R19: the job holds its close. -/
def holdsClose (s : State) (n : Nat) : Bool :=
  (liveSets s).any (fun x => x.1 == n) || queueHolds s .a n || queueHolds s .b n ||
  s.path.entries.any (fun e => match e.desc with | some d => d.job == n | none => false) ||
  (match s.session with | some z => z.job == n | none => false)

/-- The list without job `n`. -/
def dropJob (s : State) (n : Nat) : State := { s with jobs := s.jobs.filter (fun j => j.number != n) }

/-- R20: job `j`, when it is CLOSING and holds nothing, is removed and JOB-CLOSED is sent. -/
def removeIfClosed (s : State) (j : Job) : State :=
  match j.phase with
  | .opened => s
  | .closing =>
    if holdsClose s j.number then s
    else notify (dropJob s j.number) j.replyTag j.number (.jobClosed j.summary)

/-- R20: every CLOSING job that holds nothing is removed, in ascending job number (notes/assumptions/7.md). -/
def removeClosed (s : State) : State := (jobsAscending s).foldl removeIfClosed s

/-! ## Resets (R16) -/

/-- The seats of the list whose status is IN-PROGRESS, the first one being seat `first`, in ascending order
(notes/assumptions/39.md). -/
def inProgressFrom (first : Nat) : List SeatStatus → List Nat
  | [] => []
  | st :: rest => (if st == .inProgress then [first] else []) ++ inProgressFrom (first + 1) rest

/-- R16: the lost outcome of one IN-PROGRESS seat at a reset. -/
def Job.loseSeat (j : Job) (seat : Nat) : Job := ((j.raise .lost).withSeat seat .lost).addReprint seat

/-- R16: the LOST accounting of a retained job. The spec gives no order for several IN-PROGRESS seats of one job; the
model adds them to the reprint list in ascending seat number (DESIGN CHOICE, notes/assumptions/39.md). -/
def Job.loseAtReset (j : Job) : Job := (inProgressFrom 1 j.seats).foldl Job.loseSeat j

end Sys2Proof.Machine
end

