-- ==== Sys2Proof/Machine/Tower.lean ====
section
/-!
DEFINITION. Machine/Tower.lean: the charge, the destination chain, admission, carry, block, retry and re-target (R106 to
R114), the deposit into a target (R115), and the pocket records' answers to drawer, floor and configuration events
(R118 to R123).
-/
namespace Sys2Proof.Machine

/-! ## Charge and chain (R106, R109) -/

/-- R106: the curl allowance, the ceiling of h ÷ 16. -/
def curlAllowance (h : Nat) : Nat := ceilDiv h 16

/-- R106: the charge of a segment of height `h`. -/
def chargeOf (h : Nat) : Nat := h + curlAllowance h

/-- R109: a destination that appears again in a chain is left out; `seen` are those that stand before. -/
def dedupFrom (seen : List Dest) : List ChainOption → List ChainOption
  | [] => []
  | o :: os => if seen.contains o.dest then dedupFrom seen os else o :: dedupFrom (o.dest :: seen) os

/-- R109: the options of a segment's chain before the repeats are left out. -/
def rawChain (s : State) (g : Segment) : List ChainOption :=
  let tail : List ChainOption := [{ dest := .stacker, place := .stacker }]
  match findJob s g.job with
  | none => tail
  | some j =>
    let first : ChainOption := match g.route with
      | .normal => { dest := .pocket (seatPocket s g.cls g.seat), place := .seat }
      | .exception => { dest := .pocket j.exceptionPocket, place := .exception }
    let overflow : List ChainOption := match j.overflowPocket with
      | some p => [{ dest := .pocket p, place := .overflow }]
      | none => []
    first :: (overflow ++ tail)

/-- R109: the destination chain of a segment. -/
def chainOf (s : State) (g : Segment) : List ChainOption := dedupFrom [] (rawChain s g)

/-! ## Admission (R110) -/

/-- R118: the pocket becomes FULL and POCKET-FULL is sent, with the header's reply tag and job, and the charge that
failed when an admission caused it. -/
def fillUp (s : State) (p replyTag job : Nat) (failed : Option Nat) : State :=
  notify (changePocket s p (fun k => { k with state := .full })) replyTag job
    (.pocketFull p (pocketOf s p).fill (capacityOf s p) failed)

/-- R110, R127: the pocket is in the tower and AVAILABLE. -/
def pocketOffers (s : State) (p : Nat) : Bool :=
  decide (p < towerSize s) && (pocketOf s p).state == .available

/-- R110, R127: the pocket's fill plus `c` is at most its active capacity. -/
def pocketFits (s : State) (p c : Nat) : Bool := decide ((pocketOf s p).fill + c ≤ capacityOf s p)

/-- R110: the options are judged in order; the first eligible one is answered. A pocket that is AVAILABLE but fails on
capacity becomes FULL as it is passed over. -/
def judgeOptions (s : State) (g : Segment) (c : Nat) : List ChainOption → State × Option ChainOption
  | [] => (s, none)
  | o :: os =>
    match o.dest with
    | .stacker => if s.stacker.fill + c ≤ Config.stackerCapacity then (s, some o) else judgeOptions s g c os
    | .pocket p =>
      if pocketOffers s p then
        if pocketFits s p c then (s, some o)
        else judgeOptions (fillUp s p g.replyTag g.job (some c)) g c os
      else judgeOptions s g c os

/-- R110: the elevator is driven to the target, with a fresh delivery timer. -/
def carryTo (s : State) (o : ChainOption) : State :=
  { s with
    tower := { s.tower with phase := .carrying, target := some o }
    timers := { s.timers with delivery := some (msTicks Config.deliveryMs) } }

/-- R112: the tower is BLOCKED; STACKER-FULL is sent at the entry into BLOCKED. -/
def block (s : State) (g : Segment) (c : Nat) : State :=
  let s' := { s with
    tower := { s.tower with phase := .blocked, target := none }
    timers := { s.timers with delivery := none } }
  match s.tower.phase with
  | .blocked => s'
  | .idle | .receiving | .carrying | .held =>
    notify s' g.replyTag g.job (.stackerFull g.seat g.segment c s.stacker.fill)

/-- R110, R112: the carried segment is aimed at the first eligible one of the options, or the tower is BLOCKED. -/
def aim (s : State) (os : List ChainOption) : State :=
  match s.tower.carried, s.tower.charge with
  | some g, some c =>
    match judgeOptions s g c os with
    | (s', some o) => carryTo s' o
    | (s', none) => block s' g c
  | _, _ => s

/-- R112: a BLOCKED tower retries its chain from the first option, in RUNNING and HALTING. -/
def retry (s : State) : State :=
  match s.tower.phase with
  | .blocked => if active s then aim s s.tower.chain else s
  | .idle | .receiving | .carrying | .held => s

/-- R113: the options that follow the target in the chain. -/
def optionsAfter (o : ChainOption) (chain : List ChainOption) : List ChainOption :=
  (chain.dropWhile (fun x => x != o)).drop 1

/-- R113: a carry to pocket `p`, which has stopped being AVAILABLE, re-targets (in RUNNING and HALTING, R124). -/
def retarget (s : State) (p : Nat) : State :=
  match s.tower.phase, s.tower.target with
  | .carrying, some o =>
    if active s && o.dest == .pocket p then aim s (optionsAfter o s.tower.chain) else s
  | _, _ => s

/-! ## Deposit (R115) -/

def Side.opposite : Side → Side
  | .left => .right
  | .right => .left

/-- R115: the pocket record after a segment of charge `c` is dropped in it, short of becoming FULL. -/
def Pocket.deposit (k : Pocket) (cap c : Nat) : Pocket :=
  { k with
    fill := min cap (k.fill + c)
    setCount := satSucc Config.smallCountTop k.setCount
    side := k.side.opposite }

/-- R115: the target's record changes, and a pocket whose fill now equals its capacity becomes FULL. -/
def depositInto (s : State) (g : Segment) (c : Nat) : Dest → State
  | .stacker => { s with stacker := { fill := s.stacker.fill + c, side := s.stacker.side.opposite } }
  | .pocket p =>
    let s' := changePocket s p (fun k => k.deposit (capacityOf s p) c)
    if (pocketOf s' p).fill = capacityOf s p then fillUp s' p g.replyTag g.job none else s'

/-- The side a destination's last segment was dropped on. -/
def sideOf (s : State) : Dest → Side
  | .stacker => s.stacker.side
  | .pocket p => (pocketOf s p).side

/-- A destination's fill. -/
def fillOf (s : State) : Dest → Nat
  | .stacker => s.stacker.fill
  | .pocket p => (pocketOf s p).fill

/-- R117: the fields of SET-DELIVERED, from the state after the target's record has changed. -/
def deliveryOf (s : State) (g : Segment) (c : Nat) (o : ChainOption) : Delivery :=
  { seat := g.seat, dest := o.dest, place := o.place, side := sideOf s o.dest, segment := g.segment,
    final := g.final, sheets := g.sheets, totalSheets := g.totalSheets, height := g.height, charge := c,
    staples := g.staples, route := g.route, flags := g.flags, jamMark := g.jamMark, note := g.note,
    fillAfter := fillOf s o.dest }

/-! ## Drawer and floor events (R119 to R121) -/

/-- The levels with pocket `p`'s bit set to `b`. -/
def setLevel (v : PocketLevels) (p : Nat) (b : Bool) : PocketLevels :=
  if b then v ||| (1#40 <<< p) else v &&& ~~~(1#40 <<< p)

/-- The drawer line of pocket `p` as last sensed. -/
def senseDrawer (s : State) (p : Nat) (drawerIn : Bool) : State :=
  { s with pins := { s.pins with pockets :=
      { s.pins.pockets with drawersIn := setLevel s.pins.pockets.drawersIn p drawerIn } } }

/-- The floor line of pocket `p` as last sensed. -/
def senseFloor (s : State) (p : Nat) (empty : Bool) : State :=
  { s with pins := { s.pins with pockets :=
      { s.pins.pockets with floorsEmpty := setLevel s.pins.pockets.floorsEmpty p empty } } }

/-- R120, R121: the pocket starts afresh on an empty floor. -/
def Pocket.emptied (k : Pocket) : Pocket :=
  { k with state := .available, remembered := none, fill := 0, setCount := 0, side := .right, floorEmpty := true }

/-- R120: a WITHDRAWN pocket's drawer comes back over a floor that reads as `empty`. -/
def Pocket.returned (k : Pocket) (empty : Bool) : Pocket :=
  if empty then k.emptied
  else { k with state := k.remembered.getD .unverified, remembered := none, floorEmpty := false }

/-- R119: the pocket's drawer goes out. -/
def Pocket.withdraw (k : Pocket) : Pocket := { k with state := .withdrawn, remembered := some k.state }

/-- R119: the drawer-open event takes the pocket's state: it is enabled and its drawer is in. -/
def drawerOpenTakes (s : State) (p : Nat) : Bool :=
  decide (p < towerSize s) &&
  (match (pocketOf s p).state with
   | .available | .full | .unverified => true
   | .withdrawn | .disabled => false)

/-- R119: the pocket becomes WITHDRAWN and POCKET-WITHDRAWN is sent. -/
def withdrawPocket (s : State) (p : Nat) : State :=
  let k := pocketOf s p
  notifyPlain (changePocket s p Pocket.withdraw) (.pocketWithdrawn p k.state k.fill)

/-- R120, R121: POCKET-RETURNED with the pocket's new state and fill. -/
def notifyReturned (s : State) (p : Nat) : State :=
  notifyPlain s (.pocketReturned p (pocketOf s p).state (pocketOf s p).fill)

/-! ## Configuration (R122) -/

/-- R122: the effect of the change of the enabled flag. -/
def Pocket.react (k : Pocket) (was now drawerIn floorEmpty : Bool) : Pocket :=
  if was && !now then { k with state := .disabled, remembered := none }
  else if !was && now && k.state == .disabled then
    if drawerIn then
      if floorEmpty then k.emptied else { k with state := .unverified, remembered := none, floorEmpty := false }
    else { k with state := .withdrawn, remembered := some .unverified, floorEmpty := floorEmpty }
  else k

/-- R122: the two tests of a state against fill and capacity. -/
def PocketState.refill (st : PocketState) (fill cap : Nat) : PocketState :=
  match st with
  | .available => if fill = cap then .full else .available
  | .full => if fill < cap then .available else .full
  | .withdrawn | .disabled | .unverified => st

/-- R122: the effect of a changed capacity. -/
def Pocket.refit (k : Pocket) (cap : Nat) : Pocket :=
  let fill := min k.fill cap
  { k with
    fill := fill
    state := k.state.refill fill cap
    remembered := k.remembered.map (fun st => st.refill fill cap) }

/-- R122: pocket `p`'s record reacts to the application of its configuration entry, whose active part was `old`. -/
def reactPocket (s : State) (p : Nat) (old : PocketConfig) : State :=
  let now := ((s.tables.pockets[p]?).map (·.active)).getD old
  let k := pocketOf s p
  let k1 := k.react old.enabled now.enabled (s.pins.pockets.drawersIn.getLsbD p)
    (s.pins.pockets.floorsEmpty.getLsbD p)
  let k2 := if now.capacity = old.capacity then k1 else k1.refit now.capacity
  let s' := changePocket s p (fun _ => k2)
  match k1.state, k2.state with
  | .available, .full => notifyPlain s' (.pocketFull p k2.fill now.capacity none)
  | _, _ => s'

/-! ## Resets (R123) -/

/-- R123: pocket `p` at a power-on with the retention-valid flag clear. -/
def freshPocket (size p : Nat) (pins : PocketPins) : Pocket :=
  if size ≤ p then Pocket.fresh
  else
    let empty := pins.floorsEmpty.getLsbD p
    let st : PocketState := if empty then .available else .unverified
    if pins.drawersIn.getLsbD p then { Pocket.fresh with state := st, floorEmpty := empty }
    else { Pocket.fresh with state := .withdrawn, remembered := some st, floorEmpty := empty }

/-- R123: a kept pocket record at a reset, whose drawer reads as `drawerIn`. -/
def Pocket.rescan (k : Pocket) (drawerIn floorEmpty : Bool) : Pocket :=
  match k.state with
  | .disabled => k
  | .withdrawn => if drawerIn then k.returned floorEmpty else k
  | .available | .full | .unverified => if drawerIn then k else k.withdraw

/-- R123: the kept pocket records, from pocket `p` on. -/
def rescanFrom (size : Nat) (pins : PocketPins) (p : Nat) : List Pocket → List Pocket
  | [] => []
  | k :: ks =>
    (if size ≤ p then k else k.rescan (pins.drawersIn.getLsbD p) (pins.floorsEmpty.getLsbD p)) ::
      rescanFrom size pins (p + 1) ks

end Sys2Proof.Machine
end

