-- ==== Sys2Proof/Machine/Insert.lean ====
section
/-!
DEFINITION. Machine/Insert.lean: the insert session: its target, its hold of the tower, its counting and its end (R126 to
R134).
-/
namespace Sys2Proof.Machine

/-- R127: the pocket is eligible for one sheet of the grade. -/
def takesSheet (s : State) (p grade : Nat) : Bool := pocketOffers s p && pocketFits s p (thickness s grade)

/-- R127: the insert target of a seat of job `j`: the seat's pocket when it is eligible, and otherwise the job's
exception pocket when that is. -/
def insertTarget (s : State) (j : Job) (seat grade : Nat) : Option (Nat × Place) :=
  if takesSheet s (seatPocket s j.cls seat) grade then some (seatPocket s j.cls seat, .seat)
  else if takesSheet s j.exceptionPocket grade then some (j.exceptionPocket, .exception)
  else none

/-- R133, step 1: the tower at the end of a session that held it: IDLE at once for end cause FAULT, and otherwise
HELD, its elevator returning under the delivery timer. -/
def releaseTower (s : State) (cause : EndCause) : State :=
  match cause with
  | .fault => { s with tower := { s.tower with phase := .idle } }
  | .insDone | .countReached | .noFirstSheet | .sheetGap | .drawer | .targetDisabled | .noPocket =>
    { s with timers := { s.timers with delivery := some (msTicks Config.deliveryMs) } }

/-- R133, R134: the session `z` ends: the tower is released when it was held, INSERT-DONE is sent, the job list is told
and the record becomes NONE; a CLOSING job that nothing else holds is removed. -/
def endSession (s : State) (z : Session) (cause : EndCause) : State :=
  let s1 := if z.towerTaken then releaseTower s cause else s
  let s2 := notify { s1 with session := none } z.replyTag z.job
    (.insertDone z.seat z.target z.place z.expected z.inserted cause (pocketOf s z.target).fill)
  removeClosed (accountSession s2 z.job z.seat z.inserted)

/-- R129: a WAITING session takes the IDLE tower, judging its target again, or ends with NO-POCKET. The seat's pocket is
formed again from the class entry (R2) though a smaller class committed since the request may have dropped the seat, whose
entry R1 has no block read (DESIGN CHOICE, notes/assumptions/41.md). -/
def sessionTakesTower (s : State) : State :=
  match s.session, s.tower.phase with
  | some z, .idle =>
    if z.phase == .waiting && !z.towerTaken then
      match (findJob s z.job).bind (fun j => insertTarget s j z.seat z.grade) with
      | none => endSession s z .noPocket
      | some t =>
        { s with
          session := some { z with target := t.1, place := t.2, towerTaken := true,
                                   timer := some (.positioning, msTicks Config.positioningMs) }
          tower := { s.tower with phase := .held } }
    else s
  | _, _ => s

/-- R133: the session ends with `cause` when pocket `p` is its fixed target. -/
def endSessionAt (s : State) (p : Nat) (cause : EndCause) : State :=
  match s.session with
  | some z => if z.towerTaken && z.target == p then endSession s z cause else s
  | none => s

/-- R131: the fill of the target pocket after one more sheet. -/
def addSheetToPocket (s : State) (z : Session) : State :=
  let cap := capacityOf s z.target
  let was := pocketOf s z.target
  let s' := changePocket s z.target (fun k => { k with fill := min cap (k.fill + thickness s z.grade) })
  if (pocketOf s' z.target).fill = cap ∧ was.state = .available then fillUp s' z.target z.replyTag z.job none else s'

end Sys2Proof.Machine
end

