-- ==== Sys2Proof/Machine/Feed.lean ====
section
/-!
DEFINITION. Machine/Feed.lean: the feed queues: arrival, the checks at the head, the fault capture and the classification of
a valid head (R22 to R37).
-/
namespace Sys2Proof.Machine

/-! ## Arrival (R25, R26) -/

/-- R26: the mark a descriptor joins the queue with. -/
def arrivalMark (q : List QueueEntry) (d : Desc) : Option FaultyReason :=
  if d.job = 0 ∨ 63 < d.job ∨ d.seat = 0 ∨ 40 < d.seat ∨ d.part = 0 ∨ 6 < d.part ∨ d.index = 0 ∨ 99 < d.index then
    some .range
  else if q.any (fun e => e.desc.tag == d.tag) then some .duplicateTag
  else none

/-! ## Checks (R30, R31) -/

/-- R31: the ordering test finds the sheet out of order. -/
def outOfOrder (s : State) (d : Desc) : Bool :=
  match openSet s with
  | some r =>
    r.isOf d.job d.seat &&
    (decide (d.part < r.part) ||
      (d.part == r.part && decide (d.index ≤ ((r.parts[d.part - 1]?).map (·.lastIndex)).getD 0)))
  | none => false

/-- R30, checks 2 to 5, for a descriptor of job `j` on link `l`: the first that fails. -/
def checkAgainst (s : State) (l : Link) (d : Desc) (j : Job) : Option FaultyReason :=
  if j.seats.length < d.seat ∨ (classOf s j.cls).seatCount < d.seat then some .seatRange
  else match (planOf s j.plan).parts[d.part - 1]? with
    | none => some .partRange
    | some p =>
      if p.source ≠ l then some .wrongLink
      else if outOfOrder s d then some .order
      else none

/-- R30: the first check that fails for a head on link `l`. -/
def checkHead (s : State) (l : Link) (d : Desc) : Option FaultyReason :=
  match findJob s d.job with
  | none => some .unknownJob
  | some j => checkAgainst s l d j

/-! ## Capture (R32, R33) and change of head (R27) -/

/-- R32, R33: a FAULTY head is captured, and DESCRIPTOR-FAULT is sent. -/
def captureHead (s : State) (l : Link) (d : Desc) (r : FaultyReason) : State :=
  let n := satSucc Config.countTop (s.feeds.get l).capture.count
  notifyAnnounced (changeFeed s l (fun q => { q with capture := { count := n, held := some (d, r) } })) d.job
    (.descriptorFault l r d n)

/-- R27, R30: the mark and checked flag a queue entry has once it is the head. -/
def judgedHead (s : State) (l : Link) (e : QueueEntry) : QueueEntry :=
  match e.faulty with
  | some _ => { e with standing := .waiting }
  | none =>
    if e.checked then { e with standing := .waiting }
    else match checkHead s l e.desc with
      | some r => { e with standing := .waiting, faulty := some r }
      | none => { e with standing := .waiting, checked := true }

/-- R27: the descriptor now at the front of link `l`'s queue becomes the head: WAITING, checked, and captured when it
is FAULTY. -/
def newHead (s : State) (l : Link) : State :=
  match headOf s l with
  | none => s
  | some e =>
    let e' := judgedHead s l e
    let s' := changeHead s l (fun _ => e')
    match e'.faulty with
    | some r => captureHead s' l e'.desc r
    | none => s'

/-- R28: the head leaves the queue; the descriptor behind it is not yet the head. -/
def dropHead (s : State) (l : Link) : State :=
  changeFeed s l (fun q => { q with entries := q.entries.tail })

/-- R24, R26: a descriptor joins the tail of link `l`'s queue. -/
def appendDesc (s : State) (l : Link) (d : Desc) : State :=
  changeFeed s l (fun q => { q with entries := q.entries ++
    [{ desc := d, standing := .queued, checked := false, faulty := arrivalMark q.entries d }] })

/-- R23 to R27: an ANNOUNCE's descriptor arrives at link `l`'s feed queue. -/
def arrive (s : State) (l : Link) (d : Desc) : State :=
  if Config.maxQueue ≤ (s.feeds.get l).entries.length then notifyAnnounced s d.job (.queueOverflow l d)
  else if (s.feeds.get l).entries.isEmpty then newHead (appendDesc s l d) l
  else appendDesc s l d

/-! ## Classification (R34 to R36) -/

/-- The classes of a checked WAITING head (R34). -/
inductive HeadClass where
  | noLongerValid
  | partOfOpen
  | parkedOwned
  | setOpening
  | heldForCommit
  | orphan
deriving DecidableEq, Repr

/-- R4: part `p` is an opening part: part 1, or every part before it has min count 0. -/
def PlanBody.opening (b : PlanBody) (p : Nat) : Bool :=
  decide (1 ≤ p) && decide (p ≤ b.parts.length) && (b.parts.take (p - 1)).all (fun x => x.minCount == 0)

/-- R34: a set of the job and seat is open. -/
def openIsOf (s : State) (job seat : Nat) : Bool :=
  match openSet s with
  | some r => r.isOf job seat
  | none => false

/-- R34, R65: a set of the job and seat is on the shelf, at either position. -/
def parkedIsOf (s : State) (job seat : Nat) : Bool := s.shelf.stack.any (fun r => r.isOf job seat)

/-- R34: the class of a checked head on link `l`. -/
def classify (s : State) (l : Link) (d : Desc) : HeadClass :=
  match findJob s d.job with
  | none => .noLongerValid
  | some j =>
    match checkAgainst s l d j with
    | some _ => .noLongerValid
    | none =>
      if openIsOf s d.job d.seat then .partOfOpen
      else if parkedIsOf s d.job d.seat then .parkedOwned
      else if d.index = 1 ∧ (planOf s j.plan).opening d.part = true then
        if planDraining s j.plan || classDraining s j.cls then .heldForCommit else .setOpening
      else .orphan

/-- The class of link `l`'s head, when it is WAITING, checked and not FAULTY. -/
def headClass (s : State) (l : Link) : Option HeadClass :=
  match headOf s l with
  | some e =>
    match e.standing, e.faulty with
    | .waiting, none => if e.checked then some (classify s l e.desc) else none
    | _, _ => none
  | none => none

/-- R60, R46: the priority of the job of link `l`'s head, when the head is WAITING and set-opening. -/
def openingPriority (s : State) (l : Link) : Option Nat :=
  match headClass s l, headOf s l with
  | some .setOpening, some e => (findJob s e.desc.job).map (·.priority)
  | _, _ => none

/-- R45: link `l`'s orphan head is deferred: the other link's head is WAITING, set-opening or held for commit, and of
the same job and seat. -/
def deferred (s : State) (l : Link) (d : Desc) : Bool :=
  match headClass s (otherLink l), headOf s (otherLink l) with
  | some .setOpening, some e => e.desc.job == d.job && e.desc.seat == d.seat
  | some .heldForCommit, some e => e.desc.job == d.job && e.desc.seat == d.seat
  | _, _ => false

/-- R45: the purpose of the purge grant link `l`'s head qualifies for, if any. -/
def purgePurpose (s : State) (l : Link) : Option Purpose :=
  match headOf s l with
  | none => none
  | some e =>
    match e.standing with
    | .queued | .granted _ => none
    | .waiting =>
      match e.faulty with
      | some _ => some .purgeFaulty
      | none =>
        match headClass s l with
        | some .noLongerValid => some .purgeOrphan
        | some .orphan => if deferred s l e.desc then none else some .purgeOrphan
        | some .partOfOpen | some .parkedOwned | some .setOpening | some .heldForCommit | none => none

end Sys2Proof.Machine
end

