-- ==== Sys2Proof/Machine/Tables.lean ====
section
/-!
DEFINITION. Machine/Tables.lean: the table store: reference counts (R136), marks and application (R141, R142, R144), and
the LOADs' clamps and structure checks (R137 to R140).
-/
namespace Sys2Proof.Machine

/-! ## References (R136) -/

/-- The reference count changed by `f`. -/
def Entry.withRefs {α : Type} (f : Nat → Nat) (e : Entry α) : Entry α := { e with refs := f e.refs }

/-- The reference counts of a plan and a class entry changed by `f`. -/
def changeRefs (s : State) (plan cls : Nat) (f : Nat → Nat) : State :=
  { s with tables := { s.tables with
      plans := changeAt plan (Entry.withRefs f) s.tables.plans
      classes := changeAt cls (Entry.withRefs f) s.tables.classes } }

/-- R136: a set start. -/
def takeRefs (s : State) (plan cls : Nat) : State := changeRefs s plan cls (· + 1)

/-- R136: a final deposit, an empty outcome or a loss. -/
def dropRefs (s : State) (plan cls : Nat) : State := changeRefs s plan cls (· - 1)

/-! ## Marks and application (R141, R142) -/

/-- R141: the mark is set on an entry that has a pending part. -/
def Entry.mark {α : Type} (e : Entry α) : Entry α := { e with marked := e.marked || e.pending.isSome }

/-- R142: the entry applies now. -/
def Entry.ready {α : Type} (e : Entry α) : Bool := e.marked && decide (e.refs = 0)

/-- R142: the pending part becomes the active part, the pending part is removed and the mark cleared. -/
def Entry.apply {α : Type} (e : Entry α) : Entry α :=
  if e.ready then { active := e.pending.getD e.active, pending := none, marked := false, refs := e.refs } else e

/-- R141: the groups of a scope code: ROSTER 0, PLAN 1, GRADE 2, POCKET 3, TRANSPORT 4, ALL 5. -/
def inScope (scope group : Nat) : Bool := scope == group || scope == 5

/-- R141: the marks set by a COMMIT. -/
def Tables.mark (scope : Nat) (t : Tables) : Tables :=
  { classes := if inScope scope 0 then t.classes.map Entry.mark else t.classes
    plans := if inScope scope 1 then t.plans.map Entry.mark else t.plans
    grades := if inScope scope 2 then t.grades.map Entry.mark else t.grades
    pockets := if inScope scope 3 then t.pockets.map Entry.mark else t.pockets
    transport := if inScope scope 4 then t.transport.mark else t.transport }

/-- The number of entries that apply now. -/
def Tables.readyCount (t : Tables) : Nat :=
  (t.classes.filter Entry.ready).length + (t.plans.filter Entry.ready).length +
  (t.grades.filter Entry.ready).length + (t.pockets.filter Entry.ready).length + t.transport.ready.toNat

/-- R142: all entries that apply at one event apply together. -/
def Tables.apply (t : Tables) : Tables :=
  { classes := t.classes.map Entry.apply
    plans := t.plans.map Entry.apply
    grades := t.grades.map Entry.apply
    pockets := t.pockets.map Entry.apply
    transport := t.transport.apply }

/-- R144: some entry of the store is marked. -/
def Tables.anyMarked (t : Tables) : Bool :=
  t.classes.any (·.marked) || t.plans.any (·.marked) || t.grades.any (·.marked) || t.pockets.any (·.marked) ||
  t.transport.marked

/-- R144: COMMIT-DONE is sent when the store holds no marked entry. -/
def commitDoneTest (s : State) (applied : Nat) : State :=
  if s.tables.anyMarked then s else notifyPlain s (.commitDone applied)

/-- R142, R144: the application at a release. Heads held for commit need no telling: a head is classified afresh
whenever it is looked at (R36). -/
def applyReleased (s : State) : State :=
  let n := s.tables.readyCount
  if n = 0 then s else commitDoneTest { s with tables := s.tables.apply } n

/-! ## Loads (R137 to R140) -/

/-- What a LOAD's judgement gives: refused STRUCTURE, or the new tables and whether a value was clamped or rounded. -/
inductive LoadResult where
  | refused
  | written (t : Tables) (clamped : Bool)

/-- R139: a numeric value, clamped, and whether it changed. -/
def clampField (lo hi v : Nat) : Nat × Bool := (clampTo lo hi v, clampTo lo hi v != v)

/-- R139: a speed, clamped and rounded down to the grid, and whether it changed. -/
def clampSpeed (v : Nat) : Nat × Bool :=
  let w := clampTo 200 800 v / 10 * 10
  (w, w != v)

/-- R137: the pending part a class load writes into: the pending part there is, or a copy of the active part. -/
def Entry.staged {α : Type} (e : Entry α) : α := e.pending.getD e.active

/-- R137: the pending part becomes `x`; the mark stays. -/
def Entry.stage {α : Type} (x : α) (e : Entry α) : Entry α := { e with pending := some x }

/-- R137: the CLASS load. -/
def judgeLoadClass (t : Tables) (p : List Data) : LoadResult :=
  match t.classes[field p 1]? with
  | none => .refused
  | some e =>
    let count := clampField 0 40 (field p 2)
    let base := clampField 0 39 (field p 3)
    let body := { e.staged with seatCount := count.1, pocketBase := base.1 }
    .written { t with classes := changeAt (field p 1) (Entry.stage body) t.classes } (count.2 || base.2)

/-- The seat entries a SEATS run carries, each with whether its offset was clamped; none when a withheld code names no
value (R140). -/
def seatRun (p : List Data) : Nat → Nat → Option (List (SeatEntry × Bool))
  | _, 0 => some []
  | pos, n + 1 =>
    match boolOfCode (field p (pos + 1)), seatRun p (pos + 2) n with
    | some w, some rest =>
      let off := clampField 0 39 (field p pos)
      some (({ offset := off.1, withheld := w }, off.2) :: rest)
    | _, _ => none

/-- The seat entries with a run written from index `i` (seat `i + 1`). -/
def writeRun (i : Nat) (run : List SeatEntry) (seats : List SeatEntry) : List SeatEntry :=
  match run with
  | [] => seats
  | x :: xs => writeRun (i + 1) xs (changeAt i (fun _ => x) seats)

/-- R137: the SEATS load. -/
def judgeLoadSeats (t : Tables) (p : List Data) : LoadResult :=
  let first := field p 2
  let run := field p 3
  match t.classes[field p 1]? with
  | none => .refused
  | some e =>
    if first = 0 ∨ 40 < first ∨ run = 0 ∨ 20 < run ∨ 40 < first + run - 1 then .refused
    else match seatRun p 4 run with
      | none => .refused
      | some es =>
        let body := { e.staged with seats := writeRun (first - 1) (es.map (·.1)) e.staged.seats }
        .written { t with classes := changeAt (field p 1) (Entry.stage body) t.classes } (es.any (·.2))

/-- The parts a PLAN load carries, each with whether a value was clamped; none when a source code names no link or a
part's min exceeds its max after the clamps (R140). -/
def partRun (p : List Data) : Nat → Nat → Option (List (PlanPart × Bool))
  | _, 0 => some []
  | pos, n + 1 =>
    match linkOfCode (field p pos), partRun p (pos + 3) n with
    | some l, some rest =>
      let lo := clampField 0 99 (field p (pos + 1))
      let hi := clampField 1 99 (field p (pos + 2))
      if hi.1 < lo.1 then none
      else some (({ source := l, minCount := lo.1, maxCount := hi.1 }, lo.2 || hi.2) :: rest)
    | _, _ => none

/-- R137: the PLAN load. -/
def judgeLoadPlan (t : Tables) (p : List Data) : LoadResult :=
  let count := field p 2
  let tail := 3 + 3 * count
  match t.plans[field p 1]? with
  | none => .refused
  | some _ =>
    if 6 < count then .refused
    else match partRun p 3 count, stapleModeOfCode (field p tail), boolOfCode (field p (tail + 1)),
        boolOfCode (field p (tail + 2)) with
      | some parts, some mode, some req, some park =>
        let body : PlanBody :=
          { parts := parts.map (·.1), stapleMode := mode, stapleRequired := req, parkPermitted := park }
        .written { t with plans := changeAt (field p 1) (Entry.stage body) t.plans } (parts.any (·.2))
      | _, _, _, _ => .refused

/-- R137: the GRADE load. -/
def judgeLoadGrade (t : Tables) (p : List Data) : LoadResult :=
  match t.grades[field p 1]? with
  | none => .refused
  | some _ =>
    let v := clampField 6 30 (field p 2)
    .written { t with grades := changeAt (field p 1) (Entry.stage v.1) t.grades } v.2

/-- R137: the POCKET load. -/
def judgeLoadPocket (t : Tables) (p : List Data) : LoadResult :=
  match t.pockets[field p 1]?, boolOfCode (field p 4) with
  | some _, some en =>
    let cap := clampField 200 6000 (field2 p 2)
    .written { t with pockets := changeAt (field p 1) (Entry.stage { capacity := cap.1, enabled := en }) t.pockets }
      cap.2
  | _, _ => .refused

/-- R137: the TRANSPORT load. -/
def judgeLoadTransport (t : Tables) (p : List Data) : LoadResult :=
  match linkOfCode (field p 6) with
  | none => .refused
  | some l =>
    let sp := clampSpeed (field2 p 1)
    let fw := clampField 200 3000 (field2 p 3)
    let st := clampField 1 30 (field p 5)
    let body : Transport := { speed := sp.1, feedWindow := fw.1, stall := st.1, noticeLink := l }
    .written { t with transport := t.transport.stage body } (sp.2 || fw.2 || st.2)

/-- R137, R140: the handling of a LOAD whose kind code is `code`; a kind code that names no LOAD kind is refused
STRUCTURE. -/
def load (code : Nat) (judge : Tables → List Data → LoadResult) (l : Link) (f : Frame) (s : State) : State :=
  match (if field f.payload 0 = code then judge s.tables f.payload else .refused) with
  | .refused => answer s l f.broadcast f.kind (.refused .structureError) []
  | .written t clamped =>
    answer { s with tables := t } l f.broadcast f.kind (if clamped then .clamped else .done) []

end Sys2Proof.Machine
end

