-- ==== Sys2Proof/Machine/Tray.lean ====
section
/-!
DEFINITION. Machine/Tray.lean: the compile tray and the stapler: sheets taken, split and close, the staple decision and
fires, the segment's route, the eject, and the empty outcome (R91 to R105).
-/
namespace Sys2Proof.Machine

/-! ## Sheets (R92) -/

/-- R92: a sheet of thickness `th` is added to the present segment. -/
def SetRec.addSheet (r : SetRec) (th : Nat) : SetRec :=
  { r with
    traySheets := r.traySheets + 1
    totalSheets := r.totalSheets + 1
    trayHeight := min Config.maxTrayHeight (r.trayHeight + th) }

/-- R93: the split check fires for a head of thickness `th`, with the tray-bound sheets of thicknesses `bound`. -/
def splitFires (r : SetRec) (bound : List Nat) (th : Nat) : Bool :=
  decide (Config.maxSegmentSheets < r.traySheets + bound.length + 1) ||
  decide (Config.maxTrayHeight < r.trayHeight + bound.sum + th)

/-- R93: the thickness now of each tray-bound sheet's grade. -/
def boundThicknesses (s : State) : List Nat :=
  (trayBound s).map (fun e => match e.desc with | some d => thickness s d.grade | none => 0)

/-! ## Segments (R91, R95 to R97) -/

/-- R91: the segment-close record at the start of a close. -/
def SegClose.start (kind : CloseKind) : SegClose :=
  { kind := kind, asked := 0, fired := 0, jamMark := false, unstapled := false, route := none }

/-- R5: the staples a mode asks for. -/
def StapleMode.count : StapleMode → Nat
  | .none => 0
  | .corner => 1
  | .edge => 2

/-- R97: the route of a segment that goes on to READY. -/
def segmentRoute (r : SetRec) (c : SegClose) (stapleRequired : Bool) : SegRoute :=
  if r.exceptionMark || r.flags.takesException || (c.unstapled && stapleRequired) || c.jamMark then .exception
  else .normal

/-- R97: the segment record, from the set record and the segment-close record. -/
def segmentOf (r : SetRec) (c : SegClose) : Segment :=
  { job := r.job, seat := r.seat, plan := r.plan, cls := r.cls, replyTag := r.replyTag, segment := r.segment,
    final := c.kind == .final, sheets := r.traySheets, totalSheets := r.totalSheets,
    height := r.trayHeight + Config.stapleAllowance * c.fired, staples := c.fired,
    route := c.route.getD .normal, flags := r.flags, jamMark := c.jamMark, note := r.note }

/-- R102: a READY tray ejects into an IDLE tower, in RUNNING and HALTING. -/
def tryEject (s : State) : State :=
  match s.tray.phase, s.tower.phase with
  | .ready, .idle =>
    if active s then
      { s with
        tray := { s.tray with phase := .ejecting }
        tower := { s.tower with phase := .receiving }
        timers := { s.timers with eject := some (msTicks Config.ejectMs) } }
    else s
  | _, _ => s

/-- R97: the segment goes on to READY with its route fixed, and is ejected when the tower is IDLE. -/
def toReady (s : State) : State :=
  match s.tray.held, s.tray.close with
  | some r, some c =>
    let route := segmentRoute r c (planOf s r.plan).stapleRequired
    tryEject { s with tray :=
      { phase := .ready
        held := some { r with exceptionMark := r.exceptionMark || route == .exception }
        close := some { c with route := some route } } }
  | _, _ => s

/-- R99: the tray asks the stapler for a fire, for the segment it holds. -/
def requestFire (s : State) (r : SetRec) : State :=
  let owner : FireOwner := { job := r.job, seat := r.seat, segment := r.segment, lost := false }
  match s.stapler.phase with
  | .ready =>
    { s with
      stapler := { s.stapler with phase := .firing, requestWaiting := false, owner := some owner }
      timers := { s.timers with completion := some (msTicks Config.completionMs) } }
  | .recovering => { s with stapler := { s.stapler with requestWaiting := true, owner := some owner } }
  | .firing | .jammed => s

/-- R95: the stapler can take the staples asked. -/
def staplerServes (s : State) (asked height : Nat) : Bool :=
  (match s.stapler.phase with
   | .ready | .recovering => true
   | .firing | .jammed => false) &&
  decide (asked ≤ s.stapler.cartridge) && decide (height ≤ Config.maxStapleHeight)

/-- R95, R96: the segment is marked unstapled and the set gains UNSTAPLED. -/
def markUnstapled (s : State) (jam : Bool) : State :=
  { s with tray := { s.tray with
      held := s.tray.held.map (fun r => { r with flags := r.flags.withUnstapled })
      close := s.tray.close.map (fun c => { c with unstapled := true, jamMark := c.jamMark || jam }) } }

/-- R95: the staple decision of the segment that is closing. -/
def stapleDecision (s : State) : State :=
  match s.tray.held with
  | none => s
  | some r =>
    let asked := (planOf s r.plan).stapleMode.count
    let s := { s with tray := { s.tray with close := s.tray.close.map (fun c => { c with asked := asked }) } }
    if asked = 0 then toReady s
    else if staplerServes s asked r.trayHeight then requestFire s r
    else toReady (markUnstapled s false)

/-- R96: a fire's completion is reported to the tray. -/
def reportFired (s : State) : State :=
  match s.tray.held, s.tray.close with
  | some r, some c =>
    let c' := { c with fired := c.fired + 1 }
    let s' := { s with tray := { s.tray with close := some c' } }
    if c'.asked ≤ c'.fired then toReady s' else requestFire s' r
  | _, _ => s

/-- R96: a stapler jam is reported to the tray. -/
def reportJam (s : State) : State := toReady (markUnstapled s true)

/-- R99, R105: the stapler's report reaches the tray: the segment has not been lost, and the state is not FAULTED. -/
def reportTaken (s : State) : Bool :=
  (match s.stapler.owner with | some o => !o.lost | none => false) && s.run != .faulted &&
  s.tray.phase == .stapling

/-! ## Closing (R55, R93, R94, R98) -/

/-- R94: a closing split segment whose wait is over makes its staple decision. -/
def splitWaitOver (s : State) : State :=
  if (trayBound s).isEmpty then stapleDecision s else s

/-- R93: the split begins. -/
def beginSplit (s : State) : State :=
  splitWaitOver { s with tray := { s.tray with phase := .stapling, close := some (SegClose.start .split) } }

/-- R98: the empty outcome of the set `r` the tray holds: the tray is EMPTY, the outcome is accounted, SET-EMPTY is
sent, CLOSING jobs that hold nothing are removed, and the references are released. -/
def emptyOutcome (s : State) (r : SetRec) : State :=
  let s := accountEmpty { s with tray := Tray.empty } r.job r.seat r.flags
  let s := notify s r.replyTag r.job (.setEmpty r.seat r.segment r.totalSheets r.flags)
  applyReleased (dropRefs (removeClosed s) r.plan r.cls)

/-- R55, R94, R98: the open set `r` is handed to the tray for its final close. -/
def closeFinal (s : State) (r : SetRec) : State :=
  let s := { s with tray := { s.tray with phase := .stapling, close := some (SegClose.start .final) } }
  if r.traySheets = 0 then
    if elevatorHoldsEarlier s r.job r.seat then s else emptyOutcome s r
  else stapleDecision s

/-- R98, R116: the tray is told of the deposit of segment `g`: an empty final segment that waited for it gives its
outcome. -/
def trayToldDeposit (s : State) (g : Segment) : State :=
  match s.tray.phase, s.tray.held, s.tray.close with
  | .stapling, some r, some c =>
    if c.kind == .final && r.traySheets == 0 && !g.final && r.isOf g.job g.seat then emptyOutcome s r else s
  | _, _, _ => s

/-- R103: the set goes on in its next segment. -/
def SetRec.nextSegment (r : SetRec) : SetRec :=
  { r with segment := r.segment + 1, traySheets := 0, trayHeight := 0 }

/-- R103: the tray after its segment has been received. -/
def Tray.received (t : Tray) : Tray :=
  match t.close with
  | none => Tray.empty
  | some c => match c.kind with
    | .final => Tray.empty
    | .split => { phase := .compiling, held := t.held.map SetRec.nextSegment, close := none }

/-- R103: the tray acts on the tower's receipt of its segment. -/
def trayToldReceived (s : State) : State :=
  { s with tray := s.tray.received, timers := { s.timers with eject := none } }

end Sys2Proof.Machine
end

