-- ==== Sys2Proof/Machine/Sequencer.lean ====
section
/-!
DEFINITION. Machine/Sequencer.lean: the sequencer and the merge arbiter: part advance (R51, R52), the close (R55), the
preemption check and the park (R59, R60, R62), the grants (R40 to R46), and what the part does of itself after
every event: `settle`.
-/
namespace Sys2Proof.Machine

/-! ## The open set's counts (R41) -/

/-- R41: the taken count of part `p` falls by 1; its last index stays. -/
def SetRec.giveBack (r : SetRec) (p : Nat) : SetRec :=
  { r with parts := changeAt (p - 1) (fun c => { c with taken := c.taken - 1 }) r.parts }

/-- R49, R50: a sheet granted for the set at part `p` has failed to reach the tray. -/
def SetRec.loseSheet (r : SetRec) (p : Nat) : SetRec :=
  { r.giveBack p with flags := r.flags.withIncomplete }

/-- R41: the count of part `p`. -/
def SetRec.partCount (r : SetRec) (p : Nat) : PartCount := (r.parts[p - 1]?).getD { taken := 0, lastIndex := 0 }

/-- R41: the update of a needed-sheet grant of sheet index `i` at part `p`. -/
def SetRec.grantSheet (r : SetRec) (p i : Nat) : SetRec :=
  { r with
    flags := r.flags.judgeGap i (r.partCount p).lastIndex
    parts := changeAt (p - 1) (fun c => { taken := c.taken + 1, lastIndex := i }) r.parts }

/-- R3: part `p` of a plan. -/
def PlanBody.part (b : PlanBody) (p : Nat) : Option PlanPart := if p = 0 then none else b.parts[p - 1]?

/-- R52: the current part ends: SHORT is judged, and the set goes on to the next part or becomes CLOSE-PENDING. -/
def SetRec.endPart (r : SetRec) (b : PlanBody) : SetRec :=
  let minCount := ((b.part r.part).map (·.minCount)).getD 0
  let r' := { r with flags := r.flags.judgeShort (r.partCount r.part).taken minCount }
  if b.parts.length ≤ r.part then { r' with assembly := .closePending } else { r' with part := r.part + 1 }

/-- R52, R53: the open set's current part ends; a stall timer that ran for it is discarded. -/
def endPart (s : State) (r : SetRec) : State :=
  { changeHeld s (fun _ => r.endPart (planOf s r.plan)) with timers := { s.timers with stall := none } }

/-! ## Part advance (R51) -/

/-- The open set while it is ASSEMBLING in a COMPILING tray, in RUNNING or HALTING (R51, R53, R54). -/
def assemblingSet (s : State) : Option SetRec :=
  match s.tray.phase, openSet s with
  | .compiling, some r => if r.assembly == .assembling && active s then some r else none
  | _, _ => none

/-- R51: what stands at the head of the current part's source link ends the part. An empty queue, a head granted for
the tray and the needed sheet do not. -/
def headEndsPart (s : State) (r : SetRec) : Bool :=
  match (planOf s r.plan).part r.part with
  | none => true
  | some p =>
    match headOf s p.source with
    | none => false
    | some e =>
      match e.standing with
      | .granted .tray => false
      | .granted .purge => true
      | .queued | .waiting =>
        match headClass s p.source with
        | some .partOfOpen => e.desc.part != r.part
        | some .noLongerValid | some .parkedOwned | some .setOpening | some .heldForCommit | some .orphan
        | none => true

/-- R51, R52: the judgement, repeated for each part that becomes current, at most `fuel` times. -/
def advanceParts : Nat → State → State
  | 0, s => s
  | fuel + 1, s =>
    match assemblingSet s with
    | none => s
    | some r => if headEndsPart s r then advanceParts fuel (endPart s r) else s

/-- R51: the part advance; a plan has at most 6 parts (R3). -/
def advance (s : State) : State := advanceParts 7 s

/-! ## Close (R55) -/

/-- R55: a TRAY grant is outstanding: it is a grant for the open set (R73). -/
def trayGrantOut (s : State) : Bool :=
  match s.grant with
  | some g => g.purpose == .tray
  | none => false

/-- R55: a CLOSE-PENDING set with no grant outstanding for it and no tray-bound sheet is handed to the tray. -/
def handOver (s : State) : State :=
  match s.tray.phase, openSet s with
  | .compiling, some r =>
    if r.assembly == .closePending && active s && !trayGrantOut s && (trayBound s).isEmpty then closeFinal s r else s
  | _, _ => s

/-! ## Preemption (R59, R60, R62) -/

/-- R59: the open set, at a sheet boundary. R64 calls a shelf-down one, and R103 the receipt of a split's segment. A PURGE
grant may be outstanding at either, and R59 wants no grant of either route: the model makes no preemption check then, and
the part is judged under R51 (DESIGN CHOICE, notes/assumptions/35.md). -/
def boundarySet (s : State) : Option SetRec :=
  match assemblingSet s with
  | some r => if s.grant.isNone && (trayBound s).isEmpty then some r else none
  | none => none

/-- R60: link `l`'s head is set-opening with a priority above `p`. -/
def outranks (s : State) (l : Link) (p : Nat) : Bool :=
  match openingPriority s l with
  | some q => decide (p < q)
  | none => false

/-- R60: the preemption check holds for the open set `r`. -/
def preempts (s : State) (r : SetRec) : Bool :=
  (planOf s r.plan).parkPermitted && decide (s.shelf.stack.length < Config.maxShelf) &&
  decide (r.trayHeight ≤ Config.maxParkHeight) && (outranks s .a r.priority || outranks s .b r.priority)

/-- R62: the park begins. -/
def beginPark (s : State) : State :=
  { s with
    tray := { s.tray with phase := .parking }
    shelf := { s.shelf with motion := .lifting }
    timers := { s.timers with motion := some (msTicks Config.motionMs) } }

/-- R59, R60: the preemption check, and the park when it holds. -/
def preempt (s : State) : State :=
  match boundarySet s with
  | some r => if preempts s r then beginPark s else s
  | none => s

/-! ## Grants (R40 to R47) -/

/-- R42: the conditions of every grant. -/
def grantable (s : State) : Bool :=
  active s && s.grant.isNone && !anyPreGate s && decide (s.path.entries.length < Config.maxPath) &&
  decide (s.path.purgeCount < Config.purgeFull)

/-- A WITHDRAW waits in link `l`'s grant lane. -/
def withdrawWaits (s : State) (l : Link) : Bool :=
  match (s.links.get l).lane with
  | some (.withdraw _) => true
  | some (.grant _ _) | some (.answer _) | some (.notice _) | none => false

/-- R154: a GRANT may be put in link `l`'s grant lane. None is made while a WITHDRAW waits there: a head that would be
granted then stays as it is, and no other head takes its turn (DESIGN CHOICE, notes/assumptions/11.md). A GRANT whose
grant a lead capture has already ended holds back none: R42's grant is made at once and its frame takes the place of the
unsent one (DESIGN CHOICE, notes/assumptions/40.md). -/
def laneFree (s : State) (l : Link) : Bool := !withdrawWaits s l

/-- The route a purpose is granted with (R73). -/
def Purpose.route : Purpose → Route
  | .tray => .tray
  | .purgeFaulty | .purgeOrphan | .stray => .purge

/-- R47, R154: link `l`'s head `e` is granted with the purpose. -/
def issueGrant (s : State) (l : Link) (e : QueueEntry) (p : Purpose) : State :=
  sendGrant
    { changeHead s l (fun x => { x with standing := .granted p.route }) with
      grant := some { link := l, tag := e.desc.tag, purpose := p, stage := .inLane } }
    l e.desc.tag p.route

/-- R44: the needed sheet of the open set: its link and queue entry. -/
def neededSheet (s : State) (r : SetRec) : Option (Link × QueueEntry) :=
  match (planOf s r.plan).part r.part with
  | none => none
  | some p =>
    match headOf s p.source, headClass s p.source with
    | some e, some .partOfOpen => if e.desc.part = r.part then some (p.source, e) else none
    | _, _ => none

/-- R51: the granted sheet ends its part: it carries last-in-part, or the part's taken count has come to its max. -/
def grantEndsPart (b : PlanBody) (r : SetRec) (d : Desc) : Bool :=
  d.last || (match b.part d.part with
    | some p => decide (p.maxCount ≤ (r.partCount d.part).taken)
    | none => true)

/-- R51, R52: the part of the sheet just granted ends at the grant when R51 says so. -/
def endPartAtGrant (s : State) (d : Desc) : State :=
  match openSet s with
  | some r => if grantEndsPart (planOf s r.plan) r d then endPart s r else s
  | none => s

/-- R41, R44: the needed-sheet grant. -/
def grantNeeded (s : State) (l : Link) (e : QueueEntry) : State :=
  endPartAtGrant (issueGrant (changeHeld s (fun r => r.grantSheet e.desc.part e.desc.index)) l e .tray) e.desc

/-- The origin of a set started from link `l` (R38). -/
def originOf : Link → Origin
  | .a => .linkA
  | .b => .linkB

/-- R40: the record of the set that the head `d` of link `l`, of job `j`, starts. -/
def startRecord (s : State) (l : Link) (d : Desc) (j : Job) : SetRec :=
  { job := d.job, seat := d.seat, plan := j.plan, cls := j.cls, priority := j.priority, replyTag := j.replyTag
    assembly := .assembling
    part := d.part
    parts := changeAt (d.part - 1) (fun _ => { taken := 1, lastIndex := 1 })
      (List.replicate (planOf s j.plan).parts.length { taken := 0, lastIndex := 0 })
    segment := 1, traySheets := 0, trayHeight := 0, totalSheets := 0
    flags := { SetFlags.clear with
      withheld := ((classOf s j.cls).seatEntry d.seat).withheld
      routeException := decide (towerSize s ≤ seatPocket s j.cls d.seat) }
    note := d.note
    origin := originOf l
    exceptionMark := false }

/-- R13, R40: a set starts from link `l`'s head. -/
def startSet (s : State) (l : Link) (e : QueueEntry) (j : Job) : State :=
  let s := takeRefs (changeJob s j.number (fun x => x.withSeat e.desc.seat .inProgress)) j.plan j.cls
  let s := { s with tray := { phase := .compiling, held := some (startRecord s l e.desc j), close := none } }
  endPartAtGrant (issueGrant s l e .tray) e.desc

/-- R63: the unpark of the shelf top begins. -/
def beginUnpark (s : State) : State :=
  { s with
    tray := { s.tray with phase := .unparking }
    shelf := { s.shelf with motion := .lowering }
    timers := { s.timers with motion := some (msTicks Config.motionMs) } }

/-- A candidate of start selection (R46). -/
inductive Candidate where
  | shelfTop
  | head (l : Link)
deriving DecidableEq, Repr

/-- R46: the candidates with their priorities, in the order that breaks ties: shelf top, link A's head, link B's. -/
def candidates (s : State) : List (Nat × Candidate) :=
  (s.shelf.stack.head?.toList.map (fun r => (r.priority, Candidate.shelfTop))) ++
  ((openingPriority s .a).toList.map (fun p => (p, Candidate.head .a))) ++
  ((openingPriority s .b).toList.map (fun p => (p, Candidate.head .b)))

/-- The first of the candidates with the highest priority (R46). -/
def best : List (Nat × Candidate) → Option (Nat × Candidate)
  | [] => none
  | c :: cs => match best cs with
    | none => some c
    | some d => if c.1 < d.1 then some d else some c

/-- R46: start selection, in RUNNING with the tray EMPTY and the tower not BLOCKED. -/
def startSelection (s : State) : State :=
  if s.run = .running ∧ s.tray.phase = .empty ∧ s.tower.phase ≠ .blocked then
    match best (candidates s) with
    | none => s
    | some (_, .shelfTop) => beginUnpark s
    | some (_, .head l) =>
      match headOf s l with
      | none => s
      | some e => match findJob s e.desc.job with
        | none => s
        | some j => if laneFree s l then startSet s l e j else s
  else s

/-- R43, R56: purge grants may be served: in RUNNING, and in HALTING while a set is open. -/
def purgesServed (s : State) : Bool :=
  match s.run with
  | .running => true
  | .halting => (openSet s).isSome
  | .standby | .warming | .faulted => false

/-- R43, R45: the purge grant to serve: link A's head before link B's. -/
def purgeChoice (s : State) : Option (Link × QueueEntry × Purpose) :=
  if purgesServed s then
    match purgePurpose s .a, headOf s .a with
    | some p, some e => some (.a, e, p)
    | _, _ => match purgePurpose s .b, headOf s .b with
      | some p, some e => some (.b, e, p)
      | _, _ => none
  else none

/-- R43: the second and third steps: a purge grant, else a set start. A purge head that a WITHDRAW in its link's lane holds back
lets nothing take its turn, the resume of the shelf top included, which is no grant (R63; DESIGN CHOICE,
notes/assumptions/11.md). -/
def servePurgeOrStart (s : State) : State :=
  match purgeChoice s with
  | some (l, e, p) => if laneFree s l then issueGrant s l e p else s
  | none => startSelection s

/-- R43: the merge arbiter serves: the needed sheet first, after the split check (R44, R93). Where the split check fires,
R93 says that no grant is issued: the model reads it of the needed sheet's grant, and goes on to the purge grants of R43's
order at the same event, since R45 has them issued in any tray state (DESIGN CHOICE, notes/assumptions/42.md). The split check
is made, and the split begins, also while a WITHDRAW in the needed sheet's lane lets no GRANT be made there (DESIGN CHOICE,
notes/assumptions/11.md). -/
def serve (s : State) : State :=
  if grantable s then
    match assemblingSet s with
    | none => servePurgeOrStart s
    | some r => match neededSheet s r with
      | none => servePurgeOrStart s
      | some (l, e) =>
        if splitFires r (boundThicknesses s) (thickness s e.desc.grade) then servePurgeOrStart (beginSplit s)
        else if laneFree s l then grantNeeded s l e
        else s
  else s

/-! ## Stall timer (R53) and halting (R164) -/

/-- R53: the conditions the stall timer runs under. -/
def stalls (s : State) : Bool :=
  match assemblingSet s with
  | none => false
  | some r => match (planOf s r.plan).part r.part with
    | none => false
    | some p => (headOf s p.source).isNone

/-- R53: the stall timer starts when its conditions begin to hold and is discarded when they cease to. -/
def stallUpdate (s : State) : State :=
  let full := msTicks (1000 * s.tables.transport.active.stall)
  let t : Option Nat := if stalls s then some (s.timers.stall.getD full) else none
  { s with timers := { s.timers with stall := t } }

/-- R162: the run state changes to `next`, and STATE-CHANGE is sent. -/
def changeRun (s : State) (next : RunState) : State :=
  notifyPlain { s with run := next } (.stateChange s.run next)

/-- R164: the conditions under which halting completes. -/
def haltDone (s : State) : Bool :=
  s.run == .halting && s.tray.phase == .empty && s.path.entries.isEmpty &&
  (s.tower.phase == .idle || s.tower.phase == .held) && s.grant.isNone

/-- R164: halting completes when its conditions hold. -/
def haltCheck (s : State) : State := if haltDone s then changeRun s .standby else s

/-! ## After every event -/

/-- What the part does of itself after an event (DEDUCED, notes/assumptions/16.md): a waiting session takes an IDLE tower
before a READY tray does (R102, R129); then, in RUNNING and HALTING, the preemption check comes before the part advance
and the part advance before the arbiter (R43, R59), a CLOSE-PENDING set is handed over (R55), the parts that a grant has
made current are judged (R51), and the stall timer and the halt are brought up to date (R53, R164).

It follows the event's own notices. So where a deposit lets a waiting session go that ends with NO-POCKET, its
INSERT-DONE, and the JOB-CLOSED it brings, come after the deposit's COMMIT-DONE, which R116 places last of the deposit's
own without placing these (DESIGN CHOICE, notes/assumptions/8.md). -/
def settle (s : State) : State :=
  let s := tryEject (sessionTakesTower s)
  if active s then haltCheck (stallUpdate (advance (serve (handOver (advance (preempt s)))))) else s

end Sys2Proof.Machine
end

