-- ==== Sys2Proof/Machine/Faults.lean ====
section
/-!
DEFINITION. Machine/Faults.lean: raising a fault and the entry into FAULTED (R165, R166), with what the other blocks do
at that entry (R29, R57, R68, R105, R124, R133).
-/
namespace Sys2Proof.Machine

/-- R154: the outstanding grant's frame at its withdrawal: a GRANT still in the lane is removed unsent, and otherwise a
WITHDRAW is put in the lane. -/
def withdrawFrame (s : State) (g : Grant) : State :=
  match g.stage with
  | .inLane => changePort s g.link (fun k => { k with lane := none })
  | .sending | .sent => placeInLane s g.link (.withdraw g.tag)

/-- R57: a withdrawn TRAY grant's sheet leaves the taken count of its part. -/
def takeBackGrant (s : State) (g : Grant) : State :=
  match g.purpose, headOf s g.link with
  | .tray, some e => changeHeld s (fun r => r.giveBack e.desc.part)
  | _, _ => s

/-- R29, R57: the outstanding grant is withdrawn and its head returns to WAITING. -/
def withdrawGrant (s : State) : State :=
  match s.grant with
  | none => s
  | some g =>
    let s := takeBackGrant s g
    let s := changeHead s g.link (fun e => { e with standing := .waiting })
    withdrawFrame { s with grant := none, timers := { s.timers with feedWindow := none } } g

/-- R68, R105, R124, R165: the timers and the waiting fire request that are discarded at the entry into FAULTED, and
the shelf that becomes IDLE. The stapler's own timers run on (R105). -/
def freeze (s : State) : State :=
  { s with
    timers := { s.timers with warmup := none, feedWindow := none, stall := none, motion := none, eject := none,
                              delivery := none }
    shelf := { s.shelf with motion := .idle }
    stapler := { s.stapler with requestWaiting := false } }

/-- R165: the insert session, if any, ends with end cause FAULT. -/
def faultSession (s : State) : State :=
  match s.session with
  | some z => endSession s z .fault
  | none => s

/-- R124: a HELD tower is IDLE from the entry into FAULTED on. -/
def freeHeldTower (s : State) : State :=
  match s.tower.phase with
  | .held => { s with tower := { s.tower with phase := .idle } }
  | .idle | .receiving | .carrying | .blocked => s

/-- R165: the entry into FAULTED. -/
def enterFaulted (s : State) (d : FaultDetail) : State :=
  let s := freeze { withdrawGrant s with run := .faulted, fault := { s.fault with first := some d } }
  freeHeldTower (faultSession (notifyPlain s (.fault d)))

/-- R165, R166: a fault is raised; in FAULTED it only counts. -/
def raiseFault (s : State) (d : FaultDetail) : State :=
  if s.run = .faulted then
    { s with fault := { s.fault with further := satSucc Config.smallCountTop s.fault.further } }
  else enterFaulted s d

/-- A fault cause without details (R165). -/
def FaultCause.plain (c : FaultCause) : FaultDetail := { cause := c, sensor := none, link := none, tag := none }

end Sys2Proof.Machine
end

