-- ==== Sys2Proof/Machine/InsertEvents.lean ====
section
/-!
DEFINITION. Machine/InsertEvents.lean: the commands of the insert session (R129, R131 to R133).
-/
namespace Sys2Proof.Machine

/-- The session, while it is WAITING with the tower taken. -/
def positioningSession (s : State) : Option Session :=
  match s.session with
  | some z => match z.phase with
    | .waiting => if z.towerTaken then some z else none
    | .active => none
  | none => none

/-- The session, while it is ACTIVE. -/
def activeSession (s : State) : Option Session :=
  match s.session with
  | some z => match z.phase with
    | .active => some z
    | .waiting => none
  | none => none

/-- The session, while its timer `k` runs. -/
def timedSession (s : State) (k : SessionTimer) : Option Session :=
  match s.session with
  | some z => match z.timer with
    | some t => if t.1 = k then some z else none
    | none => none
  | none => none

/-- R129: the session `z` becomes ACTIVE, and INSERT-READY is sent. -/
def activateSession (s : State) (z : Session) : State :=
  let z' : Session := { z with phase := .active, timer := some (.firstSheet, msTicks Config.firstSheetMs) }
  notify { s with session := some z' } z.replyTag z.job
    (.insertReady z.seat z.target z.place (pocketOf s z.target).fill z.expected)

/-- INSERT_POSITION (R129): taken while the session is WAITING with the tower taken. -/
def execInsertPosition (s : State) : Out :=
  .next (match positioningSession s with
    | some z => activateSession s z
    | none => s)

/-- POSITIONING_TIMER_EXPIRY (R129): a TOWER-JAM, while the positioning timer runs. -/
def execPositioningTimerExpiry (s : State) : Out :=
  .next (match timedSession s .positioning with
    | some _ => raiseFault s FaultCause.towerJam.plain
    | none => s)

/-- R131: the session after one more sheet. -/
def Session.countSheet (z : Session) : Session :=
  { z with inserted := z.inserted + 1, timer := some (.betweenSheets, msTicks Config.betweenSheetsMs) }

/-- R131: a sheet of the ACTIVE session `z` is counted, and the session ends when the expected count is reached. -/
def countInserted (s : State) (z : Session) : State :=
  let z' := z.countSheet
  let s1 := addSheetToPocket { s with session := some z' } z'
  if z'.inserted = z'.expected then endSession s1 z' .countReached else s1

/-- SI_EVENT (R131): taken while the session is ACTIVE. -/
def execSiEvent (s : State) : Out :=
  .next (match activeSession s with
    | some z => settle (countInserted s z)
    | none => s)

/-- INSDONE (R132): taken while the session is ACTIVE. -/
def execInsDone (s : State) : Out :=
  .next (match activeSession s with
    | some z => settle (endSession s z .insDone)
    | none => s)

/-- FIRST_SHEET_TIMER_EXPIRY (R132): while that timer runs. -/
def execFirstSheetTimerExpiry (s : State) : Out :=
  .next (match timedSession s .firstSheet with
    | some z => settle (endSession s z .noFirstSheet)
    | none => s)

/-- BETWEEN_SHEETS_TIMER_EXPIRY (R132): while that timer runs. -/
def execBetweenSheetsTimerExpiry (s : State) : Out :=
  .next (match timedSession s .betweenSheets with
    | some z => settle (endSession s z .sheetGap)
    | none => s)

/-- R133: the tower is HELD and no session holds it: its elevator is returning. -/
def elevatorReturning (s : State) : Bool :=
  (match s.tower.phase with
   | .held => true
   | .idle | .receiving | .carrying | .blocked => false) &&
  (match s.session with
   | some z => !z.towerTaken
   | none => true)

/-- R133: the elevator is home: the delivery timer stops and the tower is IDLE. -/
def elevatorHomed (s : State) : State :=
  { s with tower := { s.tower with phase := .idle }, timers := { s.timers with delivery := none } }

/-- HOME_EVENT (R133): taken while the tower is HELD with no session. -/
def execHomeEvent (s : State) : Out :=
  .next (if elevatorReturning s then settle (elevatorHomed s) else s)

end Sys2Proof.Machine
end

