-- ==== Sys2Proof/Machine/Links.lean ====
section
/-!
DEFINITION. Machine/Links.lean: the link receivers (R147 to R151) and the commands of the links: CHARACTER_RECEIVED,
FRAME_RECEIVED, TRANSMIT_COMPLETE, UNKNOWN_KIND and CLEAR_COUNTS.
-/
namespace Sys2Proof.Machine

/-! ## Characters (R147) -/

/-- The kinds of character (R147). -/
inductive ChrKind where
  | data (v : Data)
  | sync
  | start
  | stop
  | abort
  | idle
  | violation
deriving DecidableEq, Repr

/-- R147: the kind of a character. -/
def chrKind (c : Chr) : ChrKind :=
  if c.toNat < 128 then .data (c.setWidth 7)
  else if c = Config.sync then .sync
  else if c = Config.start then .start
  else if c = Config.stop then .stop
  else if c = Config.abort then .abort
  else if c = Config.idle then .idle
  else .violation

/-! ## The receiver (R149, R150) -/

/-- What a character brings about beside the receiver's next state. -/
inductive RxEvent where
  | nothing
  | framingError
  | checkError
  | frame (f : Frame)
deriving DecidableEq, Repr

/-- R148: the length the frame in hand gives, once its length character has been taken. -/
def givenLength (taken : List Data) : Nat := field taken 2

/-- R149: the check has been taken: address, kind, length, payload and check are all there. -/
def checkTaken (taken : List Data) : Bool := decide (3 < taken.length) && taken.length == 4 + givenLength taken

/-- R149, R150: RECEIVING takes a data character. -/
def takeData (unit : BitVec 3) (broadcast : Bool) (taken : List Data) (v : Data) : Receiver × RxEvent :=
  match taken.length with
  | 0 =>
    if v.toNat = unit.toNat then (.receiving false [v], .nothing)
    else if v.toNat = Config.broadcastAddress then (.receiving true [v], .nothing)
    else (.skipping, .nothing)
  | 1 => (.receiving broadcast (taken ++ [v]), .nothing)
  | 2 =>
    if Config.maxPayload < v.toNat then (.hunt, .framingError)
    else (.receiving broadcast (taken ++ [v]), .nothing)
  | n + 3 =>
    if n + 3 < 4 + givenLength taken then (.receiving broadcast (taken ++ [v]), .nothing)
    else (.hunt, .framingError)

/-- R148, R149: the frame in hand, complete with its check. -/
def completedFrame (broadcast : Bool) (taken : List Data) : Frame :=
  { broadcast := broadcast, kind := field taken 1, payload := (taken.drop 3).take (givenLength taken) }

/-- R149: RECEIVING takes END. -/
def takeEnd (broadcast : Bool) (taken : List Data) : Receiver × RxEvent :=
  if checkTaken taken then
    if checkOf taken.dropLast = taken.getLastD 0 then (.idle, .frame (completedFrame broadcast taken))
    else (.idle, .checkError)
  else (.hunt, .framingError)

/-- R149: the receiver's action on a character, by its state. -/
def rxStep (unit : BitVec 3) (rx : Receiver) (c : Chr) : Receiver × RxEvent :=
  match rx, chrKind c with
  | .hunt, .sync => (.idle, .nothing)
  | .hunt, _ => (.hunt, .nothing)
  | .idle, .start => (.receiving false [], .nothing)
  | .idle, .violation => (.hunt, .framingError)
  | .idle, _ => (.idle, .nothing)
  | .receiving b taken, .data v => takeData unit b taken v
  | .receiving b taken, .stop => takeEnd b taken
  | .receiving _ _, .abort => (.idle, .nothing)
  | .receiving _ _, .start => (.hunt, .framingError)
  | .receiving _ _, .violation => (.hunt, .framingError)
  | .receiving b taken, .sync => (.receiving b taken, .nothing)
  | .receiving b taken, .idle => (.receiving b taken, .nothing)
  | .skipping, .stop => (.idle, .nothing)
  | .skipping, .abort => (.idle, .nothing)
  | .skipping, _ => (.skipping, .nothing)

/-- R149, R151, R152: the counts and the FIFO after a receiver's action. -/
def LinkPort.received (k : LinkPort) (r : Receiver × RxEvent) : LinkPort :=
  match r.2 with
  | .nothing => { k with rx := r.1 }
  | .framingError => { k with rx := r.1, framingErrors := satSucc Config.countTop k.framingErrors }
  | .checkError => { k with rx := r.1, checkErrors := satSucc Config.countTop k.checkErrors }
  | .frame f =>
    if k.fifo.length < Config.maxFifo then { k with rx := r.1, fifo := k.fifo ++ [f] }
    else { k with rx := r.1, overruns := satSucc Config.countTop k.overruns }

/-- R149: link `l`'s receiver takes a character; an absent link B's ignores every one. -/
def receiveChr (l : Link) (c : Chr) (s : State) : State :=
  if linkPresent s l then changePort s l (fun k => k.received (rxStep s.straps.address k.rx c)) else s

/-! ## Commands -/

/-- CHARACTER_RECEIVED (R149). -/
def execCharacterReceived (l : Link) (c : Chr) (s : State) : Out := .next (receiveChr l c s)

/-- FRAME_RECEIVED (R149): the END that completes a frame. -/
def execFrameReceived (l : Link) (s : State) : Out := .next (receiveChr l Config.stop s)

/-- TRANSMIT_COMPLETE (R153). When a WITHDRAW leaves the lane, the arbiter, which made no GRANT while it waited there
(R154, notes/assumptions/11.md), serves again. A GRANT that leaves the lane has held back no grant
(notes/assumptions/40.md). -/
def execTransmitComplete (l : Link) (s : State) : Out :=
  .next (if withdrawWaits s l then settle (finishFrame s l) else finishFrame s l)

/-- UNKNOWN_KIND (R152): a frame of no inbound kind is answered REFUSED UNKNOWN-KIND, whatever its length. -/
def execUnknownKind (l : Link) (s : State) : Out :=
  .next (match oldestFrame s l with
    | none => s
    | some f => if inboundKind f.kind then s else refuse (takeFrame s l) l f .unknownKind)

/-- R151: the four counts of a link set to 0. -/
def LinkPort.clearCounts (k : LinkPort) : LinkPort :=
  { k with framingErrors := 0, checkErrors := 0, overruns := 0, dropped := 0 }

/-- R151: all four counts of both links are 0. -/
def clearAllCounts (s : State) : State := changePort (changePort s .a LinkPort.clearCounts) .b LinkPort.clearCounts

/-- CLEAR_COUNTS (R151): the answer is queued after the clearing. -/
def execClearCounts (l : Link) (s : State) : Out :=
  .next (handle (ofKind kindClearCounts) (fun l f s => answerTo (clearAllCounts s) l f .done []) l s)

end Sys2Proof.Machine
end

