-- ==== Sys2Proof/Machine/Path.lean ====
section
/-!
DEFINITION. Machine/Path.lean: the path monitor: captures, the length check, the gate decision, arrivals and deadlines
(R71 to R90), as the commands of the sensor edges, the compare points and the deadlines.
-/
namespace Sys2Proof.Machine

/-! ## Measures (R77, R78, R82) -/

/-- R78: the compare distance D in ticks: the ceiling of 4,250,000 ÷ speed. -/
def compareTicks (speed : Nat) : Nat := ceilDiv 4250000 speed

/-- R82: W in ticks: the ceiling of distance × 10000 ÷ speed × 5 ÷ 4. -/
def arrivalTicks (distance speed : Nat) : Nat := ceilDiv (distance * 50000) (4 * speed)

/-- R82: the distance from the decision point to the sensor of the decided side, in mm. -/
def arrivalDistance : PathState → Nat
  | .toTray => 405
  | .toPurge | .preGate => 225

/-- R77: the expected length of a size code, in mm. -/
def feedLength : Nat → Nat
  | 0 => 148
  | 1 => 210
  | 2 => 297
  | _ => 420

/-- R77: the measured length of a span of ticks, in mm, rounded to nearest. -/
def measure (speed span : Nat) : Nat := roundDiv (span * speed) 10000

/-- R77: the length result of a measured length against the expected one. -/
def judgeLength (expected measured : Nat) : LengthResult :=
  if measured + 4 < expected then .shortSheet else if expected + 4 < measured then .longSheet else .good

/-- The active speed (R71). -/
def speedOf (s : State) : Nat := s.tables.transport.active.speed

/-! ## Lead captures (R74, R75) -/

/-- The sensor pins with link `l`'s entry sensor set to `b`. -/
def senseEntry (s : State) (l : Link) (b : Bool) : State :=
  { s with pins := match l with
      | .a => { s.pins with saCovered := b }
      | .b => { s.pins with sbCovered := b } }

/-- R72: edges at link `l`'s entry sensor are taken. -/
def entryTaken (s : State) (l : Link) : Bool := active s && linkPresent s l

/-- R73, R78: the entry a lead capture makes. -/
def newEntry (s : State) (l : Link) (t : Tick) (granted : Option (QueueEntry × Purpose)) : PathEntry :=
  { desc := granted.map (·.1.desc)
    faulty := granted.bind (·.1.faulty)
    link := l
    purpose := (granted.map (·.2)).getD .stray
    lead := t
    compare := t + BitVec.ofNat 16 (compareTicks (speedOf s))
    trail := none, length := none, measured := none, conflict := false
    state := .preGate
    deadline := none, overdue := false }

/-- R75: every PRE-GATE entry is given the conflict mark. -/
def markConflicts (es : List PathEntry) : List PathEntry :=
  es.map (fun e => if e.state == .preGate then { e with conflict := true } else e)

/-- R75: the MERGE-CONFLICT notice of the PRE-GATE entries `es`. -/
def notifyConflict (s : State) (es : List PathEntry) : State :=
  let granted := (es.filterMap (fun e => e.desc.map (fun d => (d, e.purpose)))).head?
  let body := NoticeBody.mergeConflict (es.map (fun e => (e.link, e.lead))) granted
  match granted with
  | some g => notifyAnnounced s g.1.job body
  | none => notifyPlain s body

/-- R74, R75: the entry joins the tail of the path list, and the merge-conflict test is made for it. -/
def joinPath (s : State) (e : PathEntry) : State :=
  if anyPreGate s then
    let es := markConflicts (s.path.entries ++ [e])
    notifyConflict { s with path := { s.path with entries := es } } (es.filter (fun x => x.state == .preGate))
  else { s with path := { s.path with entries := s.path.entries ++ [e] } }

/-- R74: the head and purpose of the grant outstanding on link `l`. -/
def grantedOn (s : State) (l : Link) : Option (QueueEntry × Purpose) :=
  match s.grant, headOf s l with
  | some g, some e => if g.link = l then some (e, g.purpose) else none
  | _, _ => none

/-- The entry sensor of a link. -/
def entrySensor : Link → PathSensor
  | .a => .sa
  | .b => .sb

/-- R48, R74: the granted sheet's lead edge: the grant ends, the head goes into the path list and the descriptor behind
it becomes the head. A GRANT of it that still waits unsent in the lane stays there (DESIGN CHOICE,
notes/assumptions/40.md). -/
def captureGranted (s : State) (l : Link) (t : Tick) (g : QueueEntry × Purpose) : State :=
  let s1 := dropHead { s with grant := none, timers := { s.timers with feedWindow := none } } l
  newHead (joinPath s1 (newEntry s l t (some g))) l

/-- R74: a lead edge taken at link `l`'s entry sensor. -/
def captureLead (s : State) (l : Link) (t : Tick) : State :=
  if Config.maxPath ≤ s.path.entries.length then
    raiseFault s { cause := .pathJam, sensor := some (entrySensor l), link := some l, tag := none }
  else match grantedOn s l with
    | some g => captureGranted s l t g
    | none => joinPath s (newEntry s l t none)

/-- LEAD_CAPTURE (R74). -/
def execLeadCapture (l : Link) (t : Tick) (s : State) : Out :=
  let s1 := senseEntry s l true
  .next (if entryTaken s1 l then settle (captureLead (advanceTo t s1) l t) else s1)

/-! ## Trail captures (R76, R77) -/

/-- R76, R77: the entry's trail is seen at `t`. -/
def PathEntry.seeTrail (speed : Nat) (t : Tick) (e : PathEntry) : PathEntry :=
  match e.state, e.desc with
  | .preGate, some d =>
    let m := measure speed (t - e.lead).toNat
    { e with trail := some t, measured := some m, length := some (judgeLength (feedLength d.size) m) }
  | _, _ => { e with trail := some t }

/-- R76: a trail edge is matched to the oldest entry of its link that has no trail tick. -/
def matchTrail (s : State) (l : Link) (t : Tick) : State :=
  { s with path := { s.path with
    entries := changeFirst (fun e => e.link == l && e.trail.isNone) (PathEntry.seeTrail (speedOf s) t)
      s.path.entries } }

/-- TRAIL_CAPTURE (R76). -/
def execTrailCapture (l : Link) (t : Tick) (s : State) : Out :=
  let s1 := senseEntry s l false
  .next (if entryTaken s1 l then
      matchTrail (advanceTo t s1) l t
    else s1)

/-! ## The gate decision (R79 to R82) -/

/-- R79: the side an entry is decided to. -/
def PathEntry.decision (e : PathEntry) : PathState :=
  if e.desc.isSome && e.faulty.isNone && e.purpose == .tray && !e.conflict && e.trail.isSome &&
      e.length == some .good then .toTray
  else .toPurge

/-- R79, R82: the entry as decided, with its arrival deadline. -/
def PathEntry.decide (speed : Nat) (e : PathEntry) : PathEntry :=
  let st := e.decision
  { e with
    state := st
    deadline := some (e.compare + BitVec.ofNat 16 (arrivalTicks (arrivalDistance st) speed)) }

/-- R81: the gate position of a decided side. -/
def gateOf : PathState → GateSide
  | .toTray => .traySide
  | .toPurge | .preGate => .purgeSide

/-- R80: the SHEET-REJECTED notice of a TRAY entry without a conflict mark that is decided to the purge side for its
length; a trail not seen counts as LONG-SHEET with no measured length. -/
def notifyRejected (s : State) (e : PathEntry) (d : Desc) : State :=
  if e.conflict then s
  else notifyJob s d.job (.sheetRejected e.link d
    (if e.trail.isNone then .longSheet else e.length.getD .longSheet) (feedLength d.size)
    (if e.trail.isNone then none else e.measured))

/-- R79: the report of the decision to the sequencer, for an entry of purpose TRAY that goes to the purge side. Its
SHEET-REJECTED (R80) comes before the SET-EMPTY, JOB-CLOSED and COMMIT-DONE of an empty CLOSE-PENDING set that the decision
lets go to its close (R55, R98); no rule orders them (DESIGN CHOICE, notes/assumptions/8.md). -/
def reportDecision (s : State) (e : PathEntry) : State :=
  match e.purpose, e.decision, e.desc with
  | .tray, .toPurge, some d => notifyRejected (changeHeld s (fun r => r.loseSheet d.part)) e d
  | _, _, _ => s

/-- R79: the gate decision of the oldest PRE-GATE entry `e`. -/
def decideEntry (s : State) (e : PathEntry) : State :=
  let s1 := { s with path := { s.path with
    entries := changeFirst (fun x => x.state == .preGate) (PathEntry.decide (speedOf s)) s.path.entries
    gate := gateOf e.decision } }
  reportDecision s1 e

/-- GATE_DECISION (R79). -/
def execGateDecision (s : State) : Out :=
  .next (match s.path.entries.find? (fun e => e.state == .preGate) with
    | none => s
    | some e => if active s then settle (decideEntry (advanceTo e.compare s) e) else s)

/-! ## Arrivals (R83 to R88) -/

/-- R86: a SENSOR fault. -/
def sensorFault (s : State) (x : PathSensor) : State :=
  raiseFault s { cause := .sensor, sensor := some x, link := none, tag := none }

/-- R72: a lead edge at ST or SP is taken. -/
def exitTaken (s : State) : Bool :=
  match s.run with
  | .running | .halting | .warming => true
  | .standby | .faulted => false

/-- R83, R92, R94: the sheet `e` is handed to the tray, and a split that waited for it goes on. -/
def handToTray (s : State) (e : PathEntry) : State :=
  let th := match e.desc with | some d => thickness s d.grade | none => 0
  let s1 := changeHeld s (fun r => r.addSheet th)
  match s1.tray.phase, s1.tray.close with
  | .stapling, some c => if c.kind = .split then splitWaitOver s1 else s1
  | _, _ => s1

/-- ST_LEAD_EDGE (R83, R86). -/
def execStLeadEdge (s : State) : Out :=
  let s1 := { s with pins := { s.pins with stCovered := true } }
  .next (if exitTaken s1 then
      match takeFirst (fun e => e.state == .toTray) s1.path.entries with
      | none => sensorFault s1 .st
      | some (e, rest) =>
        settle (removeClosed (handToTray { s1 with path := { s1.path with entries := rest } } e))
    else s1)

/-- R88: the purge-bin count rises, and PURGE-FULL is sent when it comes to 250. -/
def raisePurgeCount (s : State) : State :=
  let n := satSucc Config.countTop s.path.purgeCount
  let s1 := { s with path := { s.path with purgeCount := n } }
  if s.path.purgeCount + 1 = Config.purgeFull then notifyPlain s1 (.purgeFull n) else s1

/-- R84, R85: the accounting of a sheet that has arrived at SP. -/
def accountPurged (s : State) (e : PathEntry) : State :=
  match e.purpose, e.desc with
  | .purgeOrphan, some d => notifyJob (addReprint s d.job d.seat) d.job (.sheetPurged e.link d)
  | _, _ => s

/-- SP_LEAD_EDGE (R84, R86). -/
def execSpLeadEdge (s : State) : Out :=
  let s1 := { s with pins := { s.pins with spCovered := true } }
  .next (if exitTaken s1 then
      match takeFirst (fun e => e.state == .toPurge) s1.path.entries with
      | none => sensorFault s1 .sp
      | some (e, rest) =>
        settle (removeClosed
          (accountPurged (raisePurgeCount { s1 with path := { s1.path with entries := rest } }) e))
    else s1)

/-- ST_SP_TRAIL_EDGE (R72): no action in any state; the sensor line alone is uncovered. -/
def execStSpTrailEdge (x : ExitSensor) (s : State) : Out :=
  .next { s with pins := match x with
    | .st => { s.pins with stCovered := false }
    | .sp => { s.pins with spCovered := false } }

/-! ## Deadlines (R87) -/

/-- R87: the sensor awaited by a decided entry. -/
def awaited : PathState → Option PathSensor
  | .toTray => some .st
  | .toPurge => some .sp
  | .preGate => none

/-- R87: the deadline `t` of the entry `e` can be reached: the timer counts, or it has just stopped at `t`, by another
deadline of that tick (R87) or by a fault of another cause (R71, R90 and R166 leave that case open: DESIGN CHOICE,
notes/assumptions/13.md). -/
def deadlineLive (s : State) (e : PathEntry) (t : Tick) : Bool :=
  !e.overdue && (active s || (s.run == .faulted && s.path.timer == t))

/-- R87: the deadline of the entry `e` at position `i` is reached. -/
def missDeadline (s : State) (i : Nat) (e : PathEntry) (t : Tick) : State :=
  let s1 := if active s then advanceTo t s else s
  let s2 := { s1 with path := { s1.path with
    entries := changeAt i (fun x => { x with overdue := true }) s1.path.entries } }
  raiseFault s2 { cause := .pathJam, sensor := awaited e.state, link := some e.link, tag := e.desc.map (·.tag) }

/-- ARRIVAL_DEADLINE (R87). -/
def execArrivalDeadline (i : Nat) (s : State) : Out :=
  .next (match s.path.entries[i]? with
    | none => s
    | some e => match e.deadline with
      | none => s
      | some t => if deadlineLive s e t then missDeadline s i e t else s)

/-- BIN_EMPTIED (R89). -/
def execBinEmptied (s : State) : Out :=
  .next (settle (notifyPlain { s with path := { s.path with purgeCount := 0 } } .purgeEmptied))

end Sys2Proof.Machine
end

