-- ==== Sys2Proof/Machine/Requests.lean ====
section
/-!
DEFINITION. Machine/Requests.lean: the requests that change the part: ANNOUNCE, OPEN-JOB, CLOSE-JOB, the LOADs, COMMIT,
INSERT, RUN, STANDBY, CLEAR and MARK-RETAINED.
-/
namespace Sys2Proof.Machine

/-! ## ANNOUNCE (R23) -/

/-- R23: a well-formed ANNOUNCE is passed to its link's feed queue and not answered. -/
def ownAnnounce (l : Link) (f : Frame) (s : State) : State := settle (arrive s l (announcedDesc f.payload))

/-- ANNOUNCE (R23). -/
def execAnnounce (l : Link) (s : State) : Out := .next (handle (ofKind kindAnnounce) ownAnnounce l s)

/-! ## OPEN-JOB (R10, R11) -/

/-- The fields of an OPEN-JOB (R10; "Request payloads"). -/
structure OpenRequest where
  job : Nat
  plan : Nat
  cls : Nat
  priority : Nat
  exceptionPocket : Nat
  overflowPocket : Option Nat
  replyTag : Nat
deriving DecidableEq, Repr

/-- The fields of an OPEN-JOB payload. -/
def openRequest (p : List Data) : OpenRequest :=
  { job := field p 0, plan := field p 1, cls := field p 2, priority := field p 3, exceptionPocket := field p 4
    overflowPocket := if field p 5 = 1 then some (field p 6) else none
    replyTag := if field p 5 = 1 then field p 7 else field p 6 }

/-- R10: the first check that fails. -/
def openRefusal (s : State) (q : OpenRequest) : Option Reason :=
  if s.run = .faulted then some .badState
  else if q.job = 0 ∨ Config.maxJobNumber < q.job ∨ 15 < q.plan ∨ 23 < q.cls ∨ 3 < q.priority then some .range
  else if Config.maxJobs ≤ s.jobs.length then some .full
  else if (findJob s q.job).isSome then some .inUse
  else if (planOf s q.plan).parts.length = 0 ∨ (classOf s q.cls).seatCount = 0 then some .invalidEntry
  else if towerSize s ≤ q.exceptionPocket ∨ (q.overflowPocket.any (fun p => decide (towerSize s ≤ p))) = true then
    some .range
  else if ((planOf s q.plan).parts.any (fun x => x.source == .b)) = true ∧ s.straps.linkBPresent = false then
    some .linkAbsent
  else none

/-- R11: the new record. -/
def newJob (s : State) (q : OpenRequest) : Job :=
  { number := q.job, phase := .opened, plan := q.plan, cls := q.cls, priority := q.priority
    exceptionPocket := q.exceptionPocket, overflowPocket := q.overflowPocket, replyTag := q.replyTag
    seats := List.replicate (classOf s q.cls).seatCount .pending
    reprint := [], delivered := 0, diverted := 0, exceptions := 0, lost := 0 }

/-- R10, R11: OPEN-JOB. -/
def ownOpenJob (l : Link) (f : Frame) (s : State) : State :=
  let q := openRequest f.payload
  match openRefusal s q with
  | some r => refuse s l f r
  | none => answerTo { s with jobs := s.jobs ++ [newJob s q] } l f .done []

/-- OPEN_JOB (R10). -/
def execOpenJob (l : Link) (s : State) : Out := .next (handle (ofKind kindOpenJob) ownOpenJob l s)

/-! ## CLOSE-JOB (R20) -/

/-- R20: CLOSE-JOB. -/
def ownCloseJob (l : Link) (f : Frame) (s : State) : State :=
  let n := field f.payload 0
  if n = 0 ∨ Config.maxJobNumber < n then refuse s l f .range
  else match findJob s n with
    | none => refuse s l f .unknownJob
    | some j =>
      match j.phase with
      | .closing => answerTo s l f .accepted []
      | .opened =>
        if holdsClose s n then
          answerTo (changeJob s n (fun x => { x with phase := .closing })) l f .accepted []
        else answerTo (dropJob s n) l f .done j.summaryBody

/-- CLOSE_JOB (R20). -/
def execCloseJob (l : Link) (s : State) : Out := .next (handle (ofKind kindCloseJob) ownCloseJob l s)

/-! ## LOAD (R137) -/

/-- LOAD_CLASS (R137). -/
def execLoadClass (l : Link) (s : State) : Out := .next (handle (isLoad 0) (load 0 judgeLoadClass) l s)

/-- LOAD_SEATS (R137). -/
def execLoadSeats (l : Link) (s : State) : Out := .next (handle (isLoad 1) (load 1 judgeLoadSeats) l s)

/-- LOAD_PLAN (R137). -/
def execLoadPlan (l : Link) (s : State) : Out := .next (handle (isLoad 2) (load 2 judgeLoadPlan) l s)

/-- LOAD_GRADE (R137). -/
def execLoadGrade (l : Link) (s : State) : Out := .next (handle (isLoad 3) (load 3 judgeLoadGrade) l s)

/-- LOAD_POCKET (R137). -/
def execLoadPocket (l : Link) (s : State) : Out := .next (handle (isLoad 4) (load 4 judgeLoadPocket) l s)

/-- LOAD_TRANSPORT (R137). -/
def execLoadTransport (l : Link) (s : State) : Out := .next (handle (isLoad 5) (load 5 judgeLoadTransport) l s)

/-! ## COMMIT (R141, R142) -/

/-- R141: the refusal of a COMMIT, if any. -/
def commitRefusal (s : State) (scope : Nat) : Option Reason :=
  if 5 < scope then some .range
  else if inScope scope 4 = true ∧ s.tables.transport.pending.isSome = true ∧ s.run ≠ .standby then
    some .notStandby
  else none

/-- The pocket entries of the list that apply now, with their numbers from `p` on and their active parts. Their records
react in this order, the ascending pocket number (DESIGN CHOICE, notes/assumptions/38.md). -/
def readyPockets (p : Nat) : List (Entry PocketConfig) → List (Nat × PocketConfig)
  | [] => []
  | e :: es => (if e.ready then [(p, e.active)] else []) ++ readyPockets (p + 1) es

/-- R142: after the pocket records have reacted to the applied entries `ps`: a BLOCKED tower makes one retry, a carry
whose target is no longer AVAILABLE makes one re-target, and a session whose target is DISABLED ends. -/
def afterPockets (ps : List Nat) (s : State) : State :=
  if ps.isEmpty then s
  else
    let s := retry s
    let s := match s.tower.target.map (·.dest) with
      | some (Dest.pocket p) =>
        if ps.contains p && (pocketOf s p).state != PocketState.available then retarget s p else s
      | _ => s
    match s.session with
    | some z =>
      if ps.contains z.target && (pocketOf s z.target).state == PocketState.disabled then endSessionAt s z.target .targetDisabled
      else s
    | none => s

/-- R142, R144: every marked entry whose reference count is 0 applies, and the neighbours are told: the pocket records in
ascending pocket number, so that their POCKET-FULL notices come in that order (DESIGN CHOICE,
notes/assumptions/38.md). R145 has a new notice link taken by the first notice queued after the application, and calls
COMMIT-DONE that first one: a POCKET-FULL, or the notices of a session that ends, come before it here, and go on the new link
too (DESIGN CHOICE, notes/assumptions/44.md). -/
def applyCommit (s : State) : State :=
  let n := s.tables.readyCount
  let ps := readyPockets 0 s.tables.pockets
  let s := { s with tables := s.tables.apply }
  let s := ps.foldl (fun x e => reactPocket x e.1 e.2) s
  commitDoneTest (afterPockets (ps.map (·.1)) s) n

/-- R141: COMMIT; the ACCEPTED answer is queued before the application's notices (R144). -/
def ownCommit (pins : PocketPins) (l : Link) (f : Frame) (s : State) : State :=
  let scope := field f.payload 0
  let s := { s with pins := { s.pins with pockets := pins } }
  match commitRefusal s scope with
  | some r => refuse s l f r
  | none => settle (applyCommit (answerTo { s with tables := s.tables.mark scope } l f .accepted []))

/-- COMMIT (R141). -/
def execCommit (l : Link) (pins : PocketPins) (s : State) : Out :=
  .next (handle (ofKind kindCommit) (ownCommit pins) l s)

/-! ## INSERT (R126, R128) -/

/-- R126: the judgement of an INSERT: the refusal, or the job and the provisional target. -/
def judgeInsert (s : State) (job seat grade expected : Nat) : Except Reason (Job × (Nat × Place)) :=
  if s.run = .warming ∨ s.run = .faulted then .error .badState
  else if s.session.isSome = true then .error .busy
  else if job = 0 ∨ Config.maxJobNumber < job ∨ seat = 0 ∨ 40 < seat ∨ 7 < grade ∨ expected = 0 ∨ 20 < expected then
    .error .range
  else match findJob s job with
    | none => .error .unknownJob
    | some j =>
      if j.seats.length < seat ∨ (classOf s j.cls).seatCount < seat then .error .range
      else match insertTarget s j seat grade with
        | none => .error .noPocket
        | some t => .ok (j, t)

/-- R126, R128: INSERT. -/
def ownInsert (l : Link) (f : Frame) (s : State) : State :=
  let p := f.payload
  match judgeInsert s (field p 0) (field p 1) (field p 2) (field p 3) with
  | .error r => refuse s l f r
  | .ok (j, t) =>
    let z : Session :=
      { phase := .waiting, job := field p 0, seat := field p 1, grade := field p 2, expected := field p 3
        replyTag := j.replyTag, target := t.1, place := t.2, towerTaken := false, inserted := 0, timer := none }
    settle (answerTo { s with session := some z } l f .accepted [])

/-- INSERT (R126). -/
def execInsert (l : Link) (s : State) : Out := .next (handle (ofKind kindInsert) ownInsert l s)

/-! ## RUN and STANDBY (R162) -/

/-- R162: RUN. -/
def ownRun (l : Link) (f : Frame) (s : State) : State :=
  match s.run with
  | .standby =>
    let s := { s with timers := { s.timers with warmup := some (msTicks Config.warmupMs) } }
    changeRun (answerTo s l f .accepted []) .warming
  | .warming | .running | .halting | .faulted => refuse s l f .badState

/-- RUN (R162). -/
def execRun (l : Link) (s : State) : Out := .next (handle (ofKind kindRun) ownRun l s)

/-- R162: STANDBY; the answer is DONE when halting completes at once, and is queued before the notices. -/
def ownStandby (l : Link) (f : Frame) (s : State) : State :=
  match s.run with
  | .standby => answerTo s l f .done []
  | .warming =>
    let s := { s with timers := { s.timers with warmup := none } }
    changeRun (answerTo s l f .done []) .standby
  | .running =>
    let r : Result := if haltDone { s with run := .halting } then .done else .accepted
    haltCheck (changeRun (answerTo s l f r []) .halting)
  | .halting => answerTo s l f .accepted []
  | .faulted => refuse s l f .badState

/-- STANDBY (R162). -/
def execStandby (l : Link) (s : State) : Out := .next (handle (ofKind kindStandby) ownStandby l s)

/-! ## CLEAR (R167, R168) -/

/-- R167: the sensors read clear. -/
def clearReads (s : State) : Bool :=
  !s.pins.saCovered && (!s.straps.linkBPresent || !s.pins.sbCovered) && !s.pins.stCovered && !s.pins.spCovered &&
  !s.pins.trayOccupied && s.pins.elevatorHome

/-- R168: a set is lost, its record no longer in the state: the lost outcome is accounted, its references are released
and SET-LOST is sent. -/
def loseSet (s : State) (job seat plan cls replyTag segment total : Nat) (flags : SetFlags) (jam : Bool) : State :=
  notify (dropRefs (accountLost s job seat) plan cls) replyTag job (.setLost seat segment true total flags jam)

/-- R168: the set of a tray or shelf record is lost. -/
def loseRecord (s : State) (r : SetRec) (jam : Bool) : State :=
  loseSet s r.job r.seat r.plan r.cls r.replyTag r.segment r.totalSheets r.flags jam

/-- R167, step 1. -/
def clearPath (s : State) : State := { s with path := { s.path with entries := [], gate := .purgeSide } }

/-- R167, step 2: the set the tray holds is lost, and the tray becomes EMPTY. A fire of it that runs on is reported to
no one (R99). -/
def clearTray (s : State) : State :=
  let s' := { s with
    tray := Tray.empty
    stapler := { s.stapler with owner := s.stapler.owner.map (fun o => { o with lost := true }) } }
  match s.tray.held with
  | none => s'
  | some r => loseRecord s' r ((s.tray.close.map (·.jamMark)).getD false)

/-- R167, step 3: the tower becomes IDLE, and the closed set whose final segment it held is lost. -/
def clearTower (s : State) : State :=
  let s' := { s with tower := Tower.idle }
  match s.tower.carried with
  | none => s'
  | some g =>
    if g.final then loseSet s' g.job g.seat g.plan g.cls g.replyTag g.segment g.totalSheets g.flags g.jamMark else s'

/-- R167, step 4, sensor not occupied: the shelf's records are lost, top first. -/
def loseShelf : List SetRec → State → State
  | [], s => { s with shelf := { motion := .idle, stack := [] } }
  | r :: rs, s => loseShelf rs (loseRecord { s with shelf := { motion := .idle, stack := rs } } r false)

/-- R167, step 4: the shelf is judged by its sensor. -/
def clearShelf (s : State) : State :=
  if s.pins.shelfOccupied then { s with shelf := { s.shelf with motion := .idle } } else loseShelf s.shelf.stack s

/-- R14, R168: the earlier segment `g` that the elevator held, accounted after step 4: a segment loss when its set is
kept on the shelf, and nothing when its set has been lost. -/
def loseSegment (s : State) (g : Segment) : State :=
  if parkedIsOf s g.job g.seat then
    let stack := changeFirst (fun r => r.isOf g.job g.seat) (fun r => { r with flags := r.flags.withIncomplete })
      s.shelf.stack
    let s := { s with shelf := { s.shelf with stack := stack } }
    notify (accountSegmentLoss s g.job g.seat) g.replyTag g.job
      (.setLost g.seat g.segment false g.totalSheets g.flags g.jamMark)
  else s

/-- R167: what an accepted CLEAR does after its answer. -/
def clearAll (s : State) : State :=
  let carried := s.tower.carried
  let s := clearShelf (clearTower (clearTray (clearPath s)))
  let s := match carried with
    | some g => if g.final then s else loseSegment s g
    | none => s
  let s := applyReleased (removeClosed s)
  changeRun { s with fault := { first := none, further := 0 } } .standby

/-- R167: CLEAR. -/
def ownClear (pins : Pins) (l : Link) (f : Frame) (s : State) : State :=
  let s := { s with pins := pins }
  if s.run = .faulted ∧ clearReads s = true then clearAll (answerTo s l f .done []) else refuse s l f .badState

/-- CLEAR (R167). -/
def execClear (l : Link) (pins : Pins) (s : State) : Out := .next (handle (ofKind kindClear) (ownClear pins) l s)

/-! ## MARK-RETAINED (R170) -/

/-- R170: MARK-RETAINED. -/
def ownMarkRetained (l : Link) (f : Frame) (s : State) : State :=
  answerTo { s with retentionValid := true } l f .done []

/-- MARK_RETAINED (R170). -/
def execMarkRetained (l : Link) (s : State) : Out := .next (handle (ofKind kindMarkRetained) ownMarkRetained l s)

end Sys2Proof.Machine
end

