-- ==== Sys2Proof/Machine/RunEvents.lean ====
section
/-!
DEFINITION. Machine/RunEvents.lean: the commands of the run controller's events: warm-up (R163), the retention supply
(R170) and the starts (R169).
-/
namespace Sys2Proof.Machine

/-- R163: the warm-up timer is discarded and the state becomes RUNNING. -/
def startRunning (s : State) : State :=
  changeRun { s with timers := { s.timers with warmup := none } } .running

/-- AT_SPEED (R163): taken while WARMING. -/
def execAtSpeed (s : State) : Out :=
  .next (match s.run with
    | .warming => settle (startRunning s)
    | .standby | .running | .halting | .faulted => s)

/-- WARMUP_TIMER_EXPIRY (R163): a WARMUP fault, while the warm-up timer runs. -/
def execWarmupTimerExpiry (s : State) : Out :=
  .next (match s.timers.warmup with
    | some _ => raiseFault s FaultCause.warmup.plain
    | none => s)

/-- RETLOW (R170): taken in every run state. -/
def execRetLow (s : State) : Out := .next (notifyPlain { s with retentionValid := false } .retentionLost)

/-! ## Starts (R169) -/

/-- R169: the straps latched from the pins. -/
def latchStraps (pins : Pins) : Straps :=
  { address := pins.address, linkBPresent := pins.linkBPresent, tower40 := pins.tower40 }

/-- R169: the part with its working state cleared and its retained region at its defaults. The commands that wait and
the model's count of races are not the part's, and stay. -/
def clearedPart (pins : Pins) (s : State) : State :=
  { State.reset with
    straps := latchStraps pins
    pins := pins
    races := s.races
    pending := s.pending }

/-- R136: every reference count is 0. -/
def Tables.unreferenced (t : Tables) : Tables :=
  { t with
    classes := t.classes.map (Entry.withRefs (fun _ => 0))
    plans := t.plans.map (Entry.withRefs (fun _ => 0)) }

/-- R123: the pocket drawers are read for the kept pocket records. -/
def rescanPockets (s : State) : State :=
  { s with pockets := rescanFrom (towerSize s) s.pins.pockets 0 s.pockets }

/-- R169: the working state cleared and the retained region of `s` kept, with the LOST accounting (R16). -/
def keptPart (pins : Pins) (s : State) : State :=
  { clearedPart pins s with
    retentionValid := s.retentionValid
    tables := s.tables.unreferenced
    jobs := s.jobs.map Job.loseAtReset
    pockets := s.pockets
    stacker := s.stacker
    stapler := { State.reset.stapler with cartridge := s.stapler.cartridge }
    path := { State.reset.path with purgeCount := s.path.purgeCount } }

/-- R169: a start that keeps the retained region: the LOST accounting, the removal of CLOSING jobs, the application of
draining entries, and the pocket drawers. -/
def startKept (pins : Pins) (s : State) : State := rescanPockets (applyReleased (removeClosed (keptPart pins s)))

/-- R169: a start with the retained region at its defaults, its pockets set by their sensors (R123). -/
def startCleared (pins : Pins) (s : State) : State :=
  let s1 := clearedPart pins s
  { s1 with pockets := (List.range Config.pocketCount).map (fun p => freshPocket (towerSize s1) p pins.pockets) }

/-- R169: the tray sensor, and after it the shelf sensor, are read. -/
def startUpReads (s : State) : State :=
  let s1 := if s.pins.trayOccupied then raiseFault s FaultCause.trayOccupied.plain else s
  if s.pins.shelfOccupied then raiseFault s1 FaultCause.shelfOccupied.plain else s1

/-- POWER_ON (R169): the retained region is kept when the retention-valid flag is set. -/
def execPowerOn (pins : Pins) (s : State) : Out :=
  .next (startUpReads (if s.retentionValid then startKept pins s else startCleared pins s))

/-- RESET_LINE (R169): the retained region is kept, whatever the flag holds. -/
def execResetLine (pins : Pins) (s : State) : Out := .next (startUpReads (startKept pins s))

end Sys2Proof.Machine
end

