-- ==== Sys2Proof/Machine/SetEvents.lean ====
section
/-!
DEFINITION. Machine/SetEvents.lean: the commands of the sequencer's two timers (R49, R53) and of the parking shelf (R62,
R63, R68).
-/
namespace Sys2Proof.Machine

/-- R49: the outstanding grant `g`, whose head is `e`, is missed. The expiry has its effect on the open set before the
descriptor behind is checked as the new head (R27), and that effect takes in the hand-over of a CLOSE-PENDING set which
the missed sheet held back (R55). -/
def missFeed (s : State) (g : Grant) (e : QueueEntry) : State :=
  let s1 := { s with grant := none, timers := { s.timers with feedWindow := none } }
  let s2 := match g.purpose with
    | .tray => changeHeld s1 (fun r => r.loseSheet e.desc.part)
    | .purgeFaulty | .purgeOrphan | .stray => s1
  let s3 := notifyJob (dropHead s2 g.link) e.desc.job (.feedMissed g.link e.desc)
  let s4 := match g.purpose with
    | .tray => handOver s3
    | .purgeFaulty | .purgeOrphan | .stray => s3
  removeClosed (newHead s4 g.link)

/-- FEED_WINDOW_EXPIRY (R49): the feed window of the outstanding grant, while it runs, expires. -/
def execFeedWindowExpiry (s : State) : Out :=
  .next (match s.timers.feedWindow, s.grant with
    | some _, some g =>
      match headOf s g.link with
      | some e => settle (missFeed s g e)
      | none => s
    | _, _ => s)

/-- STALL_TIMER_EXPIRY (R53): the stall timer, while it runs, expires, and the current part ends. -/
def execStallTimerExpiry (s : State) : Out :=
  .next (match s.timers.stall, assemblingSet s with
    | some _, some r => settle (endPart s r)
    | _, _ => s)

/-- The shelf's motion has ended. -/
def stopShelf (s : State) : State :=
  { s with shelf := { s.shelf with motion := .idle }, timers := { s.timers with motion := none } }

/-- R62: the lifted record `r` is pushed, and the tray is EMPTY. -/
def endPark (s : State) (r : SetRec) : State :=
  let s1 := stopShelf s
  { s1 with shelf := { s1.shelf with stack := r :: s1.shelf.stack }, tray := Tray.empty }

/-- SHELF_UP (R62, R68): taken while LIFTING. -/
def execShelfUp (s : State) : Out :=
  .next (match s.shelf.motion, s.tray.held with
    | .lifting, some r => settle (endPark s r)
    | _, _ => s)

/-- R63: the lowered top record `r` is popped, the rest being `rs`, and is the open set of a COMPILING tray. -/
def endUnpark (s : State) (r : SetRec) (rs : List SetRec) : State :=
  let s1 := stopShelf s
  { s1 with
    shelf := { s1.shelf with stack := rs }
    tray := { phase := .compiling, held := some { r with origin := .shelf }, close := none } }

/-- SHELF_DOWN (R63, R68): taken while LOWERING. -/
def execShelfDown (s : State) : Out :=
  .next (match s.shelf.motion, s.shelf.stack with
    | .lowering, r :: rs => settle (endUnpark s r rs)
    | _, _ => s)

/-- MOTION_TIMER_EXPIRY (R62, R63): a SHELF-JAM, while the motion timer runs. -/
def execMotionTimerExpiry (s : State) : Out :=
  .next (match s.timers.motion with
    | some _ => raiseFault s FaultCause.shelfJam.plain
    | none => s)

end Sys2Proof.Machine
end

