-- ==== Sys2Proof/Machine/StaplerEvents.lean ====
section
/-!
DEFINITION. Machine/StaplerEvents.lean: the commands of the stapler (R99 to R101).
-/
namespace Sys2Proof.Machine

/-- R99, R101: the fire has succeeded: the stapler is RECOVERING, and the cartridge count falls. -/
def finishFire (s : State) : State :=
  { s with
    stapler := { s.stapler with phase := .recovering, requestWaiting := false, owner := none,
                                cartridge := s.stapler.cartridge - 1 }
    timers := { s.timers with completion := none, recovery := some (msTicks Config.recoveryMs) } }

/-- R101: STAPLES-LOW is sent when a completion has lowered the count, `was` before, from 2 to 1. -/
def staplesLowTest (s : State) (was : Nat) : State :=
  if was = 2 then notifyPlain s (.staplesLow 1) else s

/-- STAPLER_COMPLETION (R99): taken while FIRING. -/
def execStaplerCompletion (s : State) : Out :=
  .next (match s.stapler.phase with
    | .firing =>
      let s1 := staplesLowTest (finishFire s) s.stapler.cartridge
      if reportTaken s then settle (reportFired s1) else s1
    | .ready | .recovering | .jammed => s)

/-- R100: the fire has failed: the stapler is JAMMED, and STAPLER-JAM is sent for the segment it belongs to. -/
def jamStapler (s : State) (o : FireOwner) : State :=
  notify
    { s with
      stapler := { s.stapler with phase := .jammed, owner := none }
      timers := { s.timers with completion := none } }
    (replyTagOf s o.job) o.job (.staplerJam o.seat o.segment)

/-- COMPLETION_TIMER_EXPIRY (R100): the completion timer, while it runs, expires. -/
def execCompletionTimerExpiry (s : State) : Out :=
  .next (match s.timers.completion, s.stapler.owner with
    | some _, some o =>
      if reportTaken s then settle (reportJam (jamStapler s o)) else jamStapler s o
    | _, _ => s)

/-- R99: the recovery window ends: READY, or FIRING when a request waits. -/
def endRecovery (s : State) : State :=
  if s.stapler.requestWaiting then
    { s with
      stapler := { s.stapler with phase := .firing, requestWaiting := false }
      timers := { s.timers with recovery := none, completion := some (msTicks Config.completionMs) } }
  else
    { s with
      stapler := { s.stapler with phase := .ready }
      timers := { s.timers with recovery := none } }

/-- RECOVERY_WINDOW_END (R99): the recovery window, while it runs, ends. -/
def execRecoveryWindowEnd (s : State) : Out :=
  .next (match s.timers.recovery with
    | some _ => endRecovery s
    | none => s)

/-- STAPLER_HOME (R100): taken while JAMMED. -/
def execStaplerHome (s : State) : Out :=
  .next (match s.stapler.phase with
    | .jammed => { s with stapler := { s.stapler with phase := .ready } }
    | .ready | .firing | .recovering => s)

/-- CARTRIDGE_INSERTED (R101): taken in every stapler state and every run state. -/
def execCartridgeInserted (s : State) : Out :=
  .next (notifyPlain { s with stapler := { s.stapler with cartridge := Config.cartridgeFull } }
    (.cartridgeIn Config.cartridgeFull))

end Sys2Proof.Machine
end

