-- ==== Sys2Proof/Machine/TowerEvents.lean ====
section
/-!
DEFINITION. Machine/TowerEvents.lean: the commands of the elevator, the pockets and the stacker (R104, R108, R111, R114 to
R116, R119 to R121).
-/
namespace Sys2Proof.Machine

/-! ## Receipt (R103, R108) -/

/-- R108: the tower takes the tray's segment, its set record being `r` and its segment-close record `c`: charge, chain
and first target; the tray acts on the receipt (R103). -/
def receiveSegment (s : State) (r : SetRec) (c : SegClose) : State :=
  let g := segmentOf r c
  let s1 := trayToldReceived { s with tower :=
    { s.tower with carried := some g, charge := some (chargeOf g.height), chain := chainOf s g } }
  aim s1 s1.tower.chain

/-- The tower is RECEIVING the segment of an EJECTING tray, in RUNNING or HALTING: the set record and the
segment-close record of the segment. -/
def segmentArriving (s : State) : Option (SetRec × SegClose) :=
  match s.tower.phase, s.tray.phase, s.tray.held, s.tray.close with
  | .receiving, .ejecting, some r, some c => if active s then some (r, c) else none
  | _, _, _, _ => none

/-- SET_RECEIVED (R103, R108). -/
def execSetReceived (s : State) : Out :=
  .next (match segmentArriving s with
    | some x => settle (receiveSegment s x.1 x.2)
    | none => s)

/-- EJECT_TIMER_EXPIRY (R104): a TOWER-JAM, while the eject timer runs. -/
def execEjectTimerExpiry (s : State) : Out :=
  .next (match s.timers.eject with
    | some _ => raiseFault s FaultCause.towerJam.plain
    | none => s)

/-! ## Deposit (R115, R116) -/

/-- R116: what the deposit of a final segment does beyond its notice and the tray's: the jobs it closes, and its
references. -/
def afterFinal (s : State) (g : Segment) : State := applyReleased (dropRefs (removeClosed s) g.plan g.cls)

/-- R115, R116: the deposit of the carried segment `g`, of charge `c`, at the target `o`. The POCKET-FULL comes first,
then SET-DELIVERED, a SET-EMPTY, the JOB-CLOSED and the COMMIT-DONE. -/
def depositSegment (s : State) (g : Segment) (c : Nat) (o : ChainOption) : State :=
  let s1 := depositInto s g c o.dest
  let d := deliveryOf s1 g c o
  let s2 := { s1 with tower := Tower.idle, timers := { s1.timers with delivery := none } }
  let s3 := if g.final then accountDeposit s2 g o.place else s2
  let s4 := trayToldDeposit (notify s3 g.replyTag g.job (.setDelivered d)) g
  if g.final then afterFinal s4 g else s4

/-- The carried segment, its charge and its target, while the tower is CARRYING in RUNNING or HALTING. -/
def depositing (s : State) : Option (Segment × Nat × ChainOption) :=
  match s.tower.phase, s.tower.carried, s.tower.charge, s.tower.target with
  | .carrying, some g, some c, some o => if active s then some (g, c, o) else none
  | _, _, _, _ => none

/-- DEPOSIT_COMPLETE (R115, R116). -/
def execDepositComplete (s : State) : Out :=
  .next (match depositing s with
    | some x => settle (depositSegment s x.1 x.2.1 x.2.2)
    | none => s)

/-- DELIVERY_TIMER_EXPIRY (R114, R133): a TOWER-JAM, while the delivery timer runs. -/
def execDeliveryTimerExpiry (s : State) : Out :=
  .next (match s.timers.delivery with
    | some _ => raiseFault s FaultCause.towerJam.plain
    | none => s)

/-! ## Drawers, floors and the stacker (R111, R119 to R121) -/

/-- R112, R113: the tower's answer to the drawer-open of pocket `p`: a BLOCKED tower retries, and a carry to `p`
re-targets. A tower that the re-target leaves BLOCKED does not retry at this event (DEDUCED,
notes/assumptions/19.md). -/
def answerDrawerOpen (s : State) (p : Nat) : State :=
  match s.tower.phase with
  | .blocked => retry s
  | .idle | .receiving | .carrying | .held => retarget s p

/-- DRAWER_OPEN (R119). Where the pocket is the session's target, POCKET-WITHDRAWN comes before the INSERT-DONE of the
session that ends (R133); neither rule gives an order (DESIGN CHOICE, notes/assumptions/8.md). -/
def execDrawerOpen (p : Nat) (s : State) : Out :=
  if p < Config.pocketCount then
    let s1 := senseDrawer s p false
    .next (if drawerOpenTakes s1 p then
        settle (endSessionAt (answerDrawerOpen (withdrawPocket s1 p) p) p .drawer)
      else s1)
  else .fault (.noSuchPocket p)

/-- R120: pocket `p` is below the tower size and in the state `st`. -/
def pocketIs (s : State) (p : Nat) (st : PocketState) : Bool :=
  decide (p < towerSize s) && (pocketOf s p).state == st

/-- R118: POCKET-FULL for a pocket that a drawer-close event has brought back to a remembered FULL, with no segment and no
session to name in its header; nothing for one that comes back in another state. -/
def notifyRefilled (s : State) (p : Nat) : State :=
  match (pocketOf s p).state with
  | .full => notifyPlain s (.pocketFull p (pocketOf s p).fill (capacityOf s p) none)
  | .available | .withdrawn | .disabled | .unverified => s

/-- R120, R118: what the return of pocket `p` sends: POCKET-FULL when it is FULL again, and POCKET-RETURNED after it
(the order is a DESIGN CHOICE, notes/assumptions/36.md). -/
def tellReturned (s : State) (p : Nat) : State := notifyReturned (notifyRefilled s p) p

/-- DRAWER_CLOSE (R120), the pocket's floor reading as `empty`. -/
def execDrawerClose (p : Nat) (empty : Bool) (s : State) : Out :=
  if p < Config.pocketCount then
    let s1 := senseFloor (senseDrawer s p true) p empty
    .next (if pocketIs s1 p .withdrawn then
        settle (retry (tellReturned (changePocket s1 p (fun k => k.returned empty)) p))
      else s1)
  else .fault (.noSuchPocket p)

/-- FLOOR_EMPTY (R121). -/
def execFloorEmpty (p : Nat) (s : State) : Out :=
  if p < Config.pocketCount then
    let s1 := senseFloor s p true
    .next (if pocketIs s1 p .unverified then
        settle (retry (notifyReturned (changePocket s1 p Pocket.emptied) p))
      else s1)
  else .fault (.noSuchPocket p)

/-- STACKER_EMPTIED (R111): taken in every run state. -/
def execStackerEmptied (s : State) : Out :=
  .next (settle (retry (notifyPlain { s with stacker := { fill := 0, side := .right } } .stackerEmptied)))

end Sys2Proof.Machine
end

