-- ==== Sys2Proof/Machine/Dispatch.lean ====
section
/-!
DEFINITION. Machine/Dispatch.lean: the meaning of every command, one arm per row of spec/opcode_table.json.
-/
namespace Sys2Proof.Machine

def exec (i : Instr) (s : State) : Host.Outcome State Fault Refusal :=
  match i with
  | .frameReceived link => Sys2Proof.Machine.execFrameReceived link s
  | .unknownKind link => Sys2Proof.Machine.execUnknownKind link s
  | .announce link => Sys2Proof.Machine.execAnnounce link s
  | .openJob link => Sys2Proof.Machine.execOpenJob link s
  | .closeJob link => Sys2Proof.Machine.execCloseJob link s
  | .loadClass link => Sys2Proof.Machine.execLoadClass link s
  | .loadSeats link => Sys2Proof.Machine.execLoadSeats link s
  | .loadPlan link => Sys2Proof.Machine.execLoadPlan link s
  | .loadGrade link => Sys2Proof.Machine.execLoadGrade link s
  | .loadPocket link => Sys2Proof.Machine.execLoadPocket link s
  | .loadTransport link => Sys2Proof.Machine.execLoadTransport link s
  | .commit link pins => Sys2Proof.Machine.execCommit link pins s
  | .insert link => Sys2Proof.Machine.execInsert link s
  | .run link => Sys2Proof.Machine.execRun link s
  | .standby link => Sys2Proof.Machine.execStandby link s
  | .clear link pins => Sys2Proof.Machine.execClear link pins s
  | .markRetained link => Sys2Proof.Machine.execMarkRetained link s
  | .clearCounts link => Sys2Proof.Machine.execClearCounts link s
  | .askStatus link => Sys2Proof.Machine.execAskStatus link s
  | .askJob link => Sys2Proof.Machine.execAskJob link s
  | .askPocket link => Sys2Proof.Machine.execAskPocket link s
  | .askQueue link => Sys2Proof.Machine.execAskQueue link s
  | .askCapture link => Sys2Proof.Machine.execAskCapture link s
  | .askEntry link => Sys2Proof.Machine.execAskEntry link s
  | .askSet link => Sys2Proof.Machine.execAskSet link s
  | .transmitComplete link => Sys2Proof.Machine.execTransmitComplete link s
  | .leadCapture link tick => Sys2Proof.Machine.execLeadCapture link tick s
  | .trailCapture link tick => Sys2Proof.Machine.execTrailCapture link tick s
  | .gateDecision => Sys2Proof.Machine.execGateDecision s
  | .arrivalDeadline position => Sys2Proof.Machine.execArrivalDeadline position s
  | .stLeadEdge => Sys2Proof.Machine.execStLeadEdge s
  | .spLeadEdge => Sys2Proof.Machine.execSpLeadEdge s
  | .stSpTrailEdge sensor => Sys2Proof.Machine.execStSpTrailEdge sensor s
  | .binEmptied => Sys2Proof.Machine.execBinEmptied s
  | .feedWindowExpiry => Sys2Proof.Machine.execFeedWindowExpiry s
  | .stallTimerExpiry => Sys2Proof.Machine.execStallTimerExpiry s
  | .shelfUp => Sys2Proof.Machine.execShelfUp s
  | .shelfDown => Sys2Proof.Machine.execShelfDown s
  | .motionTimerExpiry => Sys2Proof.Machine.execMotionTimerExpiry s
  | .staplerCompletion => Sys2Proof.Machine.execStaplerCompletion s
  | .completionTimerExpiry => Sys2Proof.Machine.execCompletionTimerExpiry s
  | .recoveryWindowEnd => Sys2Proof.Machine.execRecoveryWindowEnd s
  | .staplerHome => Sys2Proof.Machine.execStaplerHome s
  | .cartridgeInserted => Sys2Proof.Machine.execCartridgeInserted s
  | .setReceived => Sys2Proof.Machine.execSetReceived s
  | .ejectTimerExpiry => Sys2Proof.Machine.execEjectTimerExpiry s
  | .depositComplete => Sys2Proof.Machine.execDepositComplete s
  | .deliveryTimerExpiry => Sys2Proof.Machine.execDeliveryTimerExpiry s
  | .drawerOpen pocket => Sys2Proof.Machine.execDrawerOpen pocket s
  | .drawerClose pocket floorEmpty => Sys2Proof.Machine.execDrawerClose pocket floorEmpty s
  | .floorEmpty pocket => Sys2Proof.Machine.execFloorEmpty pocket s
  | .stackerEmptied => Sys2Proof.Machine.execStackerEmptied s
  | .insertPosition => Sys2Proof.Machine.execInsertPosition s
  | .positioningTimerExpiry => Sys2Proof.Machine.execPositioningTimerExpiry s
  | .siEvent => Sys2Proof.Machine.execSiEvent s
  | .insDone => Sys2Proof.Machine.execInsDone s
  | .firstSheetTimerExpiry => Sys2Proof.Machine.execFirstSheetTimerExpiry s
  | .betweenSheetsTimerExpiry => Sys2Proof.Machine.execBetweenSheetsTimerExpiry s
  | .homeEvent => Sys2Proof.Machine.execHomeEvent s
  | .atSpeed => Sys2Proof.Machine.execAtSpeed s
  | .warmupTimerExpiry => Sys2Proof.Machine.execWarmupTimerExpiry s
  | .retLow => Sys2Proof.Machine.execRetLow s
  | .powerOn pins => Sys2Proof.Machine.execPowerOn pins s
  | .resetLine pins => Sys2Proof.Machine.execResetLine pins s
  | .characterReceived link chr => Sys2Proof.Machine.execCharacterReceived link chr s

end Sys2Proof.Machine
end

