-- ==== Sys2Proof/Machine/Step.lean ====
section
/-!
DEFINITION. Machine/Step.lean: one step: the command at the front of the queue; on an empty queue what the part does by its
own clock.
-/
namespace Sys2Proof.Machine

/-- The state without its waiting commands but for `rest`. -/
def State.withPending (s : State) (rest : List Instr) : State := { s with pending := rest }

/-- The state after one more race has been settled. -/
def State.raced (s : State) : State := { s with races := s.races + 1 }

/-- On an empty queue: the command of what is due now; of several, the one the free value picks
(notes/assumptions/3.md); and when nothing is due, a tick passes (notes/assumptions/2.md). -/
def selfStep (s : State) : Out :=
  match due s with
  | [] => .next (elapse 1 s)
  | [c] => exec c s
  | c :: d :: cs => exec (((c :: d :: cs)[Config.freeRace s.races % (cs.length + 2)]?).getD c) s.raced

/-- One step: the command at the front of the queue is taken with the rest left waiting, or the part goes on by
itself. -/
def step (s : State) : Out :=
  match s.pending with
  | [] => selfStep s
  | c :: rest => exec c (s.withPending rest)

/-- The command that the word spells put at the front of the queue; the state unchanged where it spells none, which is
every word, since the table gives no row any bits. -/
def State.withFetchWord (s : State) (nbits w : Nat) : State :=
  match decodeTableWord nbits w with
  | some c => s.withPending (c :: s.pending)
  | none => s

end Sys2Proof.Machine
end

