-- ==== Sys2Proof/WellFormed.lean ====
section
/-!
DEFINITION. WellFormed.lean: the operands a command may carry. Only the operands that are plain numbers can name a
thing the part does not have: a pocket (R118: 40 pocket records) and a position of the path list (R73: at most 4
sheets).
-/
namespace Sys2Proof

/-- The command names only pockets and path-list positions that exist. -/
def Instr.wellFormed : Instr → Bool
  | .drawerOpen p => decide (p < Config.pocketCount)
  | .drawerClose p _ => decide (p < Config.pocketCount)
  | .floorEmpty p => decide (p < Config.pocketCount)
  | .arrivalDeadline i => decide (i < Config.maxPath)
  | .frameReceived _ | .unknownKind _ | .announce _ | .openJob _ | .closeJob _ | .loadClass _ | .loadSeats _
  | .loadPlan _ | .loadGrade _ | .loadPocket _ | .loadTransport _ | .commit _ _ | .insert _ | .run _ | .standby _
  | .clear _ _ | .markRetained _ | .clearCounts _ | .askStatus _ | .askJob _ | .askPocket _ | .askQueue _
  | .askCapture _ | .askEntry _ | .askSet _ | .transmitComplete _ | .leadCapture _ _ | .trailCapture _ _
  | .gateDecision | .stLeadEdge | .spLeadEdge | .stSpTrailEdge _ | .binEmptied | .feedWindowExpiry
  | .stallTimerExpiry | .shelfUp | .shelfDown | .motionTimerExpiry | .staplerCompletion | .completionTimerExpiry
  | .recoveryWindowEnd | .staplerHome | .cartridgeInserted | .setReceived | .ejectTimerExpiry | .depositComplete
  | .deliveryTimerExpiry | .stackerEmptied | .insertPosition | .positioningTimerExpiry | .siEvent | .insDone
  | .firstSheetTimerExpiry | .betweenSheetsTimerExpiry | .homeEvent | .atSpeed | .warmupTimerExpiry | .retLow
  | .powerOn _ | .resetLine _ | .characterReceived _ _ => true

end Sys2Proof
end

