-- ==== Sys2Proof/Safety.lean ====
section
/-!
DEFINITION. Safety.lean: what a safe state of the part is, and the terms the statements about single commands are made in.
-/
namespace Sys2Proof.Machine

/-! ## The sizes of the lists and counts -/

/-- R151 to R153: a link's FIFO, queue and counts are within their ranges. -/
structure LinkPort.Bounded (k : LinkPort) : Prop where
  fifo : k.fifo.length ≤ 4
  queue : k.queue.length ≤ 8
  framingErrors : k.framingErrors ≤ 65535
  checkErrors : k.checkErrors ≤ 65535
  overruns : k.overruns ≤ 65535
  dropped : k.dropped ≤ 255

/-- R24, R32: a feed queue and its fault count are within their ranges. -/
structure Feed.Bounded (q : Feed) : Prop where
  entries : q.entries.length ≤ 12
  count : q.capture.count ≤ 65535

/-- R9, R12, R14, R17: the counts of a job, its seat-status list and its reprint list are within their ranges: a seat
stands in the reprint list once, and is a seat of the job. -/
structure Job.Bounded (j : Job) : Prop where
  number : 1 ≤ j.number ∧ j.number ≤ 63
  seats : j.seats.length ≤ 40
  delivered : j.delivered ≤ 65535
  diverted : j.diverted ≤ 65535
  exceptions : j.exceptions ≤ 65535
  lost : j.lost ≤ 65535
  reprint : j.reprint.Nodup ∧ ∀ n ∈ j.reprint, 1 ≤ n ∧ n ≤ j.seats.length

/-- The part's lists and queues, and the counts named here, are within the limits their rules give. The sheets of a
segment are kept to 99 by the split check (R93), which is said of the arbiter and not here. -/
structure State.Bounded (s : State) : Prop where
  /-- R151 to R153. -/
  links : ∀ l, (s.links.get l).Bounded
  /-- R24, R32. -/
  feeds : ∀ l, (s.feeds.get l).Bounded
  /-- R73. -/
  path : s.path.entries.length ≤ 4
  /-- R88. -/
  purgeCount : s.path.purgeCount ≤ 65535
  /-- R61. -/
  shelf : s.shelf.stack.length ≤ 2
  /-- R60, R62: a park is begun only with room on the shelf. -/
  lifting : s.shelf.motion = .lifting → s.shelf.stack.length < 2
  /-- R8. -/
  jobs : s.jobs.length ≤ 16
  /-- R8, R9: at most one record of a number, each within its ranges. -/
  jobRecords : (s.jobs.map (·.number)).Nodup ∧ ∀ j ∈ s.jobs, j.Bounded
  /-- R101. -/
  cartridge : s.stapler.cartridge ≤ 5000
  /-- R166. -/
  further : s.fault.further ≤ 255
  /-- R118. -/
  pockets : s.pockets.length = 40
  /-- R135. -/
  tables : s.tables.classes.length = 24 ∧ s.tables.plans.length = 16 ∧ s.tables.grades.length = 8 ∧
    s.tables.pockets.length = 40
  /-- R1: the seat counts of the classes. -/
  seatCounts : ∀ e ∈ s.tables.classes, e.active.seatCount ≤ 40 ∧ ∀ b ∈ e.pending, b.seatCount ≤ 40
  /-- R3: the parts of the plans. -/
  planParts : ∀ e ∈ s.tables.plans, e.active.parts.length ≤ 6 ∧ ∀ b ∈ e.pending, b.parts.length ≤ 6
  /-- R118: the set counts of the pockets. -/
  setCounts : ∀ k ∈ s.pockets, k.setCount ≤ 255
  /-- R92: the tray height of the set in the tray and of those on the shelf. -/
  heights : (∀ r ∈ s.tray.held, r.trayHeight ≤ 1200) ∧ ∀ r ∈ s.shelf.stack, r.trayHeight ≤ 1200
  /-- R128, R131: a session ends at its expected count. -/
  session : ∀ z ∈ s.session, z.inserted < z.expected ∧ z.expected ≤ 20

/-! ## The capacity law (R118) -/

/-- R118: no pocket holds more than its active capacity and the stacker no more than 30000 tu; with what makes that
last: a carry to the stacker fits it (R110), and a pocket's configuration never waits marked (R135, R142). -/
structure State.CapacityLaw (s : State) : Prop where
  pocketCount : s.pockets.length = 40 ∧ s.tables.pockets.length = 40
  pocket : ∀ p, p < 40 → (pocketOf s p).fill ≤ capacityOf s p
  stacker : s.stacker.fill ≤ 30000
  carried : ∀ c o, s.tower.phase = .carrying → s.tower.charge = some c → s.tower.target = some o →
    o.dest = .stacker → s.stacker.fill + c ≤ 30000
  unmarked : ∀ e ∈ s.tables.pockets, e.marked = false ∧ e.refs = 0

/-! ## The single grant (R27, R42) -/

/-- The queue entry is GRANTED. -/
def QueueEntry.isGranted (e : QueueEntry) : Bool :=
  match e.standing with
  | .granted _ => true
  | .queued | .waiting => false

/-- R42: with no grant outstanding no descriptor of either queue is GRANTED; with one, it is the head of its link's
queue, with the grant's tag and route, and nothing else of either queue is GRANTED. -/
structure State.GrantCoherent (s : State) : Prop where
  none : s.grant = none → ∀ l, ∀ e ∈ (s.feeds.get l).entries, e.isGranted = false
  some : ∀ g, s.grant = some g →
    (∃ e rest, (s.feeds.get g.link).entries = e :: rest ∧ e.desc.tag = g.tag ∧
      e.standing = .granted g.purpose.route ∧ ∀ x ∈ rest, x.isGranted = false) ∧
    ∀ e ∈ (s.feeds.get (otherLink g.link)).entries, e.isGranted = false

/-! ## The frozen part (R165) -/

/-- R165: while FAULTED, a first cause is recorded, no grant is outstanding, no session exists, the shelf does not
move, the tower is not HELD, and no timer runs but the stapler's; while not FAULTED, no cause is recorded. -/
structure State.FaultCoherent (s : State) : Prop where
  recorded : s.run = .faulted ↔ s.fault.first.isSome = true
  grant : s.run = .faulted → s.grant = none
  session : s.run = .faulted → s.session = none
  shelf : s.run = .faulted → s.shelf.motion = .idle
  tower : s.run = .faulted → s.tower.phase ≠ .held
  timers : s.run = .faulted → s.timers.warmup = none ∧ s.timers.feedWindow = none ∧ s.timers.stall = none ∧
    s.timers.motion = none ∧ s.timers.eject = none ∧ s.timers.delivery = none

/-! ## Terms of the statements -/

/-- The two states agree in everything but their links. -/
def State.SameButLinks (s t : State) : Prop := t = { s with links := t.links }

/-- The two states agree in what the part never changes of itself after an event (`settle`): fault record, retention
flag, straps, input lines, stacker, pocket records, path, the count of races and the waiting commands. -/
structure State.SameBesides (s t : State) : Prop where
  fault : t.fault = s.fault
  retentionValid : t.retentionValid = s.retentionValid
  straps : t.straps = s.straps
  pins : t.pins = s.pins
  stacker : t.stacker = s.stacker
  pockets : t.pockets = s.pockets
  path : t.path = s.path
  races : t.races = s.races
  pending : t.pending = s.pending

/-- The descriptors of link `l`'s feed queue, head first. -/
def State.descs (s : State) (l : Link) : List Desc := (s.feeds.get l).entries.map (·.desc)

/-- The frame `f` is the next one link `l`'s handler takes, of kind `kind` and of the length its fields call for. -/
def State.requests (s : State) (l : Link) (f : Frame) (kind : Nat) : Prop :=
  oldestFrame s l = some f ∧ f.kind = kind ∧ lengthOk f = true

/-- R141, R142: a table entry after a COMMIT whose scope takes it in, or not: marked when it has a pending part in the
scope, and applied at once when it is marked with a reference count of 0. -/
def Entry.committed {α : Type} (inScope : Bool) (e : Entry α) : Entry α :=
  let marked := e.marked || (inScope && e.pending.isSome)
  if marked && decide (e.refs = 0) then { active := e.pending.getD e.active, pending := none, marked := false, refs := 0 }
  else { e with marked := marked }

/-- Nothing happens of itself after an event: the run state is not RUNNING or HALTING, and no session waits. -/
def State.still (s : State) : Prop := active s = false ∧ s.session = none

end Sys2Proof.Machine
end

