-- ==== Sys2Proof/Certificates/Slice0/Obligations.lean ====
section
/-!
DEFINITION. Certificates/Slice0/Obligations.lean: the statements for the provers. Each docstring names the rules of spec/ it
rests on; where a statement rests on a choice of the model, its docstring names the log entry.
-/
open Sys2Proof Sys2Proof.Machine

/-! ## The step -/

/-- The command at the front of the queue is the one a step takes, with the rest left waiting. -/
def Obligations.StepTakesTheFrontCommand : Prop :=
  ∀ (c : Instr) (rest : List Instr) (s : State), s.pending = c :: rest → step s = exec c (s.withPending rest)

/-- R71 and the model's choice of notes/assumptions/2.md: with no command waiting and nothing due, one tick passes: the
transport timer counts while the part works, every running countdown timer and the session's timer fall by one, and
nothing else changes. -/
def Obligations.IdleStepLetsOneTickPass : Prop :=
  ∀ s : State, s.pending = [] → due s = [] →
    ∃ t, step s = .next t ∧
      t.path = { s.path with timer := if active s then s.path.timer + 1 else s.path.timer } ∧
      t.timers =
        { warmup := s.timers.warmup.map (· - 1), feedWindow := s.timers.feedWindow.map (· - 1)
          stall := s.timers.stall.map (· - 1), motion := s.timers.motion.map (· - 1)
          completion := s.timers.completion.map (· - 1), recovery := s.timers.recovery.map (· - 1)
          eject := s.timers.eject.map (· - 1), delivery := s.timers.delivery.map (· - 1) } ∧
      t.session = s.session.map (fun z => { z with timer := z.timer.map (fun x => (x.1, x.2 - 1)) }) ∧
      { t with path := s.path, timers := s.timers, session := s.session } = s

/-- Every command that names only what the part has completes, and leaves the waiting commands as they are. There are 40
pocket records (R118), so an event of a pocket above 39 stops (notes/assumptions/27.md). -/
def Obligations.CommandsCompleteOrStop : Prop :=
  (∀ (c : Instr) (s : State), c.wellFormed = true → ∃ t, exec c s = .next t ∧ t.pending = s.pending) ∧
  ∀ (p : Nat) (empty : Bool) (s : State), 40 ≤ p →
    exec (.drawerOpen p) s = .fault (.noSuchPocket p) ∧
    exec (.drawerClose p empty) s = .fault (.noSuchPocket p) ∧
    exec (.floorEmpty p) s = .fault (.noSuchPocket p)

/-- What the part does of itself after an event never changes the fault record, the retention flag, the straps, the
stacker, the pocket records or the path, and it is nothing at all while the part is stopped and no session waits
(that the part looks again after every event, and in which order, is the model's reading, notes/assumptions/16.md). In
RUNNING and HALTING it is, in order: the session's hold of the tower (R129) and the eject (R102), the preemption check (R59),
the judgement of the head, which ends the current part unless the needed sheet, a sheet granted for the tray or no sheet
stands there (R51, R52), the hand-over (R55), the arbiter (R43), the judgement again, the stall timer, which runs exactly
while the open set waits on an empty queue (R53), and the end of halting (R164). -/
def Obligations.SettlingKeepsItsFrame : Prop :=
  (∀ s : State, s.SameBesides (settle s) ∧ (s.still → settle s = s) ∧
    (active s = false → settle s = sessionTakesTower s) ∧
    (active s = true → settle s =
      haltCheck (stallUpdate (advance (serve (handOver (advance (preempt (tryEject (sessionTakesTower s)))))))))) ∧
  ∀ s : State,
    let assembling (r : SetRec) : Prop := s.tray.phase = .compiling ∧ s.tray.held = some r ∧
      (∀ c, s.tray.close = some c → c.kind ≠ .final) ∧ r.assembly = .assembling ∧ active s = true
    -- R102
    (s.tray.phase = .ready → s.tower.phase = .idle → active s = true → tryEject s = { s with
      tray := { s.tray with phase := .ejecting }
      tower := { s.tower with phase := .receiving }
      timers := { s.timers with eject := some 30000 } }) ∧
    (s.tray.phase ≠ .ready ∨ s.tower.phase ≠ .idle ∨ active s = false → tryEject s = s) ∧
    -- R51 to R53
    (∀ r p, assembling r → 1 ≤ r.part → (planOf s r.plan).parts[r.part - 1]? = some p →
      (planOf s r.plan).parts.length ≤ 6 →
      let ends : Prop := ∃ e, headOf s p.source = some e ∧ e.standing ≠ .granted .tray ∧
        ¬(headClass s p.source = some .partOfOpen ∧ e.desc.part = r.part)
      let last : Bool := decide ((planOf s r.plan).parts.length ≤ r.part)
      let r' : SetRec :=
        { r with
          flags := { r.flags with short := r.flags.short || decide ((r.partCount r.part).taken < p.minCount) }
          assembly := if last then .closePending else .assembling
          part := if last then r.part else r.part + 1 }
      (¬ends → advance s = s) ∧
      (ends → advance s = advance
        { s with timers := { s.timers with stall := none }, tray := { s.tray with held := some r' } }) ∧
      (headOf s p.source = none → stallUpdate s = { s with timers := { s.timers with
        stall := some (s.timers.stall.getD (10000 * s.tables.transport.active.stall)) } }) ∧
      (headOf s p.source ≠ none → stallUpdate s = { s with timers := { s.timers with stall := none } })) ∧
    ((∀ r, ¬assembling r) →
      advance s = s ∧ stallUpdate s = { s with timers := { s.timers with stall := none } }) ∧
    -- R55
    (let closes (r : SetRec) : Prop := s.tray.phase = .compiling ∧ s.tray.held = some r ∧
       (∀ c, s.tray.close = some c → c.kind ≠ .final) ∧ r.assembly = .closePending ∧ active s = true ∧
       (∀ g, s.grant = some g → g.purpose ≠ .tray) ∧ ∀ x ∈ s.path.entries, x.purpose = .tray → x.state = .toPurge
     (∀ r, closes r → handOver s = closeFinal s r) ∧ ((∀ r, ¬closes r) → handOver s = s)) ∧
    -- R164
    (let done : Prop := s.run = .halting ∧ s.tray.phase = .empty ∧ s.path.entries = [] ∧
       (s.tower.phase = .idle ∨ s.tower.phase = .held) ∧ s.grant = none
     (done → haltCheck s = notifyPlain { s with run := .standby } (.stateChange .halting .standby)) ∧
     (¬done → haltCheck s = s))

/-! ## Invariants -/

/-- The lists, queues and counts of `State.Bounded` stay within the limits their rules give: the FIFOs, outbound queues and
counts of the links (R151 to R153), the feed queues and fault counts (R24, R32), the path list and the purge-bin count
(R73, R88), the shelf's stack (R61), the job list with the counts, seat-status list and reprint list of each job (R8, R9,
R17), the cartridge count (R101), the count of further faults (R166), the tables with the seat counts and plan parts (R1,
R3, R135), the pockets' set counts (R118), the tray heights (R92) and the session's inserted count (R128). The sheets of a
segment are not among them: the split check keeps them to 99 at each grant (R93). -/
def Obligations.EveryStepKeepsTheBounds : Prop :=
  ∀ s t : State, s.Bounded → step s = .next t → t.Bounded

/-- R118: the capacity law lasts through every step. -/
def Obligations.EveryStepKeepsTheCapacityLaw : Prop :=
  ∀ s t : State, s.CapacityLaw → step s = .next t → t.CapacityLaw

/-- R42, R27: the single grant stays single, and is the grant of a head, through every step. -/
def Obligations.EveryStepKeepsTheGrantSingle : Prop :=
  ∀ s t : State, s.GrantCoherent → step s = .next t → t.GrantCoherent

/-- R165, R166: through every step, FAULTED is the state with a recorded cause, and in it the part stays frozen. -/
def Obligations.EveryStepKeepsTheFaultCoherent : Prop :=
  ∀ s t : State, s.FaultCoherent → step s = .next t → t.FaultCoherent

/-- The state after reset is within its bounds, keeps the capacity law, has no grant and no fault. Its straps and sensed
lines are the model's choice (notes/assumptions/1.md). -/
def Obligations.ResetMeetsTheInvariants : Prop :=
  State.reset.Bounded ∧ State.reset.CapacityLaw ∧ State.reset.GrantCoherent ∧ State.reset.FaultCoherent

/-! ## Links (R147 to R155) -/

/-- R149: a character at a receiver that is not inside a frame for this unit, and at an absent link B. -/
def Obligations.ReceiverOutsideAFrame : Prop :=
  ∀ (l : Link) (c : Chr) (s : State),
    ∃ t, exec (.characterReceived l c) s = .next t ∧ s.SameButLinks t ∧
      (∀ m, m ≠ l → t.links.get m = s.links.get m) ∧
      (linkPresent s l = false → t = s) ∧
      (linkPresent s l = true →
        ((s.links.get l).rx = .hunt →
          t.links.get l = if c = 0xF5 then { s.links.get l with rx := .idle } else s.links.get l) ∧
        ((s.links.get l).rx = .idle →
          t.links.get l =
            if c = 0xF1 then { s.links.get l with rx := .receiving false [] }
            else if c.toNat < 128 ∨ c = 0xF2 ∨ c = 0xF4 ∨ c = 0xF5 ∨ c = 0xFF then s.links.get l
            else { s.links.get l with
                   rx := .hunt, framingErrors := min 65535 ((s.links.get l).framingErrors + 1) }) ∧
        ((s.links.get l).rx = .skipping →
          t.links.get l = if c = 0xF2 ∨ c = 0xF4 then { s.links.get l with rx := .idle } else s.links.get l))

/-- R148 to R150: a character at a receiver inside a frame, short of the END that completes it. -/
def Obligations.ReceiverInsideAFrame : Prop :=
  ∀ (l : Link) (c : Chr) (b : Bool) (taken : List Data) (s : State),
    linkPresent s l = true → (s.links.get l).rx = .receiving b taken →
    let k := s.links.get l
    let v : Data := c.setWidth 7
    let len := field taken 2
    let error : LinkPort := { k with rx := .hunt, framingErrors := min 65535 (k.framingErrors + 1) }
    let more : LinkPort := { k with rx := .receiving b (taken ++ [v]) }
    ∃ t, exec (.characterReceived l c) s = .next t ∧
      (c = 0xF4 → t.links.get l = { k with rx := .idle }) ∧
      (c = 0xF5 ∨ c = 0xFF → t.links.get l = k) ∧
      (c = 0xF1 ∨ (128 ≤ c.toNat ∧ c ≠ 0xF2 ∧ c ≠ 0xF4 ∧ c ≠ 0xF5 ∧ c ≠ 0xFF) → t.links.get l = error) ∧
      (c = 0xF2 → taken.length < 4 ∨ taken.length ≠ 4 + len → t.links.get l = error) ∧
      (c.toNat < 128 → taken.length = 0 →
        t.links.get l =
          if v.toNat = s.straps.address.toNat then { k with rx := .receiving false [v] }
          else if v.toNat = 15 then { k with rx := .receiving true [v] }
          else { k with rx := .skipping }) ∧
      (c.toNat < 128 → taken.length = 1 → t.links.get l = more) ∧
      (c.toNat < 128 → taken.length = 2 → t.links.get l = if 120 < v.toNat then error else more) ∧
      (c.toNat < 128 → 3 ≤ taken.length → t.links.get l = if taken.length < 4 + len then more else error)

/-- R148, R149, R151, R152: the END that completes a frame: a bad check is counted; a good frame joins the inbound FIFO,
or is an overrun when it holds 4. -/
def Obligations.CompletedFrameIsOffered : Prop :=
  ∀ (l : Link) (b : Bool) (addr kind len : Data) (payload : List Data) (check : Data) (s : State),
    linkPresent s l = true → payload.length = len.toNat →
    (s.links.get l).rx = .receiving b (addr :: kind :: len :: (payload ++ [check])) →
    let k := s.links.get l
    let sum := addr.toNat + kind.toNat + len.toNat + (payload.map (·.toNat)).sum
    ∃ t, exec (.frameReceived l) s = .next t ∧ exec (.characterReceived l 0xF2) s = .next t ∧
      s.SameButLinks t ∧ (∀ m, m ≠ l → t.links.get m = s.links.get m) ∧
      t.links.get l =
        if check.toNat = sum % 128 then
          if k.fifo.length < 4 then
            { k with rx := .idle, fifo := k.fifo ++ [{ broadcast := b, kind := kind.toNat, payload := payload }] }
          else { k with rx := .idle, overruns := min 65535 (k.overruns + 1) }
        else { k with rx := .idle, checkErrors := min 65535 (k.checkErrors + 1) }

/-- R147, R148, R154 to R157: the characters of a frame the part sends, its payload by its kind, and the code and the body
fields of each notice kind. A field takes the characters its range needs, the low 7 bits first, a flag is 0 or 1, an
optional field follows a presence character, a list follows its length, and an enumerated field is numbered from 0 in the
order its rule lists it (how many characters a field's range needs is judged in notes/assumptions/20.md). -/
def Obligations.SentFrameLayout : Prop :=
  (∀ (address : BitVec 3) (o : Outbound), o.payload.length ≤ 120 →
    let values := [address.toNat, o.kind, o.payload.length] ++ o.payload.map (·.toNat)
    (frameChars address o).map (·.toNat) = [0xF5, 0xF1] ++ values ++ [values.sum % 128, 0xF2]) ∧
  -- the fields
  (∀ n : Nat, (enc1 n).map (·.toNat) = [n % 128] ∧ (enc2 n).map (·.toNat) = [n % 128, n / 128 % 128] ∧
    (enc3 n).map (·.toNat) = [n % 128, n / 128 % 128, n / 16384 % 128]) ∧
  (∀ b : Bool, encBool b = enc1 (if b = true then 1 else 0)) ∧
  (∀ (α : Type) (enc : α → List Data) (x : α) (xs : List α), encOpt enc none = enc1 0 ∧
    encOpt enc (some x) = enc1 1 ++ enc x ∧ encList enc xs = enc1 xs.length ++ (xs.map enc).flatten) ∧
  (∀ (f : SetFlags) (jam : Bool), f.bits jam = (if f.short then 1 else 0) + (if f.incomplete then 2 else 0) +
    (if f.gap then 4 else 0) + (if f.withheld then 8 else 0) + (if f.routeException then 16 else 0) +
    (if f.unstapled then 32 else 0) + (if jam then 64 else 0)) ∧
  -- the codes of the enumerated fields
  [Link.a, .b].map Link.code = [0, 1] ∧ [Route.tray, .purge].map Route.code = [0, 1] ∧
  [SegRoute.normal, .exception].map SegRoute.code = [0, 1] ∧ [Side.left, .right].map Side.code = [0, 1] ∧
  [Place.seat, .exception, .overflow, .stacker].map Place.code = [0, 1, 2, 3] ∧
  [FaultyReason.range, .duplicateTag, .unknownJob, .seatRange, .partRange, .wrongLink, .order].map FaultyReason.code =
    [0, 1, 2, 3, 4, 5, 6] ∧
  [LengthResult.shortSheet, .longSheet].map LengthResult.causeCode = [0, 1] ∧
  [Purpose.tray, .purgeFaulty, .purgeOrphan, .stray].map Purpose.code = [0, 1, 2, 3] ∧
  [PocketState.available, .full, .withdrawn, .disabled, .unverified].map PocketState.code = [0, 1, 2, 3, 4] ∧
  [EndCause.insDone, .countReached, .noFirstSheet, .sheetGap, .drawer, .targetDisabled, .noPocket, .fault].map
    EndCause.code = [0, 1, 2, 3, 4, 5, 6, 7] ∧
  [RunState.standby, .warming, .running, .halting, .faulted].map RunState.code = [0, 1, 2, 3, 4] ∧
  [FaultCause.pathJam, .sensor, .towerJam, .shelfJam, .warmup, .trayOccupied, .shelfOccupied].map FaultCause.code =
    [0, 1, 2, 3, 4, 5, 6] ∧
  [PathSensor.sa, .sb, .st, .sp].map PathSensor.code = [0, 1, 2, 3] ∧
  [Reason.badState, .busy, .full, .inUse, .unknownJob, .invalidEntry, .range, .structureError, .notStandby, .linkAbsent,
    .noPocket, .unknownKind, .badLength].map Reason.code = [0, 1, 2, 3, 4, 5, 6, 7, 8, 9, 10, 11, 12] ∧
  (∀ p : Nat, (Dest.pocket p).code = p) ∧ Dest.stacker.code = 127 ∧
  -- the payloads
  (∀ (tag : Nat) (route : Route), (Outbound.grant tag route).kind = 0x40 ∧
    (Outbound.grant tag route).payload = enc1 tag ++ enc1 route.code) ∧
  (∀ tag : Nat, (Outbound.withdraw tag).kind = 0x41 ∧ (Outbound.withdraw tag).payload = enc1 tag) ∧
  (∀ (kind : Nat) (body : List Data),
    let payload (r : Result) : List Data := (Outbound.answer { kind := kind, result := r, body := body }).payload
    (∀ r, (Outbound.answer { kind := kind, result := r, body := body }).kind = 0x42) ∧
    payload .done = enc1 kind ++ enc1 0 ++ body ∧ payload .clamped = enc1 kind ++ enc1 1 ++ body ∧
    payload .accepted = enc1 kind ++ enc1 2 ++ body ∧
    ∀ why, payload (.refused why) = enc1 kind ++ enc1 3 ++ enc1 why.code ++ body) ∧
  (∀ n : Notice, (Outbound.notice n).kind = 0x43 ∧
    (Outbound.notice n).payload = enc1 n.body.code ++ enc1 n.replyTag ++ enc1 n.job ++ n.body.fields) ∧
  -- the notices
  let sends (b : NoticeBody) (code : Nat) (fields : List Data) : Prop := b.code = code ∧ b.fields = fields
  let sheet (d : Desc) : List Data := enc1 d.tag ++ enc1 d.job ++ enc1 d.seat ++ enc1 d.part ++ enc1 d.index
  let place (l : Link) (d : Desc) : List Data :=
    enc1 (Link.code l) ++ enc1 d.tag ++ enc1 d.seat ++ enc1 d.part ++ enc1 d.index
  (∀ d : Delivery, sends (.setDelivered d) 1
    (enc1 d.seat ++ enc1 d.dest.code ++ enc1 d.place.code ++ enc1 d.side.code ++ enc1 d.segment ++ encBool d.final ++
      enc1 d.sheets ++ enc2 d.totalSheets ++ enc2 d.height ++ enc2 d.charge ++ enc1 d.staples ++ enc1 d.route.code ++
      enc1 (d.flags.bits d.jamMark) ++ encOpt enc1 d.note ++ enc3 d.fillAfter)) ∧
  (∀ (seat segment total : Nat) (final jam : Bool) (flags : SetFlags),
    sends (.setLost seat segment final total flags jam) 2
      (enc1 seat ++ enc1 segment ++ encBool final ++ enc2 total ++ enc1 (flags.bits jam)) ∧
    sends (.setEmpty seat segment total flags) 3 (enc1 seat ++ enc1 segment ++ enc2 total ++ enc1 (flags.bits false))) ∧
  (∀ (l : Link) (d : Desc) (cause : LengthResult) (expected : Nat) (measured : Option Nat) (reason : FaultyReason)
    (count : Nat),
    sends (.sheetRejected l d cause expected measured) 4
      (place l d ++ enc1 cause.causeCode ++ enc2 expected ++ encOpt enc2 measured) ∧
    sends (.sheetPurged l d) 5 (place l d) ∧
    sends (.descriptorFault l reason d count) 6
      (enc1 (Link.code l) ++ enc1 reason.code ++ sheet d ++ encBool d.last ++ enc1 d.grade ++ enc1 d.size ++
        encOpt enc1 d.note ++ enc3 count) ∧
    sends (.queueOverflow l d) 7 (enc1 (Link.code l) ++ sheet d) ∧
    sends (.feedMissed l d) 8 (enc1 (Link.code l) ++ sheet d)) ∧
  (∀ (es : List (Link × Tick)) (granted : Option (Desc × Purpose)), sends (.mergeConflict es granted) 9
    (enc1 es.length ++ (es.map (fun e => enc1 (Link.code e.1) ++ enc3 e.2.toNat)).flatten ++
      encOpt (fun g => sheet g.1 ++ enc1 g.2.code) granted)) ∧
  (∀ (p fill capacity : Nat) (failed : Option Nat) (st : PocketState),
    sends (.pocketFull p fill capacity failed) 10 (enc1 p ++ enc2 fill ++ enc2 capacity ++ encOpt enc2 failed) ∧
    sends (.pocketWithdrawn p st fill) 11 (enc1 p ++ enc1 st.code ++ enc2 fill) ∧
    sends (.pocketReturned p st fill) 12 (enc1 p ++ enc1 st.code ++ enc2 fill)) ∧
  (∀ seat segment charge fill count : Nat,
    sends (.stackerFull seat segment charge fill) 13 (enc1 seat ++ enc1 segment ++ enc2 charge ++ enc3 fill) ∧
    sends .stackerEmptied 14 [] ∧ sends (.purgeFull count) 15 (enc3 count) ∧ sends .purgeEmptied 16 [] ∧
    sends (.staplerJam seat segment) 17 (enc1 seat ++ enc1 segment) ∧ sends (.staplesLow count) 18 (enc2 count) ∧
    sends (.cartridgeIn count) 19 (enc2 count) ∧ sends (.commitDone count) 21 (enc1 count)) ∧
  (∀ m : Summary, sends (.jobClosed m) 20
    (enc3 m.delivered ++ enc3 m.diverted ++ enc3 m.exceptions ++ enc3 m.lost ++ enc1 m.reprints ++ enc1 m.pending)) ∧
  (∀ (seat target fill expected inserted : Nat) (at' : Place) (cause : EndCause),
    sends (.insertReady seat target at' fill expected) 22
      (enc1 seat ++ enc1 target ++ enc1 at'.code ++ enc2 fill ++ enc1 expected) ∧
    sends (.insertDone seat target at' expected inserted cause fill) 23
      (enc1 seat ++ enc1 target ++ enc1 at'.code ++ enc1 expected ++ enc1 inserted ++ enc1 cause.code ++ enc2 fill)) ∧
  (∀ (was now : RunState) (d : FaultDetail),
    sends (.stateChange was now) 24 (enc1 was.code ++ enc1 now.code) ∧
    sends (.fault d) 25 (enc1 d.cause.code ++ encOpt (fun x => enc1 (PathSensor.code x)) d.sensor ++
      encOpt (fun x => enc1 (Link.code x)) d.link ++ encOpt enc1 d.tag) ∧
    sends .retentionLost 26 [])

/-- R153, R151: a frame that is to be queued: it joins the queue, or is dropped and counted when the queue holds 8; an
idle transmitter with nothing else to send starts it at once (notes/assumptions/4.md). An ANSWER goes on the link its
request came in on, and none is sent for a broadcast (R150, R155); a NOTICE goes on the notice link in force, link A when
link B is absent (R145, R153), with the job and its reply tag in the header, or 0 for each. -/
def Obligations.QueueingAFrame : Prop :=
  (∀ (s : State) (l : Link) (o : Outbound), linkPresent s l = true →
    let k := s.links.get l
    let t := queueOut s l o
    s.SameButLinks t ∧ (∀ m, m ≠ l → t.links.get m = s.links.get m) ∧
    (k.sending.isSome = true →
      t.links.get l =
        if k.queue.length < 8 then { k with queue := k.queue ++ [o] } else { k with dropped := min 255 (k.dropped + 1) }) ∧
    (k.sending = none → k.lane = none → k.queue = [] →
      t.links.get l = { k with sending := some o, line := frameChars s.straps.address o })) ∧
  (∀ (s : State) (l : Link) (f : Frame) (r : Result) (body : List Data),
    (f.broadcast = true → answerTo s l f r body = s) ∧
    (f.broadcast = false → answerTo s l f r body = queueOut s l (.answer { kind := f.kind, result := r, body := body }))) ∧
  ∀ (s : State) (tag job : Nat) (body : NoticeBody),
    notify s tag job body =
      queueOut s (if s.straps.linkBPresent = true then s.tables.transport.active.noticeLink else .a)
        (.notice { replyTag := tag, job := job, body := body }) ∧
    notifyPlain s body = notify s 0 0 body ∧
    (∀ j, findJob s job = some j → notifyJob s job body = notify s j.replyTag job body) ∧
    (findJob s job = none → notifyJob s job body = notify s 0 0 body)

/-- R153, R47, R154: a transmitter that finishes its frame starts the grant lane's frame, or else the oldest of its queue;
the feed window starts at the end of the outstanding grant's own GRANT, which the model tells by the grant's stage
(notes/assumptions/12.md): a GRANT that was being sent has then been sent, and one that was in the lane is being sent. When
a WITHDRAW leaves the lane, the arbiter, which made no GRANT while it waited there, serves
again (the model's choice, notes/assumptions/11.md). -/
def Obligations.FinishedFrameStartsTheNext : Prop :=
  ∀ (s : State) (l : Link) (o : Outbound), linkPresent s l = true → (s.links.get l).sending = some o →
    let k := s.links.get l
    ∃ t,
      ((∀ tag, k.lane ≠ some (.withdraw tag)) → exec (.transmitComplete l) s = .next t) ∧
      (∀ tag, k.lane = some (.withdraw tag) → exec (.transmitComplete l) s = .next (settle t)) ∧
      t = { s with links := t.links, grant := t.grant, timers := t.timers } ∧
      (∀ m, m ≠ l → t.links.get m = s.links.get m) ∧
      t.grant = s.grant.map (fun g => if g.link = l
        then { g with stage := if g.stage = .inLane then .sending else .sent } else g) ∧
      (∀ x, k.lane = some x →
        t.links.get l = { k with sending := some x, line := frameChars s.straps.address x, lane := none }) ∧
      (∀ x rest, k.lane = none → k.queue = x :: rest →
        t.links.get l = { k with sending := some x, line := frameChars s.straps.address x, queue := rest }) ∧
      (k.lane = none → k.queue = [] → t.links.get l = { k with sending := none, line := [] }) ∧
      t.timers = { s.timers with
        feedWindow :=
          if (s.grant.any (fun g => g.link == l && g.stage == .sending)) = true
          then some (10 * s.tables.transport.active.feedWindow) else s.timers.feedWindow }

/-- R152: a frame of no inbound kind is answered REFUSED UNKNOWN-KIND, whatever its length, and a request whose length does
not fit it is answered REFUSED BAD-LENGTH and not handed on, the seven ASKs (R158) among them. The lengths are those of R23
and of "Request payloads" (10_the_feed_links.md). That a LOAD or an ASK without
its code may be taken by any of the commands of its kind is the model's choice (notes/assumptions/6.md). -/
def Obligations.FramesTheHandlerRefuses : Prop :=
  (∀ f : Frame,
    let n := f.payload.length
    let v (k : Nat) := field f.payload k
    lengthOk f = true ↔
      (f.kind = 0x01 ∧ n = 7 + v 5 / 2 % 2 ∧ 6 < n) ∨
      (f.kind = 0x02 ∧ (v 5 = 0 ∧ n = 7 ∨ v 5 = 1 ∧ n = 8)) ∨
      (f.kind = 0x03 ∧ n = 1) ∨
      (f.kind = 0x04 ∧ 0 < n ∧ (v 0 = 0 ∧ n = 4 ∨ v 0 = 1 ∧ n = 4 + 2 * v 3 ∨ v 0 = 2 ∧ n = 6 + 3 * v 2 ∨
        v 0 = 3 ∧ n = 3 ∨ v 0 = 4 ∧ n = 5 ∨ v 0 = 5 ∧ n = 7 ∨ 5 < v 0)) ∨
      (f.kind = 0x05 ∧ n = 1) ∨
      (f.kind = 0x0B ∧ n = 4) ∨
      (f.kind = 0x0C ∧ 0 < n ∧ (v 0 = 0 ∧ n = 1 ∨ v 0 = 1 ∧ n = 2 ∨ v 0 = 2 ∧ n = 2 ∨ v 0 = 3 ∧ n = 3 ∨ v 0 = 4 ∧ n = 2 ∨
        v 0 = 5 ∧ 1 < n ∧ (v 1 = 0 ∧ n = 4 ∨ 1 ≤ v 1 ∧ v 1 ≤ 4 ∧ n = 3 ∨ 4 < v 1) ∨ v 0 = 6 ∧ n = 1 ∨ 6 < v 0)) ∨
      (f.kind ∉ [0x01, 0x02, 0x03, 0x04, 0x05, 0x0B, 0x0C] ∧ n = 0)) ∧
  ∀ (s : State) (l : Link) (f : Frame) (pins : Pins), oldestFrame s l = some f →
    (f.kind = 0 ∨ 12 < f.kind →
      exec (.unknownKind l) s = .next (answerTo (takeFrame s l) l f (.refused .unknownKind) [])) ∧
    (lengthOk f = false →
    let refused : Out := .next (answerTo (takeFrame s l) l f (.refused .badLength) [])
    (f.kind = 0x01 → exec (.announce l) s = refused) ∧
    (f.kind = 0x02 → exec (.openJob l) s = refused) ∧
    (f.kind = 0x03 → exec (.closeJob l) s = refused) ∧
    (f.kind = 0x04 → f.payload = [] ∨ field f.payload 0 = 0 → exec (.loadClass l) s = refused) ∧
    (f.kind = 0x04 → f.payload = [] ∨ field f.payload 0 = 1 → exec (.loadSeats l) s = refused) ∧
    (f.kind = 0x04 → f.payload = [] ∨ field f.payload 0 = 2 → exec (.loadPlan l) s = refused) ∧
    (f.kind = 0x04 → f.payload = [] ∨ field f.payload 0 = 3 → exec (.loadGrade l) s = refused) ∧
    (f.kind = 0x04 → f.payload = [] ∨ field f.payload 0 = 4 → exec (.loadPocket l) s = refused) ∧
    (f.kind = 0x04 → f.payload = [] ∨ field f.payload 0 = 5 → exec (.loadTransport l) s = refused) ∧
    (f.kind = 0x05 → exec (.commit l pins.pockets) s = refused) ∧
    (f.kind = 0x06 → exec (.run l) s = refused) ∧
    (f.kind = 0x07 → exec (.standby l) s = refused) ∧
    (f.kind = 0x08 → exec (.clear l pins) s = refused) ∧
    (f.kind = 0x09 → exec (.markRetained l) s = refused) ∧
    (f.kind = 0x0A → exec (.clearCounts l) s = refused) ∧
    (f.kind = 0x0B → exec (.insert l) s = refused) ∧
    (f.kind = 0x0C → f.payload = [] ∨ field f.payload 0 = 0 → exec (.askStatus l) s = refused) ∧
    (f.kind = 0x0C → f.payload = [] ∨ field f.payload 0 = 1 → exec (.askJob l) s = refused) ∧
    (f.kind = 0x0C → f.payload = [] ∨ field f.payload 0 = 2 → exec (.askPocket l) s = refused) ∧
    (f.kind = 0x0C → f.payload = [] ∨ field f.payload 0 = 3 → exec (.askQueue l) s = refused) ∧
    (f.kind = 0x0C → f.payload = [] ∨ field f.payload 0 = 4 → exec (.askCapture l) s = refused) ∧
    (f.kind = 0x0C → f.payload = [] ∨ field f.payload 0 = 5 → exec (.askEntry l) s = refused) ∧
    (f.kind = 0x0C → f.payload = [] ∨ field f.payload 0 = 6 → exec (.askSet l) s = refused))

/-- R151: CLEAR-COUNTS sets all four counts of both links to 0, and its answer is queued after the clearing. -/
def Obligations.ClearCountsZeroesAllCounts : Prop :=
  ∀ (s : State) (l : Link) (f : Frame), s.requests l f 0x0A →
    ∃ u, exec (.clearCounts l) s = .next (answerTo u l f .done []) ∧ s.SameButLinks u ∧
      ∀ m, u.links.get m =
        { s.links.get m with
          fifo := if m = l then (s.links.get m).fifo.tail else (s.links.get m).fifo
          framingErrors := 0, checkErrors := 0, overruns := 0, dropped := 0 }

/-! ## Requests (R10 to R21, R23 to R28, R126, R137 to R142, R158 to R168) -/

/-- R23 to R27, R32: an ANNOUNCE's descriptor joins the tail of its link's feed queue, or is discarded when the queue holds
12; the first of an empty queue is checked at once (R26, R30), and one that fails is captured. Nothing that the part
never changes of itself is changed. R25, R26: a discarded descriptor sends QUEUE-OVERFLOW; one that joins carries RANGE for a
field out of its range, or DUPLICATE-TAG for a tag that stands in the queue. R30, R31: the checks at the head in their
order. R27, R32, R33: how a descriptor becomes the head: WAITING, checked once, and captured with DESCRIPTOR-FAULT when it is
FAULTY. What the part then looks at (`settle`) is the model's reading (notes/assumptions/16.md). -/
def Obligations.AnnouncedSheetsQueueUp : Prop :=
  (∀ (s : State) (l : Link) (f : Frame), s.requests l f 0x01 →
    let d := announcedDesc f.payload
    let inRange := 1 ≤ d.job ∧ d.job ≤ 63 ∧ 1 ≤ d.seat ∧ d.seat ≤ 40 ∧ 1 ≤ d.part ∧ d.part ≤ 6 ∧
      1 ≤ d.index ∧ d.index ≤ 99
    let fails : Option FaultyReason :=
      if s.descs l ≠ [] then none else if ¬inRange then some .range else checkHead s l d
    let was := (s.feeds.get l).capture
    let u := takeFrame s l
    let mark : Option FaultyReason :=
      if ¬inRange then some .range else if ∃ x ∈ s.descs l, x.tag = d.tag then some .duplicateTag else none
    let joined : State := { u with feeds := s.feeds.set l { (s.feeds.get l) with
      entries := (s.feeds.get l).entries ++ [{ desc := d, standing := .queued, checked := false, faulty := mark }] } }
    ∃ t, exec (.announce l) s = .next t ∧ s.SameBesides t ∧
      t.descs l = (if 12 ≤ (s.descs l).length then s.descs l else s.descs l ++ [d]) ∧
      (∀ r, fails = some r →
        (t.feeds.get l).capture = { count := min 65535 (was.count + 1), held := some (d, r) }) ∧
      (fails = none → (t.feeds.get l).capture = was) ∧
      t.descs (otherLink l) = s.descs (otherLink l) ∧
      (t.feeds.get (otherLink l)).capture = (s.feeds.get (otherLink l)).capture ∧
      (12 ≤ (s.descs l).length → t = settle (notify u (((findJob s d.job).map (·.replyTag)).getD 0)
        (if 1 ≤ d.job ∧ d.job ≤ 63 then d.job else 0) (.queueOverflow l d))) ∧
      (1 ≤ (s.descs l).length → (s.descs l).length < 12 → t = settle joined) ∧
      (s.descs l = [] → t = settle (newHead joined l))) ∧
  (∀ (s : State) (l : Link) (d : Desc),
    (findJob s d.job = none → checkHead s l d = some .unknownJob) ∧
    ∀ j, findJob s d.job = some j →
      let part := (planOf s j.plan).parts[d.part - 1]?
      let late (r : SetRec) : Prop := (∀ c, s.tray.close = some c → c.kind ≠ .final) ∧ r.job = d.job ∧ r.seat = d.seat ∧
        (d.part < r.part ∨
          (d.part = r.part ∧ d.index ≤ ((r.parts[d.part - 1]?).map (·.lastIndex)).getD 0))
      (j.seats.length < d.seat ∨ (classOf s j.cls).seatCount < d.seat → checkHead s l d = some .seatRange) ∧
      (d.seat ≤ j.seats.length → d.seat ≤ (classOf s j.cls).seatCount →
        (part = none → checkHead s l d = some .partRange) ∧
        ∀ p, part = some p →
          (p.source ≠ l → checkHead s l d = some .wrongLink) ∧
          (p.source = l →
            ((∃ r, s.tray.held = some r ∧ late r) → checkHead s l d = some .order) ∧
            ((∀ r, s.tray.held = some r → ¬late r) → checkHead s l d = none)))) ∧
  ∀ (s : State) (l : Link),
    ((s.feeds.get l).entries = [] → newHead s l = s) ∧
    ∀ e rest, (s.feeds.get l).entries = e :: rest →
      let stands (e' : QueueEntry) : State := { s with feeds := s.feeds.set l { (s.feeds.get l) with entries := e' :: rest } }
      let n := min 65535 ((s.feeds.get l).capture.count + 1)
      let captured (e' : QueueEntry) (r : FaultyReason) : State := notify
        { s with feeds := s.feeds.set l { entries := e' :: rest, capture := { count := n, held := some (e.desc, r) } } }
        (((findJob s e.desc.job).map (·.replyTag)).getD 0) (if 1 ≤ e.desc.job ∧ e.desc.job ≤ 63 then e.desc.job else 0)
        (.descriptorFault l r e.desc n)
      (∀ r, e.faulty = some r → newHead s l = captured { e with standing := .waiting } r) ∧
      (e.faulty = none → e.checked = true → newHead s l = stands { e with standing := .waiting }) ∧
      (e.faulty = none → e.checked = false →
        (checkHead s l e.desc = none → newHead s l = stands { e with standing := .waiting, checked := true }) ∧
        ∀ r, checkHead s l e.desc = some r →
          newHead s l = captured { e with standing := .waiting, faulty := some r } r)

/-- R10: OPEN-JOB: the first check that fails decides the refusal, and the job list is as it was; one that passes every
check adds the record of R11. -/
def Obligations.OpenJobIsJudgedInOrder : Prop :=
  ∀ (s : State) (l : Link) (f : Frame), s.requests l f 0x02 →
    let v (k : Nat) := field f.payload k
    let q : OpenRequest :=
      { job := v 0, plan := v 1, cls := v 2, priority := v 3, exceptionPocket := v 4
        overflowPocket := if v 5 = 1 then some (v 6) else none
        replyTag := if v 5 = 1 then v 7 else v 6 }
    let u := takeFrame s l
    exec (.openJob l) s = .next (
      if s.run = .faulted then answerTo u l f (.refused .badState) []
      else if ¬(1 ≤ q.job ∧ q.job ≤ 63 ∧ q.plan ≤ 15 ∧ q.cls ≤ 23 ∧ q.priority ≤ 3) then
        answerTo u l f (.refused .range) []
      else if 16 ≤ s.jobs.length then answerTo u l f (.refused .full) []
      else if (s.jobs.any (fun j => j.number == q.job)) = true then answerTo u l f (.refused .inUse) []
      else if (planOf s q.plan).parts = [] ∨ (classOf s q.cls).seatCount = 0 then
        answerTo u l f (.refused .invalidEntry) []
      else if towerSize s ≤ q.exceptionPocket ∨ (∃ p ∈ q.overflowPocket, towerSize s ≤ p) then
        answerTo u l f (.refused .range) []
      else if s.straps.linkBPresent = false ∧ (∃ x ∈ (planOf s q.plan).parts, x.source = .b) then
        answerTo u l f (.refused .linkAbsent) []
      else
        answerTo
          { u with jobs := s.jobs ++
              [{ number := q.job, phase := .opened, plan := q.plan, cls := q.cls, priority := q.priority
                 exceptionPocket := q.exceptionPocket, overflowPocket := q.overflowPocket, replyTag := q.replyTag
                 seats := List.replicate (classOf s q.cls).seatCount .pending
                 reprint := [], delivered := 0, diverted := 0, exceptions := 0, lost := 0 }] }
          l f .done [])

/-- R20, R21: CLOSE-JOB: RANGE, UNKNOWN-JOB, DONE with the summary for an OPEN job that holds nothing, and ACCEPTED for one
that holds something, which becomes CLOSING, and for a CLOSING one. What a job holds is R19's list. At the events of R20
every CLOSING job that holds nothing is removed, and a job that goes alone sends one JOB-CLOSED with its summary (of several
that go at one event, the order of their notices is the model's choice, notes/assumptions/7.md). -/
def Obligations.CloseJobRemovesOrWaits : Prop :=
  (∀ (s : State) (l : Link) (f : Frame), s.requests l f 0x03 →
    let n := field f.payload 0
    let u := takeFrame s l
    (n = 0 ∨ 63 < n → exec (.closeJob l) s = .next (answerTo u l f (.refused .range) [])) ∧
    (1 ≤ n → n ≤ 63 → findJob s n = none → exec (.closeJob l) s = .next (answerTo u l f (.refused .unknownJob) [])) ∧
    (∀ j, 1 ≤ n → n ≤ 63 → findJob s n = some j →
      (j.phase = .closing → exec (.closeJob l) s = .next (answerTo u l f .accepted [])) ∧
      (j.phase = .opened → holdsClose s n = true →
        exec (.closeJob l) s = .next (answerTo
          { u with jobs := s.jobs.map (fun x => if x.number = n then { x with phase := .closing } else x) }
          l f .accepted [])) ∧
      (j.phase = .opened → holdsClose s n = false →
        exec (.closeJob l) s = .next (answerTo
          { u with jobs := s.jobs.filter (fun x => x.number ≠ n) } l f .done
          ([BitVec.ofNat 7 j.number, BitVec.ofNat 7 j.replyTag] ++ encSummary j.summary))))) ∧
  (∀ (s : State) (n : Nat), holdsClose s n = true ↔
    (∃ r, s.tray.held = some r ∧ r.job = n) ∨ (∃ r ∈ s.shelf.stack, r.job = n) ∨
    (∃ g, s.tower.carried = some g ∧ g.final = true ∧ g.job = n) ∨
    (∃ l, ∃ d ∈ s.descs l, d.job = n) ∨ (∃ e ∈ s.path.entries, ∃ d, e.desc = some d ∧ d.job = n) ∨
    (∃ z, s.session = some z ∧ z.job = n)) ∧
  ∀ s : State, (s.jobs.map (·.number)).Nodup → (∀ j ∈ s.jobs, 1 ≤ j.number ∧ j.number ≤ 63) →
    let goes (j : Job) : Prop := j.phase = .closing ∧ holdsClose s j.number = false
    let t := removeClosed s
    t = { s with links := t.links, jobs := t.jobs } ∧
    t.jobs = s.jobs.filter (fun j => !(j.phase == .closing && !holdsClose s j.number)) ∧
    ((∀ j ∈ s.jobs, ¬goes j) → t = s) ∧
    ∀ j ∈ s.jobs, goes j → (∀ i ∈ s.jobs, i ≠ j → ¬goes i) →
      t = notify { s with jobs := s.jobs.filter (fun x => x.number ≠ j.number) } j.replyTag j.number
        (.jobClosed
          { delivered := j.delivered, diverted := j.diverted, exceptions := j.exceptions, lost := j.lost
            reprints := j.reprint.length, pending := (j.seats.filter (· == .pending)).length })

/-- R137 to R140: the CLASS and SEATS loads write the class's pending part, clamped, and nothing else of the tables; a class
out of range, a run out of range, a withheld code that names nothing and a LOAD kind code that names nothing are refused
STRUCTURE (that any of the six LOAD commands may take a frame of such a kind code is the model's choice,
notes/assumptions/6.md). -/
def Obligations.ClassLoadsWriteThePendingPart : Prop :=
  ∀ (s : State) (l : Link) (f : Frame), s.requests l f 0x04 →
    let i := field f.payload 1
    let refused : Out := .next (answerTo (takeFrame s l) l f (.refused .structureError) [])
    (5 < field f.payload 0 → exec (.loadClass l) s = refused ∧ exec (.loadSeats l) s = refused) ∧
    (s.tables.classes[i]? = none →
      (field f.payload 0 = 0 → exec (.loadClass l) s = refused) ∧
      (field f.payload 0 = 1 → exec (.loadSeats l) s = refused)) ∧
    ∀ e : Entry ClassBody, s.tables.classes[i]? = some e →
    let body := e.pending.getD e.active
    let written (b : ClassBody) : State := { takeFrame s l with
      tables := { s.tables with classes := s.tables.classes.set i { e with pending := some b } } }
    (field f.payload 0 = 0 →
      exec (.loadClass l) s = .next (answerTo
        (written { body with seatCount := min 40 (field f.payload 2), pocketBase := min 39 (field f.payload 3) }) l f
        (if field f.payload 2 ≤ 40 ∧ field f.payload 3 ≤ 39 then .done else .clamped) [])) ∧
    (field f.payload 0 = 1 →
      let first := field f.payload 2
      let run := field f.payload 3
      (first = 0 ∨ 40 < first ∨ run = 0 ∨ 20 < run ∨ 40 < first + run - 1 → exec (.loadSeats l) s = refused) ∧
      ((∃ k, k < run ∧ 1 < field f.payload (5 + 2 * k)) → exec (.loadSeats l) s = refused) ∧
      (1 ≤ first → 1 ≤ run → run ≤ 20 → first + run - 1 ≤ 40 →
        (∀ k, k < run → field f.payload (5 + 2 * k) ≤ 1) → body.seats.length = 40 →
        ∃ b, exec (.loadSeats l) s = .next (answerTo (written b) l f
            (if ∀ k, k < run → field f.payload (4 + 2 * k) ≤ 39 then .done else .clamped) []) ∧
          b.seatCount = body.seatCount ∧ b.pocketBase = body.pocketBase ∧
          ∀ seat, 1 ≤ seat → seat ≤ 40 → b.seatEntry seat =
            if first ≤ seat ∧ seat < first + run then
              { offset := min 39 (field f.payload (4 + 2 * (seat - first)))
                withheld := field f.payload (5 + 2 * (seat - first)) == 1 }
            else body.seatEntry seat))

/-- R137 to R140: the PLAN load replaces the whole pending part, its counts clamped; a plan out of range, a part whose min
exceeds its max after the clamps, a code that names nothing, and a count above 6 are refused STRUCTURE (for a kind code
that names nothing the command is the model's choice, notes/assumptions/6.md). -/
def Obligations.PlanLoadsWriteThePendingPart : Prop :=
  ∀ (s : State) (l : Link) (f : Frame), s.requests l f 0x04 →
    let at' (k : Nat) := field f.payload k
    let refused : Out := .next (answerTo (takeFrame s l) l f (.refused .structureError) [])
    (5 < at' 0 → exec (.loadPlan l) s = refused) ∧
    (at' 0 = 2 → s.tables.plans[at' 1]? = none → exec (.loadPlan l) s = refused) ∧
    ∀ e : Entry PlanBody, at' 0 = 2 → s.tables.plans[at' 1]? = some e →
    let n := at' 2
    let lo (k : Nat) := min 99 (at' (4 + 3 * k))
    let hi (k : Nat) := min 99 (max 1 (at' (5 + 3 * k)))
    ((6 < n ∨ (∃ k, k < n ∧ (1 < at' (3 + 3 * k) ∨ hi k < lo k)) ∨ 2 < at' (3 + 3 * n) ∨ 1 < at' (4 + 3 * n) ∨
        1 < at' (5 + 3 * n)) →
      exec (.loadPlan l) s = refused) ∧
    (n ≤ 6 → (∀ k, k < n → at' (3 + 3 * k) ≤ 1 ∧ lo k ≤ hi k) → at' (3 + 3 * n) ≤ 2 → at' (4 + 3 * n) ≤ 1 →
      at' (5 + 3 * n) ≤ 1 →
      let body : PlanBody :=
        { parts := (List.range n).map (fun k =>
            { source := if at' (3 + 3 * k) = 0 then .a else .b, minCount := lo k, maxCount := hi k })
          stapleMode := if at' (3 + 3 * n) = 0 then .none else if at' (3 + 3 * n) = 1 then .corner else .edge
          stapleRequired := at' (4 + 3 * n) == 1
          parkPermitted := at' (5 + 3 * n) == 1 }
      exec (.loadPlan l) s = .next (answerTo
        { takeFrame s l with
          tables := { s.tables with plans := s.tables.plans.set (at' 1) { e with pending := some body } } }
        l f (if ∀ k, k < n → lo k = at' (4 + 3 * k) ∧ hi k = at' (5 + 3 * k) then .done else .clamped) []))

/-- R137 to R140: the GRADE, POCKET and TRANSPORT loads write the pending part, clamped, the speed rounded down to the
grid of 10 mm/s; a grade or a pocket out of range, an enabled or a notice-link code that names nothing, and a kind code
that names nothing are refused STRUCTURE (for the last the command is the model's choice, notes/assumptions/6.md). -/
def Obligations.GradePocketAndTransportLoads : Prop :=
  ∀ (s : State) (l : Link) (f : Frame), s.requests l f 0x04 →
    let v (k : Nat) := field f.payload k
    let u := takeFrame s l
    let refused : Out := .next (answerTo u l f (.refused .structureError) [])
    (5 < v 0 → exec (.loadGrade l) s = refused ∧ exec (.loadPocket l) s = refused ∧
      exec (.loadTransport l) s = refused) ∧
    (v 0 = 3 → s.tables.grades[v 1]? = none → exec (.loadGrade l) s = refused) ∧
    (v 0 = 4 → s.tables.pockets[v 1]? = none ∨ 1 < v 4 → exec (.loadPocket l) s = refused) ∧
    (v 0 = 5 → 1 < v 6 → exec (.loadTransport l) s = refused) ∧
    (∀ e, v 0 = 3 → s.tables.grades[v 1]? = some e →
      exec (.loadGrade l) s = .next (answerTo
        { u with tables := { s.tables with
            grades := s.tables.grades.set (v 1) { e with pending := some (min 30 (max 6 (v 2))) } } } l f
        (if 6 ≤ v 2 ∧ v 2 ≤ 30 then .done else .clamped) [])) ∧
    (∀ e, v 0 = 4 → s.tables.pockets[v 1]? = some e → v 4 ≤ 1 →
      let cap := v 2 + 128 * v 3
      exec (.loadPocket l) s = .next (answerTo
        { u with tables := { s.tables with
            pockets := s.tables.pockets.set (v 1)
              { e with pending := some { capacity := min 6000 (max 200 cap), enabled := v 4 == 1 } } } } l f
        (if 200 ≤ cap ∧ cap ≤ 6000 then .done else .clamped) [])) ∧
    (v 0 = 5 → v 6 ≤ 1 →
      let speed := v 1 + 128 * v 2
      let window := v 3 + 128 * v 4
      let body : Transport :=
        { speed := min 800 (max 200 speed) / 10 * 10
          feedWindow := min 3000 (max 200 window)
          stall := min 30 (max 1 (v 5))
          noticeLink := if v 6 = 0 then .a else .b }
      exec (.loadTransport l) s = .next (answerTo
        { u with tables := { s.tables with transport := { s.tables.transport with pending := some body } } } l f
        (if 200 ≤ speed ∧ speed ≤ 800 ∧ speed % 10 = 0 ∧ 200 ≤ window ∧ window ≤ 3000 ∧ 1 ≤ v 5 ∧ v 5 ≤ 30
         then .done else .clamped) []))

/-- R141, R142: COMMIT: RANGE, NOT-STANDBY, and otherwise it is ACCEPTED, every entry of the scope with a pending part is
marked and every marked entry with reference count 0 applies; in a part that is still, nothing but the links, the tables, the
pocket records and the sensed drawers changes. The record of each pocket whose entry applies reacts (R122), in ascending pocket
number (notes/assumptions/38.md); then a BLOCKED tower retries, a carry to a pocket that is no longer AVAILABLE re-targets,
and a session whose target is DISABLED ends; then COMMIT-DONE is sent, with the number of entries applied, when no entry is
marked (R144; also when nothing was marked, notes/assumptions/9.md). Every notice after the
application goes on the notice link that it leaves in force (R145; of those before COMMIT-DONE the model's choice,
notes/assumptions/44.md). Then the part looks again (`settle`, notes/assumptions/16.md). At a release the marked entries with reference count 0 apply in the same way. -/
def Obligations.CommitMarksAndApplies : Prop :=
  (∀ s : State,
    let goes {α : Type} (e : Entry α) : Bool := e.marked && e.refs == 0
    let n := s.tables.classes.countP goes + s.tables.plans.countP goes + s.tables.grades.countP goes +
      s.tables.pockets.countP goes + (if goes s.tables.transport then 1 else 0)
    let applied : State := { s with tables :=
      { classes := s.tables.classes.map (Entry.committed false), plans := s.tables.plans.map (Entry.committed false)
        grades := s.tables.grades.map (Entry.committed false), pockets := s.tables.pockets.map (Entry.committed false)
        transport := s.tables.transport.committed false } }
    (n = 0 → applyReleased s = s) ∧
    (1 ≤ n → (applied.tables.anyMarked = true → applyReleased s = applied) ∧
      (applied.tables.anyMarked = false → applyReleased s = notifyPlain applied (.commitDone n)))) ∧
  (∀ t : Tables, t.anyMarked = true ↔ (∃ e ∈ t.classes, e.marked = true) ∨ (∃ e ∈ t.plans, e.marked = true) ∨
    (∃ e ∈ t.grades, e.marked = true) ∨ (∃ e ∈ t.pockets, e.marked = true) ∨ t.transport.marked = true) ∧
  ∀ (s : State) (l : Link) (f : Frame) (pins : PocketPins), s.requests l f 0x05 →
    let scope := field f.payload 0
    let covers (group : Nat) : Bool := scope == group || scope == 5
    let u : State := { takeFrame s l with pins := { s.pins with pockets := pins } }
    (5 < scope → exec (.commit l pins) s = .next (answerTo u l f (.refused .range) [])) ∧
    (covers 4 = true → s.tables.transport.pending.isSome = true → s.run ≠ .standby → scope ≤ 5 →
      exec (.commit l pins) s = .next (answerTo u l f (.refused .notStandby) [])) ∧
    (scope ≤ 5 → (covers 4 = false ∨ s.tables.transport.pending = none ∨ s.run = .standby) →
      let goes {α : Type} (group : Nat) (e : Entry α) : Bool :=
        (e.marked || (covers group && e.pending.isSome)) && e.refs == 0
      let n := s.tables.classes.countP (goes 0) + s.tables.plans.countP (goes 1) + s.tables.grades.countP (goes 2) +
        s.tables.pockets.countP (goes 3) + (if goes 4 s.tables.transport then 1 else 0)
      let ps := (List.range s.tables.pockets.length).filter (fun p => (s.tables.pockets[p]?).any (goes 3))
      let a := answerTo u l f .accepted []
      let w : State := ps.foldl (fun x p => match s.tables.pockets[p]? with
          | some e => reactPocket x p e.active
          | none => x)
        { a with tables :=
          { classes := s.tables.classes.map (Entry.committed (covers 0))
            plans := s.tables.plans.map (Entry.committed (covers 1))
            grades := s.tables.grades.map (Entry.committed (covers 2))
            pockets := s.tables.pockets.map (Entry.committed (covers 3))
            transport := s.tables.transport.committed (covers 4) } }
      let aimed (x : State) : State := match x.tower.target with
        | some o => (match o.dest with
          | .pocket p => if p ∈ ps ∧ (pocketOf x p).state ≠ .available then retarget x p else x
          | .stacker => x)
        | none => x
      let ended (x : State) : State := match x.session with
        | some z => if z.target ∈ ps ∧ (pocketOf x z.target).state = .disabled ∧ z.towerTaken = true
          then endSession x z .targetDisabled else x
        | none => x
      let told : State := if ps = [] then w else ended (aimed (retry w))
      exec (.commit l pins) s = .next (settle
        (if told.tables.anyMarked = true then told else notifyPlain told (.commitDone n)))) ∧
    (scope ≤ 5 → (covers 4 = false ∨ s.tables.transport.pending = none ∨ s.run = .standby) → s.still →
      ∃ t, exec (.commit l pins) s = .next t ∧
        t = { u with links := t.links, tables := t.tables, pockets := t.pockets } ∧
        t.tables = { classes := s.tables.classes.map (Entry.committed (covers 0))
                     plans := s.tables.plans.map (Entry.committed (covers 1))
                     grades := s.tables.grades.map (Entry.committed (covers 2))
                     pockets := s.tables.pockets.map (Entry.committed (covers 3))
                     transport := s.tables.transport.committed (covers 4) })

/-- R122, R118: the reaction of a pocket's record to the application of its configuration entry. POCKET-FULL is sent when an
AVAILABLE pocket becomes FULL, and for nothing else: the remembered state of a WITHDRAWN pocket changes without a notice.
That the record of a
pocket at or above the tower size reacts too is the model's reading (notes/assumptions/17.md), and so is that an application
that leaves the capacity as it was makes no capacity test (notes/assumptions/22.md). -/
def Obligations.PocketReactsToItsConfiguration : Prop :=
  ∀ (s : State) (p : Nat) (old now : PocketConfig) (k : Pocket), s.pockets[p]? = some k →
    (s.tables.pockets[p]?).map (·.active) = some now →
    ∃ k', (reactPocket s p old).pockets[p]? = some k' ∧
      (old.enabled = true → now.enabled = false → k'.state = .disabled ∧ k'.remembered = none) ∧
      (now.capacity ≠ old.capacity → k'.fill ≤ now.capacity) ∧
      (old.enabled = now.enabled → now.capacity ≠ old.capacity →
        k'.fill = min k.fill now.capacity ∧ k'.setCount = k.setCount ∧ k'.side = k.side ∧
        (k.state = .available → k'.state = if now.capacity ≤ k.fill then .full else .available) ∧
        (k.state = .full → k'.state = if k.fill < now.capacity then .available else .full) ∧
        (k.state = .unverified → k'.state = .unverified) ∧ (k.state = .disabled → k'.state = .disabled) ∧
        (k.state = .withdrawn → k'.state = .withdrawn ∧
          (k.remembered = some .available →
            k'.remembered = some (if now.capacity ≤ k.fill then .full else .available)) ∧
          (k.remembered = some .full →
            k'.remembered = some (if k.fill < now.capacity then .available else .full)) ∧
          (k.remembered ≠ some .available → k.remembered ≠ some .full → k'.remembered = k.remembered))) ∧
      (let set : State := { s with pockets := s.pockets.set p k' }
       (old.enabled = now.enabled →
         (k.state = .available → now.capacity ≠ old.capacity → now.capacity ≤ k.fill →
           reactPocket s p old = notifyPlain set (.pocketFull p k'.fill now.capacity none)) ∧
         (k.state ≠ .available ∨ now.capacity = old.capacity ∨ k.fill < now.capacity → reactPocket s p old = set)) ∧
       (old.enabled = true → now.enabled = false → reactPocket s p old = set) ∧
       (old.enabled = false → now.enabled = true → k.state = .disabled → 1 ≤ now.capacity → reactPocket s p old = set)) ∧
      (old.enabled = false → now.enabled = true → k.state = .disabled → now.capacity = old.capacity →
        (s.pins.pockets.drawersIn.getLsbD p = false → k'.state = .withdrawn ∧ k'.remembered = some .unverified ∧
          k'.fill = k.fill) ∧
        (s.pins.pockets.drawersIn.getLsbD p = true → s.pins.pockets.floorsEmpty.getLsbD p = true →
          k'.state = .available ∧ k'.fill = 0 ∧ k'.setCount = 0 ∧ k'.side = .right) ∧
        (s.pins.pockets.drawersIn.getLsbD p = true → s.pins.pockets.floorsEmpty.getLsbD p = false →
          k'.state = .unverified ∧ k'.fill = k.fill ∧ k'.setCount = k.setCount ∧ k'.side = k.side)) ∧
      (old = now → k' = k) ∧
      ∀ m, m ≠ p → (reactPocket s p old).pockets[m]? = s.pockets[m]?

/-- R126, R128: INSERT: the first check that fails decides the refusal, and one that passes every check creates a WAITING
session with the provisional target, which takes an IDLE tower at once (that the part looks again after the event, `settle`,
is the model's reading, notes/assumptions/16.md). R127: the target is the seat's pocket, which is the class's base plus the
seat's offset (R2), when it is in the tower, AVAILABLE and takes one sheet of the grade within its capacity; otherwise the
job's exception pocket on the same terms; otherwise there is none. -/
def Obligations.InsertIsJudgedInOrder : Prop :=
  (∀ (s : State) (j : Job) (seat grade : Nat),
    let own := (classOf s j.cls).pocketBase + ((classOf s j.cls).seatEntry seat).offset
    let takes (p : Nat) : Prop :=
      p < towerSize s ∧ (pocketOf s p).state = .available ∧ (pocketOf s p).fill + thickness s grade ≤ capacityOf s p
    (takes own → insertTarget s j seat grade = some (own, .seat)) ∧
    (¬takes own → takes j.exceptionPocket → insertTarget s j seat grade = some (j.exceptionPocket, .exception)) ∧
    (¬takes own → ¬takes j.exceptionPocket → insertTarget s j seat grade = none)) ∧
  ∀ (s : State) (l : Link) (f : Frame), s.requests l f 0x0B →
    let job := field f.payload 0
    let seat := field f.payload 1
    let grade := field f.payload 2
    let expected := field f.payload 3
    let u := takeFrame s l
    exec (.insert l) s = .next (
      if s.run = .warming ∨ s.run = .faulted then answerTo u l f (.refused .badState) []
      else if s.session.isSome = true then answerTo u l f (.refused .busy) []
      else if ¬(1 ≤ job ∧ job ≤ 63 ∧ 1 ≤ seat ∧ seat ≤ 40 ∧ grade ≤ 7 ∧ 1 ≤ expected ∧ expected ≤ 20) then
        answerTo u l f (.refused .range) []
      else match findJob s job with
        | none => answerTo u l f (.refused .unknownJob) []
        | some j =>
          if j.seats.length < seat ∨ (classOf s j.cls).seatCount < seat then answerTo u l f (.refused .range) []
          else match insertTarget s j seat grade with
            | none => answerTo u l f (.refused .noPocket) []
            | some t =>
              let z : Session :=
                { phase := .waiting, job := job, seat := seat, grade := grade, expected := expected
                  replyTag := j.replyTag, target := t.1, place := t.2, towerTaken := false, inserted := 0
                  timer := none }
              settle (answerTo { u with session := some z } l f .accepted []))

/-- R162, R163: RUN and STANDBY by run state; the at-speed event, while WARMING, discards the warm-up timer and leaves the
part RUNNING, and the arbiter serves; it is ignored in any other state. The warm-up timer's expiry raises a WARMUP fault.
What else the part looks at after the at-speed event (`settle`) is the model's reading (notes/assumptions/16.md). -/
def Obligations.RunStateCommands : Prop :=
  ∀ (s : State) (l : Link) (f : Frame),
    let u := takeFrame s l
    (s.run = .warming →
      (∃ t, exec .atSpeed s = .next t ∧ s.SameBesides t ∧ t.run = .running ∧ t.timers.warmup = none ∧
        t = settle (notifyPlain { s with run := .running, timers := { s.timers with warmup := none } }
          (.stateChange .warming .running))) ∧
      (s.timers.warmup ≠ none → exec .warmupTimerExpiry s = .next (raiseFault s
        { cause := .warmup, sensor := none, link := none, tag := none }))) ∧
    (s.run ≠ .warming → exec .atSpeed s = .next s) ∧
    (s.requests l f 0x06 →
      (s.run = .standby → exec (.run l) s = .next (notifyPlain
        { answerTo { u with timers := { s.timers with warmup := some 30000 } } l f .accepted [] with run := .warming }
        (.stateChange .standby .warming))) ∧
      (s.run ≠ .standby → exec (.run l) s = .next (answerTo u l f (.refused .badState) []))) ∧
    (s.requests l f 0x07 →
      (s.run = .standby → exec (.standby l) s = .next (answerTo u l f .done [])) ∧
      (s.run = .warming → exec (.standby l) s = .next (notifyPlain
        { answerTo { u with timers := { s.timers with warmup := none } } l f .done [] with run := .standby }
        (.stateChange .warming .standby))) ∧
      (s.run = .halting → exec (.standby l) s = .next (answerTo u l f .accepted [])) ∧
      (s.run = .faulted → exec (.standby l) s = .next (answerTo u l f (.refused .badState) [])) ∧
      (s.run = .running →
        let done := s.tray.phase = .empty ∧ s.path.entries = [] ∧ (s.tower.phase = .idle ∨ s.tower.phase = .held) ∧
          s.grant = none
        (¬done → exec (.standby l) s = .next (notifyPlain
          { answerTo u l f .accepted [] with run := .halting } (.stateChange .running .halting))) ∧
        (done → exec (.standby l) s = .next (notifyPlain
          { notifyPlain { answerTo u l f .done [] with run := .halting } (.stateChange .running .halting) with
            run := .standby } (.stateChange .halting .standby)))))

/-- R167, R68, R69, R90, R105, R124: a CLEAR that is refused changes nothing but the links and the sensed lines; and what
an accepted CLEAR leaves. The jobs, the tables and the links change by the losses (R168), which are tied to the sets the part
held: the tray's, the one whose final segment the elevator holds, and, with the shelf sensor empty, the shelf's are lost
whole; an earlier segment whose set the shelf keeps is lost alone. Each loss of an OPEN job's raises its lost count and puts
the seat on its reprint list, and a seat that no kept set has is LOST. A kept shelf
record is as it was, but that it gains INCOMPLETE when its earlier segment is lost alone (R14, R69). The whole of an accepted
CLEAR: the answer DONE, then each loss in R167's order with its SET-LOST, then the JOB-CLOSED of the jobs that go (R20), the
marked entries that the releases apply with their COMMIT-DONE (R136, R144), and the STATE-CHANGE. Which flags and
jam mark a SET-LOST carries is the model's reading (notes/assumptions/24.md), and the stapler's owner takes the model's own mark
(notes/assumptions/32.md). -/
def Obligations.ClearIsJudgedAndEmptiesThePart : Prop :=
  (∀ (s : State) (l : Link) (f : Frame) (pins : Pins), s.requests l f 0x08 →
    s.run ≠ .faulted ∨ pins.saCovered = true ∨ (s.straps.linkBPresent = true ∧ pins.sbCovered = true) ∨
      pins.stCovered = true ∨ pins.spCovered = true ∨ pins.trayOccupied = true ∨ pins.elevatorHome = false →
    exec (.clear l pins) s = .next (answerTo { takeFrame s l with pins := pins } l f (.refused .badState) [])) ∧
  (∀ s : State, loseShelf [] s = { s with shelf := { motion := .idle, stack := [] } } ∧
    ∀ r rs, loseShelf (r :: rs) s = loseShelf rs (loseSet { s with shelf := { motion := .idle, stack := rs } }
      r.job r.seat r.plan r.cls r.replyTag r.segment r.totalSheets r.flags false)) ∧
  ∀ (s : State) (l : Link) (f : Frame) (pins : Pins), s.requests l f 0x08 → s.run = .faulted →
    pins.saCovered = false → (s.straps.linkBPresent = false ∨ pins.sbCovered = false) → pins.stCovered = false →
    pins.spCovered = false → pins.trayOccupied = false → pins.elevatorHome = true →
    let shelved := s.shelf.stack.map (fun r => (r.job, r.seat))
    let kept : List (Nat × Nat) := if pins.shelfOccupied = true then shelved else []
    let whole : List (Nat × Nat) :=
      (s.tray.held.toList.map (fun r => (r.job, r.seat))) ++
      ((s.tower.carried.toList.filter (·.final)).map (fun g => (g.job, g.seat))) ++
      (if pins.shelfOccupied = true then [] else shelved)
    let alone : List (Nat × Nat) :=
      (s.tower.carried.toList.filter (fun g => !g.final && kept.contains (g.job, g.seat))).map (fun g => (g.job, g.seat))
    ∃ t, exec (.clear l pins) s = .next t ∧
      (let emptied : State := { answerTo { takeFrame s l with pins := pins } l f .done [] with
         path := { s.path with entries := [], gate := .purgeSide }
         tray := Tray.empty
         stapler := { s.stapler with owner := s.stapler.owner.map (fun o => { o with lost := true }) } }
       let ofTray : State := match s.tray.held with
         | none => emptied
         | some r => loseSet emptied r.job r.seat r.plan r.cls r.replyTag r.segment r.totalSheets r.flags
             ((s.tray.close.map (·.jamMark)).getD false)
       let idle : State := { ofTray with tower := Tower.idle }
       let ofTower : State := match s.tower.carried with
         | none => idle
         | some g => if g.final = true
           then loseSet idle g.job g.seat g.plan g.cls g.replyTag g.segment g.totalSheets g.flags g.jamMark else idle
       let ofShelf : State := if pins.shelfOccupied = true then { ofTower with shelf := { s.shelf with motion := .idle } }
         else loseShelf s.shelf.stack ofTower
       let lost : State := match s.tower.carried with
         | none => ofShelf
         | some g => if g.final = false ∧ kept.contains (g.job, g.seat) = true then notify
             { ofShelf with
               shelf := t.shelf
               jobs := ofShelf.jobs.map (fun j => if j.number = g.job then { j with
                 lost := min 65535 (j.lost + 1)
                 reprint := if g.seat ∈ j.reprint ∨ g.seat = 0 ∨ j.seats.length < g.seat then j.reprint
                   else j.reprint ++ [g.seat] } else j) }
             g.replyTag g.job (.setLost g.seat g.segment false g.totalSheets g.flags g.jamMark)
           else ofShelf
       t = notifyPlain { applyReleased (removeClosed lost) with
         run := .standby, fault := { first := none, further := 0 } } (.stateChange .faulted .standby)) ∧
      t.run = .standby ∧ t.fault = { first := none, further := 0 } ∧
      t.path = { s.path with entries := [], gate := .purgeSide } ∧
      t.tray = Tray.empty ∧ t.tower = Tower.idle ∧ t.shelf.motion = .idle ∧
      (pins.shelfOccupied = false → t.shelf.stack = []) ∧
      (pins.shelfOccupied = true → t.shelf.stack.map (fun r => (r.job, r.seat, r.totalSheets)) =
        s.shelf.stack.map (fun r => (r.job, r.seat, r.totalSheets))) ∧
      (pins.shelfOccupied = true → alone = [] → t.shelf.stack = s.shelf.stack) ∧
      (∀ g before r after, pins.shelfOccupied = true → s.tower.carried = some g → g.final = false →
        s.shelf.stack = before ++ r :: after → (r.job, r.seat) = (g.job, g.seat) →
        (∀ x ∈ before, (x.job, x.seat) ≠ (g.job, g.seat)) →
        t.shelf.stack = before ++ { r with flags := { r.flags with incomplete := true } } :: after) ∧
      t.feeds = s.feeds ∧ t.grant = s.grant ∧ t.timers = s.timers ∧ t.session = s.session ∧
      t.stapler = { s.stapler with owner := t.stapler.owner } ∧ t.pockets = s.pockets ∧ t.stacker = s.stacker ∧
      t.pins = pins ∧ t.straps = s.straps ∧ t.retentionValid = s.retentionValid ∧ t.pending = s.pending ∧
      ∀ j ∈ s.jobs, j.phase = .opened → (s.jobs.map (·.number)).Nodup → j.lost ≤ 65535 →
        ∃ j', findJob t j.number = some j' ∧
          j'.lost = min 65535 (j.lost + ((whole ++ alone).filter (fun x => x.1 == j.number)).length) ∧
          j'.delivered = j.delivered ∧ j'.diverted = j.diverted ∧ j'.exceptions = j.exceptions ∧
          j'.seats.length = j.seats.length ∧
          (∀ seat, 1 ≤ seat → seat ≤ j.seats.length →
            ((j.number, seat) ∈ whole → (j.number, seat) ∉ kept → j'.seats[seat - 1]? = some .lost) ∧
            ((j.number, seat) ∉ whole ∨ (j.number, seat) ∈ kept → j'.seats[seat - 1]? = j.seats[seat - 1]?) ∧
            (seat ∈ j'.reprint ↔ seat ∈ j.reprint ∨ (j.number, seat) ∈ whole ++ alone))

/-- R14, R168, R136: a set lost at CLEAR: its lost count, its seat, the reprint list, one reference less on its plan and on
its class entry, and SET-LOST. -/
def Obligations.LostSetsAreAccounted : Prop :=
  ∀ (s : State) (j : Job) (seat plan cls tag segment total : Nat) (flags : SetFlags) (jam : Bool),
    (s.jobs.map (·.number)).Nodup → j ∈ s.jobs → 1 ≤ seat → seat ≤ j.seats.length →
    ∃ t j', loseSet s j.number seat plan cls tag segment total flags jam =
        notify t tag j.number (.setLost seat segment true total flags jam) ∧
      t = { s with jobs := t.jobs, tables := t.tables } ∧ findJob t j.number = some j' ∧
      (∀ n, n ≠ j.number → findJob t n = findJob s n) ∧
      j' = { j with
        lost := min 65535 (j.lost + 1)
        reprint := if seat ∈ j.reprint then j.reprint else j.reprint ++ [seat]
        seats := if seatLive s j.number seat = true then j.seats else j.seats.set (seat - 1) .lost } ∧
      t.tables = { s.tables with plans := t.tables.plans, classes := t.tables.classes } ∧
      (∀ i, t.tables.plans[i]? =
        (s.tables.plans[i]?).map (fun e => if i = plan then { e with refs := e.refs - 1 } else e)) ∧
      ∀ i, t.tables.classes[i]? =
        (s.tables.classes[i]?).map (fun e => if i = cls then { e with refs := e.refs - 1 } else e)

/-- R170: RETLOW clears the retention-valid flag and sends RETENTION-LOST, whether or not the flag was set, and
MARK-RETAINED sets it and is answered DONE, both in every run state; no other command changes it, a power-on or a reset by
the reset line no more than the rest, so a power-on with the flag clear leaves it clear; and ASK STATUS returns it. -/
def Obligations.RetentionFlagIsClearedAndSet : Prop :=
  ∀ s : State,
    (∀ (c : Instr) (t : State), c ≠ .retLow → (∀ l, c ≠ .markRetained l) → exec c s = .next t →
      t.retentionValid = s.retentionValid) ∧
    exec .retLow s = .next (notifyPlain { s with retentionValid := false } .retentionLost) ∧
    (∀ (l : Link) (f : Frame), s.requests l f 0x09 →
      exec (.markRetained l) s = .next (answerTo { takeFrame s l with retentionValid := true } l f .done [])) ∧
    (∀ pins : Pins, s.retentionValid = false → ∃ t, exec (.powerOn pins) s = .next t ∧ t.retentionValid = false) ∧
    ∀ (l : Link) (f : Frame), s.requests l f 0x0C → field f.payload 0 = 0 →
      ∃ before after : List Data, ∀ b,
        exec (.askStatus l) { s with retentionValid := b } = .next (answerTo
          { takeFrame s l with retentionValid := b } l f .done (before ++ [if b = true then 1 else 0] ++ after))

/-- R158 to R161: each ASK is answered DONE with its subject's contents, RANGE for a parameter outside its range and
UNKNOWN-JOB for a job not in the list. The contents of each answer item by item: their order, the characters of a number,
the floor reading, the stall timer, the target that stands in the carried segment's item and the flags character of a set record
are judged in notes/assumptions/20.md, and the first cause without its details in notes/assumptions/21.md. ASK QUEUE gives the
most descriptors, up to 8, that keep the payload, with its kind and result, within 120 characters (R148; the model's choice,
notes/assumptions/37.md). A subject code that names nothing is refused RANGE, by any of the ASK commands
(notes/assumptions/6.md). -/
def Obligations.AsksAreAnswered : Prop :=
  (∀ (s : State) (l : Link) (f : Frame), s.requests l f 0x0C →
    let u := takeFrame s l
    let v (k : Nat) := field f.payload k
    let done (body : List Data) : Out := .next (answerTo u l f .done body)
    let refused (r : Reason) : Out := .next (answerTo u l f (.refused r) [])
    (v 0 = 0 → exec (.askStatus l) s = done (statusBody u)) ∧
    (v 0 = 1 → (∀ j, 1 ≤ v 1 → v 1 ≤ 63 → findJob s (v 1) = some j → exec (.askJob l) s = done (jobBody j)) ∧
      (1 ≤ v 1 → v 1 ≤ 63 → findJob s (v 1) = none → exec (.askJob l) s = refused .unknownJob) ∧
      (v 1 = 0 ∨ 63 < v 1 → exec (.askJob l) s = refused .range)) ∧
    (v 0 = 2 → exec (.askPocket l) s = if v 1 ≤ 39 then done (pocketBody s (v 1)) else refused .range) ∧
    (v 0 = 3 → (∀ m, v 1 = Link.code m → v 2 ≤ 11 → exec (.askQueue l) s = done (queueBody s m (v 2))) ∧
      (1 < v 1 ∨ 11 < v 2 → exec (.askQueue l) s = refused .range)) ∧
    (v 0 = 4 → (∀ m, v 1 = Link.code m → exec (.askCapture l) s = done (captureBody s m)) ∧
      (1 < v 1 → exec (.askCapture l) s = refused .range)) ∧
    (v 0 = 5 → (∀ body, entryBody s (v 1) (v 2) (v 3) = some body → exec (.askEntry l) s = done body) ∧
      (entryBody s (v 1) (v 2) (v 3) = none → exec (.askEntry l) s = refused .range)) ∧
    (v 0 = 6 → exec (.askSet l) s = done (setBody s)) ∧
    (6 < v 0 → exec (.askStatus l) s = refused .range)) ∧
  -- the codes of the enumerated items
  [TrayPhase.empty, .compiling, .stapling, .ready, .ejecting, .parking, .unparking].map TrayPhase.code =
    [0, 1, 2, 3, 4, 5, 6] ∧
  [TowerPhase.idle, .receiving, .carrying, .blocked, .held].map TowerPhase.code = [0, 1, 2, 3, 4] ∧
  [StaplerPhase.ready, .firing, .recovering, .jammed].map StaplerPhase.code = [0, 1, 2, 3] ∧
  (∀ (b : Bool) (taken : List Data),
    [Receiver.hunt, .idle, .receiving b taken, .skipping].map Receiver.code = [0, 1, 2, 3]) ∧
  [JobPhase.opened, .closing].map JobPhase.code = [0, 1] ∧
  [SeatStatus.pending, .inProgress, .delivered, .diverted, .exception, .withheld, .lost, .late].map SeatStatus.code =
    [0, 1, 2, 3, 4, 5, 6, 7] ∧
  (∀ r : Route, [Standing.queued, .waiting, .granted r].map Standing.code = [0, 1, 2]) ∧
  [StapleMode.none, .corner, .edge].map StapleMode.code = [0, 1, 2] ∧
  [Assembly.assembling, .closePending].map Assembly.code = [0, 1] ∧
  [Origin.linkA, .linkB, .shelf].map Origin.code = [0, 1, 2] ∧ [Motion.idle, .lifting, .lowering].map Motion.code = [0, 1, 2] ∧
  -- the contents
  let grant (g : Grant) : List Data :=
    enc1 (Link.code g.link) ++ enc1 g.tag ++ enc1 (if g.purpose = .tray then 0 else 1)
  let desc (d : Desc) : List Data :=
    enc1 d.tag ++ enc1 d.job ++ enc1 d.seat ++ enc1 d.part ++ enc1 d.index ++ encBool d.last ++ enc1 d.grade ++
      enc1 d.size ++ encOpt enc1 d.note
  let reason (r : FaultyReason) : List Data := enc1 r.code
  (∀ s : State, (s.jobs.map (·.number)).Nodup → (∀ j ∈ s.jobs, j.number ≤ 63) →
    let port (k : LinkPort) : List Data :=
      enc1 k.rx.code ++ enc3 k.framingErrors ++ enc3 k.checkErrors ++ enc3 k.overruns ++ enc2 k.dropped
    let target : List Data := match s.tower.target with
      | some o => if s.tower.phase = .carrying then enc1 1 ++ enc1 o.dest.code ++ enc1 o.place.code else enc1 0
      | none => enc1 0
    let carried : List Data := match s.tower.carried with
      | some g => if s.tower.phase = .carrying ∨ s.tower.phase = .blocked
        then enc1 1 ++ enc1 g.job ++ enc1 g.seat ++ enc1 g.segment ++ target else enc1 0
      | none => enc1 0
    ∃ js : List Job, js.Perm s.jobs ∧ (js.map (·.number)).Pairwise (· < ·) ∧ statusBody s =
      enc1 s.run.code ++ enc1 s.tray.phase.code ++ enc1 s.shelf.stack.length ++ enc1 s.tower.phase.code ++ carried ++
      enc1 s.stapler.phase.code ++ enc2 s.stapler.cartridge ++ enc3 s.stacker.fill ++ enc3 s.path.purgeCount ++
      port s.links.a ++ port s.links.b ++ encBool s.retentionValid ++
      encOpt (fun d : FaultDetail => enc1 d.cause.code) s.fault.first ++ enc2 s.fault.further ++ encOpt grant s.grant ++
      encList (fun j : Job => enc1 j.number ++ enc1 j.phase.code) js) ∧
  (∀ j : Job, jobBody j =
    enc1 j.number ++ enc1 j.phase.code ++ enc1 j.plan ++ enc1 j.cls ++ enc1 j.priority ++ enc1 j.exceptionPocket ++
    encOpt enc1 j.overflowPocket ++ enc1 j.replyTag ++ enc3 j.delivered ++ enc3 j.diverted ++ enc3 j.exceptions ++
    enc3 j.lost ++ encList (fun st : SeatStatus => enc1 st.code) j.seats ++ encList enc1 j.reprint) ∧
  (∀ (s : State) (p : Nat) (k : Pocket) (e : Entry PocketConfig), s.pockets[p]? = some k → s.tables.pockets[p]? = some e →
    pocketBody s p =
      enc1 k.state.code ++ encOpt (fun st : PocketState => enc1 st.code) k.remembered ++ enc2 k.fill ++ enc2 k.setCount ++
      enc1 k.side.code ++ enc2 e.active.capacity ++ encBool e.active.enabled ++ enc1 (if k.floorEmpty = true then 0 else 1)) ∧
  (∀ (s : State) (l : Link) (first : Nat),
    let entry (e : QueueEntry) : List Data :=
      desc e.desc ++ enc1 e.standing.code ++
      (match e.standing with | .granted r => enc1 1 ++ enc1 r.code | .queued | .waiting => enc1 0) ++
      encBool e.checked ++ encOpt reason e.faulty
    let body (k : Nat) : List Data := enc1 (s.feeds.get l).entries.length ++
      encList entry (((s.feeds.get l).entries.drop first).take k)
    ∃ k, k ≤ 8 ∧ queueBody s l first = body k ∧ (body k).length ≤ 118 ∧
      ∀ m, m ≤ 8 → (body m).length ≤ 118 → (body m).length ≤ (body k).length) ∧
  (∀ (s : State) (l : Link),
    ((s.feeds.get l).capture.held = none → captureBody s l = enc3 (s.feeds.get l).capture.count ++ enc1 0 ++ enc1 0) ∧
    ∀ d r, (s.feeds.get l).capture.held = some (d, r) → captureBody s l =
      enc3 (s.feeds.get l).capture.count ++ enc1 1 ++ reason r ++ enc1 1 ++ desc d ++ enc1 1 ++ reason r) ∧
  (∀ (s : State) (i first : Nat),
    let cls (c : ClassBody) : List Data := enc1 c.seatCount ++ enc1 c.pocketBase ++
      encList (fun e : SeatEntry => enc1 e.offset ++ encBool e.withheld) ((c.seats.drop (first - 1)).take 20)
    let plan (b : PlanBody) : List Data :=
      encList (fun p : PlanPart => enc1 (Link.code p.source) ++ enc1 p.minCount ++ enc1 p.maxCount) b.parts ++
      enc1 b.stapleMode.code ++ encBool b.stapleRequired ++ encBool b.parkPermitted
    let pocket (c : PocketConfig) : List Data := enc2 c.capacity ++ encBool c.enabled
    let transport (x : Transport) : List Data :=
      enc2 x.speed ++ enc2 x.feedWindow ++ enc1 x.stall ++ enc1 (Link.code x.noticeLink)
    (∀ e, 1 ≤ first → first ≤ 40 → s.tables.classes[i]? = some e → entryBody s 0 i first = some
      (cls e.active ++ encOpt cls e.pending ++ encBool e.marked ++ enc1 e.refs)) ∧
    (∀ e, s.tables.plans[i]? = some e → entryBody s 1 i first = some
      (plan e.active ++ encOpt plan e.pending ++ encBool e.marked ++ enc1 e.refs)) ∧
    (∀ e, s.tables.grades[i]? = some e → entryBody s 2 i first = some
      (enc1 e.active ++ encOpt enc1 e.pending ++ encBool e.marked)) ∧
    (∀ e, s.tables.pockets[i]? = some e → entryBody s 3 i first = some
      (pocket e.active ++ encOpt pocket e.pending ++ encBool e.marked)) ∧
    (let e := s.tables.transport
     entryBody s 4 0 first = some (transport e.active ++ encOpt transport e.pending ++ encBool e.marked)) ∧
    (first = 0 ∨ 40 < first ∨ s.tables.classes[i]? = none → entryBody s 0 i first = none) ∧
    (s.tables.plans[i]? = none → entryBody s 1 i first = none) ∧
    (s.tables.grades[i]? = none → entryBody s 2 i first = none) ∧
    (s.tables.pockets[i]? = none → entryBody s 3 i first = none) ∧
    (1 ≤ i → entryBody s 4 i first = none) ∧ ∀ group, 5 ≤ group → entryBody s group i first = none) ∧
  ∀ s : State,
    let set (r : SetRec) : List Data :=
      enc1 r.job ++ enc1 r.seat ++ enc1 r.plan ++ enc1 r.cls ++ enc1 r.priority ++ enc1 r.replyTag ++ enc1 r.assembly.code ++
      enc1 r.part ++ encList (fun c : PartCount => enc1 c.taken ++ enc1 c.lastIndex) r.parts ++ enc1 r.segment ++
      enc1 r.traySheets ++ enc2 r.trayHeight ++ enc2 r.totalSheets ++ enc1 (r.flags.bits false) ++ encOpt enc1 r.note ++
      enc1 r.origin.code ++ encBool r.exceptionMark
    let shown (opened : Option SetRec) : Prop := ∃ stall, setBody s =
        encOpt set opened ++ encOpt grant s.grant ++ stall ++ enc1 s.shelf.motion.code ++ encList set s.shelf.stack ∧
      (s.timers.stall = none → stall = enc1 1) ∧
      ∀ n, s.timers.stall = some n → ∃ ms, stall = enc1 0 ++ enc3 ms ∧ n ≤ 10 * ms ∧ 10 * ms < n + 10
    ((∀ c, s.tray.close = some c → c.kind ≠ .final) → shown s.tray.held) ∧
    (∀ c, s.tray.close = some c → c.kind = .final → shown none)

/-! ## The sheet path (R71 to R90) -/

/-- R72: edges at SA and SB are ignored unless the run state is RUNNING or HALTING (at SB also when link B is absent), and
lead edges at ST and SP in STANDBY and FAULTED, and trail edges at ST and SP always: nothing but the line of the sensed edge
changes. -/
def Obligations.UntakenEdgesChangeNothing : Prop :=
  ∀ (s : State) (l : Link) (tick : Tick) (x : ExitSensor),
    let entry (covered : Bool) : State := { s with pins := match l with
      | .a => { s.pins with saCovered := covered }
      | .b => { s.pins with sbCovered := covered } }
    (active s = false ∨ linkPresent s l = false →
      exec (.leadCapture l tick) s = .next (entry true) ∧ exec (.trailCapture l tick) s = .next (entry false)) ∧
    (s.run = .standby ∨ s.run = .faulted →
      exec .stLeadEdge s = .next { s with pins := { s.pins with stCovered := true } } ∧
      exec .spLeadEdge s = .next { s with pins := { s.pins with spCovered := true } }) ∧
    exec (.stSpTrailEdge x) s = .next { s with pins := match x with
      | .st => { s.pins with stCovered := false }
      | .sp => { s.pins with spCovered := false } }

/-- R48, R74, R75, R78: a lead capture on the link of the outstanding grant: the grant ends, the window stops, and the head
goes from its queue into the path list, PRE-GATE, with its compare point. Where a stray is already PRE-GATE, it and every
other PRE-GATE entry are given the conflict mark (R50, the second order; the MERGE-CONFLICT that `joinPath` sends then is
said with the strays, and comes before a DESCRIPTOR-FAULT of the new head, the model's reading, notes/assumptions/8.md). No new
grant is made while it is PRE-GATE (R42). That a GRANT which still waits unsent in the lane stays there when the lead capture
ends its grant is the model's choice (notes/assumptions/40.md). What the part then looks at (`settle`) is the model's reading
(notes/assumptions/16.md). -/
def Obligations.GrantedSheetEntersThePath : Prop :=
  ∀ (s : State) (l : Link) (tick : Tick) (g : Grant) (e : QueueEntry) (rest : List QueueEntry),
    active s = true → linkPresent s l = true → s.path.entries.length < 4 → s.grant = some g → g.link = l →
    (s.feeds.get l).entries = e :: rest → 1 ≤ s.tables.transport.active.speed →
    let conflict : Bool := s.path.entries.any (fun x => x.state == .preGate)
    let entry (d : Nat) : PathEntry :=
      { desc := some e.desc, faulty := e.faulty, link := l, purpose := g.purpose, lead := tick
        compare := tick + BitVec.ofNat 16 d, trail := none, length := none, measured := none
        conflict := false, state := .preGate, deadline := none, overdue := false }
    ∃ t d v, exec (.leadCapture l tick) s = .next t ∧ t = settle (newHead (joinPath v (entry d)) l) ∧
      v.path = { s.path with timer := tick } ∧ v.tray = s.tray ∧ v.jobs = s.jobs ∧ v.links = s.links ∧
      t.grant = none ∧ t.timers.feedWindow = none ∧
      t.descs l = rest.map (·.desc) ∧ t.descs (otherLink l) = s.descs (otherLink l) ∧
      t.path = { s.path with timer := tick, entries := (s.path.entries ++ [entry d]).map (fun x =>
          if conflict && x.state == .preGate then { x with conflict := true } else x) } ∧
      4250000 ≤ d * s.tables.transport.active.speed ∧ (d - 1) * s.tables.transport.active.speed < 4250000

/-- R50, R74, R75: a lead capture on a link without the outstanding grant is a stray; where another entry is PRE-GATE,
every PRE-GATE entry is given the conflict mark; the outstanding grant is left as it is. A capture that makes a conflict, of
a stray or of a granted sheet, sends one MERGE-CONFLICT with the link and the lead tick of each entry concerned and the
descriptor and purpose of the one that has a descriptor. With 4 entries in the path list a lead capture makes no entry and
raises PATH-JAM, naming the sensor and the link (R165), and no tag, since no entry is made (DEDUCED,
notes/assumptions/23.md). What the part looks at after a capture (`settle`) is the model's reading
(notes/assumptions/16.md). -/
def Obligations.UngrantedSheetsAtTheEntry : Prop :=
  (∀ (s : State) (l : Link) (tick : Tick),
    active s = true → linkPresent s l = true →
    let stray : PathEntry :=
      { desc := none, faulty := none, link := l, purpose := .stray, lead := tick
        compare := tick + BitVec.ofNat 16 (compareTicks s.tables.transport.active.speed)
        trail := none, length := none, measured := none, conflict := false, state := .preGate
        deadline := none, overdue := false }
    let conflict : Bool := s.path.entries.any (fun x => x.state == .preGate)
    (s.path.entries.length < 4 → (∀ g, s.grant = some g → g.link ≠ l) →
      ∃ t v, exec (.leadCapture l tick) s = .next t ∧ t = settle (joinPath v stray) ∧
      v.path = { s.path with timer := tick } ∧ v.tray = s.tray ∧ v.jobs = s.jobs ∧ v.links = s.links ∧
      t.grant = s.grant ∧
      t.descs l = s.descs l ∧ t.descs (otherLink l) = s.descs (otherLink l) ∧
      t.path = { s.path with
        timer := tick
        entries := (s.path.entries ++ [stray]).map (fun x =>
          if conflict && x.state == .preGate then { x with conflict := true } else x) }) ∧
    (4 ≤ s.path.entries.length →
      ∃ t, exec (.leadCapture l tick) s = .next t ∧ t.run = .faulted ∧
      t.fault.first = some
        { cause := .pathJam, sensor := some (match l with | .a => .sa | .b => .sb), link := some l, tag := none } ∧
      t.fault.further = s.fault.further ∧
      t.path = { s.path with timer := tick } ∧ t.grant = none ∧ t.session = none ∧
      t.descs l = s.descs l ∧ t.descs (otherLink l) = s.descs (otherLink l))) ∧
  ∀ (s : State) (e : PathEntry), e.state = .preGate → (∃ x ∈ s.path.entries, x.state = .preGate) →
    let marked := (s.path.entries ++ [e]).map (fun x => if x.state == .preGate then { x with conflict := true } else x)
    let concerned := (s.path.entries ++ [e]).filter (fun x => x.state == .preGate)
    let pairs := concerned.map (fun x => (x.link, x.lead))
    let w : State := { s with path := { s.path with entries := marked } }
    ((∀ x ∈ concerned, x.desc = none) → joinPath s e = notify w 0 0 (.mergeConflict pairs none)) ∧
    ∀ before x after d, concerned = before ++ x :: after → (∀ y ∈ before, y.desc = none) → x.desc = some d →
      joinPath s e = notify w (((findJob s d.job).map (·.replyTag)).getD 0)
        (if 1 ≤ d.job ∧ d.job ≤ 63 then d.job else 0) (.mergeConflict pairs (some (d, x.purpose)))

/-- R76, R77: a trail capture goes to the oldest entry of its link without a trail tick; a PRE-GATE entry with a
descriptor is measured and judged; nothing else of the path list changes. A trail edge of a link without such an entry
changes no entry at all. The ticks up to the captured one pass on the
countdown timers and the session's timer (the model's choice, notes/assumptions/2.md), the sensor's line is sensed, and
nothing else changes. -/
def Obligations.TrailCaptureMeasuresTheSheet : Prop :=
  (∀ (s : State) (l : Link) (tick : Tick), active s = true → linkPresent s l = true →
    (∀ x ∈ s.path.entries, x.link ≠ l ∨ x.trail ≠ none) →
    let passed := (tick - s.path.timer).toNat
    exec (.trailCapture l tick) s = .next { s with
      path := { s.path with timer := tick }
      timers := s.timers.elapse passed
      session := s.session.map (fun z => { z with timer := z.timer.map (fun x => (x.1, x.2 - passed)) })
      pins := match l with
        | .a => { s.pins with saCovered := false }
        | .b => { s.pins with sbCovered := false } }) ∧
  ∀ (s : State) (l : Link) (tick : Tick) (before after : List PathEntry) (e : PathEntry),
    active s = true → linkPresent s l = true → s.path.entries = before ++ e :: after →
    (∀ x ∈ before, x.link ≠ l ∨ x.trail ≠ none) → e.link = l → e.trail = none →
    let expected (d : Desc) : Nat :=
      if d.size = 0 then 148 else if d.size = 1 then 210 else if d.size = 2 then 297 else 420
    let span := (tick - e.lead).toNat
    ∃ t e', exec (.trailCapture l tick) s = .next t ∧
      t.path = { s.path with timer := tick, entries := before ++ e' :: after } ∧
      (e.state ≠ .preGate ∨ e.desc = none → e' = { e with trail := some tick }) ∧
      (∀ d, e.state = .preGate → e.desc = some d →
        ∃ mm, 20000 * mm ≤ 2 * span * s.tables.transport.active.speed + 10000 ∧
          2 * span * s.tables.transport.active.speed + 10000 < 20000 * (mm + 1) ∧
          e' = { e with
            trail := some tick
            measured := some mm
            length := some (if mm + 4 < expected d then .shortSheet
                            else if expected d + 4 < mm then .longSheet else .good) }) ∧
      t.timers = s.timers.elapse (tick - s.path.timer).toNat ∧
      t.session = s.session.map (fun z =>
        { z with timer := z.timer.map (fun x => (x.1, x.2 - (tick - s.path.timer).toNat)) }) ∧
      t.pins = (match l with
        | .a => { s.pins with saCovered := false }
        | .b => { s.pins with sbCovered := false }) ∧
      { t with path := s.path, timers := s.timers, session := s.session, pins := s.pins } = s

/-- R79, R81, R82: the gate decision of the oldest PRE-GATE entry: TO-TRAY exactly for an unmarked, unconflicted TRAY
sheet of GOOD length; the gate is driven to the decided side, and the deadline is the compare point plus W, the
ceiling of distance × 10000 ÷ speed × 5 ÷ 4. A TRAY sheet decided TO-PURGE is reported to the sequencer (R41, R50): the open
set gains INCOMPLETE and the taken count of the sheet's part falls by 1; without a conflict mark SHEET-REJECTED is sent
(R80), before the notices of what the part then does (the model's choice, notes/assumptions/8.md). The ticks up to the
compare point pass on the timers (notes/assumptions/2.md), and the part then looks again
(`settle`, notes/assumptions/16.md). -/
def Obligations.GateDecisionSteersTheSheet : Prop :=
  ∀ (s : State) (before after : List PathEntry) (e : PathEntry),
    active s = true → s.path.entries = before ++ e :: after → (∀ x ∈ before, x.state ≠ .preGate) →
    e.state = .preGate → 1 ≤ s.tables.transport.active.speed →
    let toTray := e.desc ≠ none ∧ e.faulty = none ∧ e.purpose = .tray ∧ e.conflict = false ∧ e.trail ≠ none ∧
      e.length = some .good
    let speed := s.tables.transport.active.speed
    let passed := (e.compare - s.path.timer).toNat
    ∃ u w, exec .gateDecision s = .next (settle u) ∧ (settle u).path = u.path ∧
      u.path = { s.path with
        timer := e.compare
        gate := if toTray then .traySide else .purgeSide
        entries := before ++ { e with
          state := if toTray then .toTray else .toPurge
          deadline := some (e.compare + BitVec.ofNat 16 w) } :: after } ∧
      (toTray → 405 * 50000 ≤ w * (4 * speed) ∧ (w - 1) * (4 * speed) < 405 * 50000) ∧
      (¬toTray → 225 * 50000 ≤ w * (4 * speed) ∧ (w - 1) * (4 * speed) < 225 * 50000) ∧
      let decided : State := { s with
        path := u.path
        timers := s.timers.elapse passed
        session := s.session.map (fun z => { z with timer := z.timer.map (fun x => (x.1, x.2 - passed)) }) }
      (toTray ∨ e.purpose ≠ .tray ∨ e.desc = none → u = decided) ∧
      ∀ d, ¬toTray → e.purpose = .tray → e.desc = some d →
        let told : State := { decided with tray := { s.tray with held := s.tray.held.map (fun r => { r with
          flags := { r.flags with incomplete := true }
          parts := r.parts.modify (d.part - 1) (fun c => { c with taken := c.taken - 1 }) }) } }
        (e.conflict = true → u = told) ∧
        (e.conflict = false → u = notifyJob told d.job (.sheetRejected e.link d
          (if e.trail = none then .longSheet else e.length.getD .longSheet)
          (if d.size = 0 then 148 else if d.size = 1 then 210 else if d.size = 2 then 297 else 420)
          (if e.trail = none then none else e.measured)))

/-- R72, R86, R87, R165: an arrival deadline that is reached raises PATH-JAM, naming the awaited sensor, the link and the
tag, and the entry stays in the path list; a lead edge at ST or SP with no entry in the state the sensor serves is a
SENSOR fault: no entry is removed and the purge-bin count is not raised. The entry's `overdue` mark, by which a deadline
acts once, is the model's own (notes/assumptions/13.md). -/
def Obligations.PathFaults : Prop :=
  ∀ s : State,
    (∀ (i : Nat) (e : PathEntry) (deadline : Tick),
      active s = true → s.path.entries[i]? = some e → e.deadline = some deadline → e.overdue = false →
      e.state ≠ .preGate →
      let missed : FaultDetail :=
        { cause := .pathJam, sensor := some (if e.state = .toTray then .st else .sp), link := some e.link
          tag := e.desc.map (·.tag) }
      ∃ t, exec (.arrivalDeadline i) s = .next t ∧ t.run = .faulted ∧ t.fault = { s.fault with first := some missed } ∧
        t.path = { s.path with timer := deadline, entries := s.path.entries.set i { e with overdue := true } }) ∧
    (active s = true ∨ s.run = .warming →
      let at' (x : PathSensor) : FaultRecord :=
        { s.fault with first := some { cause := .sensor, sensor := some x, link := none, tag := none } }
      ((∀ x ∈ s.path.entries, x.state ≠ .toTray) →
        ∃ t, exec .stLeadEdge s = .next t ∧ t.run = .faulted ∧ t.path = s.path ∧ t.fault = at' .st) ∧
      ((∀ x ∈ s.path.entries, x.state ≠ .toPurge) →
        ∃ t, exec .spLeadEdge s = .next t ∧ t.run = .faulted ∧ t.path = s.path ∧ t.fault = at' .sp))

/-- R83, R92: a lead edge at ST is the arrival of the oldest TO-TRAY entry, and its sheet is added to the tray's
segment; a split that waited for the last tray-bound sheet then makes its staple decision (R94). A lead edge at SP is the
arrival of the oldest TO-PURGE entry, and the purge-bin count rises (R84, R88); the sheet that brings it to 250 sends
PURGE-FULL, and a sheet purged as an orphan puts its seat on the reprint list of its job and sends SHEET-PURGED (R85). Then
CLOSING jobs that hold nothing go (R20), and the part looks again (`settle`, notes/assumptions/16.md). -/
def Obligations.SheetsArrive : Prop :=
  ∀ (s : State) (before after : List PathEntry) (e : PathEntry), active s = true →
    s.path.entries = before ++ e :: after →
    (e.state = .toTray → (∀ x ∈ before, x.state ≠ .toTray) →
      let added (r : SetRec) : SetRec := { r with
        traySheets := r.traySheets + 1
        totalSheets := r.totalSheets + 1
        trayHeight := min 1200 (r.trayHeight + (match e.desc with | some d => thickness s d.grade | none => 0)) }
      let w : State := { s with
        pins := { s.pins with stCovered := true }
        path := { s.path with entries := before ++ after }
        tray := { s.tray with held := s.tray.held.map added } }
      let waited : Prop := s.tray.phase = .stapling ∧ (∃ c, s.tray.close = some c ∧ c.kind = .split) ∧
        ∀ x ∈ before ++ after, x.purpose = .tray → x.state = .toPurge
      (waited → exec .stLeadEdge s = .next (settle (removeClosed (stapleDecision w)))) ∧
      (¬waited → exec .stLeadEdge s = .next (settle (removeClosed w))) ∧
      (s.tray.phase ≠ .empty →
      ∃ t, exec .stLeadEdge s = .next t ∧ t.path = { s.path with entries := before ++ after } ∧
        ∀ r d, s.tray.held = some r → e.desc = some d →
          ∃ r', t.tray.held = some r' ∧ r'.job = r.job ∧ r'.seat = r.seat ∧ r'.segment = r.segment ∧
            r'.traySheets = r.traySheets + 1 ∧ r'.totalSheets = r.totalSheets + 1 ∧
            r'.trayHeight = min 1200 (r.trayHeight + thickness s d.grade))) ∧
    (e.state = .toPurge → (∀ x ∈ before, x.state ≠ .toPurge) →
      let n := min 65535 (s.path.purgeCount + 1)
      let w : State := { s with
        pins := { s.pins with spCovered := true }
        path := { s.path with entries := before ++ after, purgeCount := n } }
      let counted : State := if s.path.purgeCount = 249 then notifyPlain w (.purgeFull 250) else w
      let listed (d : Desc) : State := { counted with jobs := s.jobs.map (fun j =>
        if j.number = d.job ∧ d.seat ∉ j.reprint ∧ 1 ≤ d.seat ∧ d.seat ≤ j.seats.length
        then { j with reprint := j.reprint ++ [d.seat] } else j) }
      (∀ d, e.purpose = .purgeOrphan → e.desc = some d →
        exec .spLeadEdge s = .next (settle (removeClosed (notifyJob (listed d) d.job (.sheetPurged e.link d))))) ∧
      (e.purpose ≠ .purgeOrphan ∨ e.desc = none → exec .spLeadEdge s = .next (settle (removeClosed counted))) ∧
      ∃ t, exec .spLeadEdge s = .next t ∧
        t.path = { s.path with entries := before ++ after, purgeCount := min 65535 (s.path.purgeCount + 1) })

/-- R89, R111: a bin-emptied event, in every run state, sets the purge-bin count to 0 and sends PURGE-EMPTIED on the notice
link, whatever the count was; no entry of the path changes, and the arbiter may serve again. A stacker-emptied event, in
every run state, sets the stacker's fill to 0 and its last side to RIGHT and sends STACKER-EMPTIED, and a BLOCKED tower
retries (R112). In a part that is still nothing else happens. What else the part looks at after either event, whatever the
count was, is the model's reading (`settle`, notes/assumptions/16.md). -/
def Obligations.EmptiedBinAndStacker : Prop :=
  ∀ s : State,
    let bin : State := notifyPlain { s with path := { s.path with purgeCount := 0 } } .purgeEmptied
    let stacker : State := notifyPlain { s with stacker := { fill := 0, side := .right } } .stackerEmptied
    (∃ t, exec .binEmptied s = .next t ∧ t = settle bin ∧
      t.path = { s.path with purgeCount := 0 } ∧ t.stacker = s.stacker ∧ t.pockets = s.pockets ∧ t.fault = s.fault ∧
      (s.still → t = bin)) ∧
    (∃ t, exec .stackerEmptied s = .next t ∧ t = settle (retry stacker) ∧ t.stacker = { fill := 0, side := .right } ∧
      t.path = s.path ∧ t.fault = s.fault ∧
      (s.still → t = stacker))

/-! ## Faults (R165, R166) -/

/-- R165, R166, R154, R29: the entry into FAULTED: the cause is recorded, the grant is withdrawn and its head is WAITING, the
session is ended, the transport timer and the path stay, the shelf is IDLE, a HELD tower is IDLE and every timer but the
stapler's is discarded. The taken count of a TRAY grant's part falls by 1 (R57); a GRANT that still waits in the lane is
removed, and otherwise a WITHDRAW is put in the lane, which an idle transmitter sends at once (R154; how far the GRANT has come
is told by the grant's stage, notes/assumptions/12.md). FAULT is sent, and then the session ends. A fault raised in FAULTED
raises the count of further faults and has no other effect. -/
def Obligations.RaisedFaultFreezesThePart : Prop :=
  ∀ (s : State) (d : FaultDetail),
    let t := raiseFault s d
    (s.run = .faulted → t = { s with fault := { s.fault with further := min 255 (s.fault.further + 1) } }) ∧
    (s.run ≠ .faulted →
    t.run = .faulted ∧ t.fault = { s.fault with first := some d } ∧ t.grant = none ∧ t.session = none ∧
    t.path = s.path ∧ t.pockets = s.pockets ∧ t.stacker = s.stacker ∧ t.tables = s.tables ∧
    t.shelf = { s.shelf with motion := .idle } ∧
    t.stapler = { s.stapler with requestWaiting := false } ∧
    t.timers = { Timers.stopped with completion := s.timers.completion, recovery := s.timers.recovery } ∧
    (s.tower.phase = .held → t.tower = { s.tower with phase := .idle }) ∧
    (s.tower.phase ≠ .held → (∀ z, s.session = some z → z.towerTaken = false) → t.tower = s.tower) ∧
    (∀ g e rest, s.grant = some g → (s.feeds.get g.link).entries = e :: rest →
      (t.feeds.get g.link).entries = { e with standing := .waiting } :: rest) ∧
    (s.grant = none → t.feeds = s.feeds ∧ t.tray = s.tray) ∧
    (∀ g e rest, s.grant = some g → (s.feeds.get g.link).entries = e :: rest →
      (g.purpose ≠ .tray → t.tray = s.tray) ∧
      (g.purpose = .tray → t.tray = { s.tray with held := s.tray.held.map (fun r => { r with
        parts := r.parts.modify (e.desc.part - 1) (fun c => { c with taken := c.taken - 1 }) }) })) ∧
    let withdrawn : Pair LinkPort := match s.grant with
      | none => s.links
      | some g =>
        let k := s.links.get g.link
        s.links.set g.link
          (if g.stage = .inLane then { k with lane := none }
           else if k.sending.isSome = true ∨ linkPresent s g.link = false then { k with lane := some (.withdraw g.tag) }
           else { k with
             lane := none, sending := some (.withdraw g.tag), line := frameChars s.straps.address (.withdraw g.tag) })
    ∃ u, u = { s with links := withdrawn, run := u.run, fault := u.fault, grant := none, feeds := u.feeds, tray := u.tray
                      shelf := u.shelf, stapler := u.stapler, timers := u.timers } ∧
      u.session = s.session ∧ u.tower = s.tower ∧ u.tray = t.tray ∧ u.feeds = t.feeds ∧
      (let told := notifyPlain u (.fault d)
       (s.session = none → t = { told with tower := t.tower }) ∧
       ∀ z, s.session = some z → t = { endSession told z .fault with tower := t.tower }))

/-- R62, R63, R104, R114, R129, R133, R163: the expiry of a motion, eject, delivery, positioning or warm-up timer that
runs raises its fault. -/
def Obligations.TimerExpiriesRaiseFaults : Prop :=
  ∀ s : State, s.run ≠ .faulted →
    let raised (c : Instr) (cause : FaultCause) : Prop :=
      exec c s = .next (raiseFault s { cause := cause, sensor := none, link := none, tag := none })
    (s.timers.motion ≠ none → raised .motionTimerExpiry .shelfJam) ∧
    (s.timers.eject ≠ none → raised .ejectTimerExpiry .towerJam) ∧
    (s.timers.delivery ≠ none → raised .deliveryTimerExpiry .towerJam) ∧
    (s.timers.warmup ≠ none → raised .warmupTimerExpiry .warmup) ∧
    (∀ z n, s.session = some z → z.timer = some (.positioning, n) → raised .positioningTimerExpiry .towerJam)

/-! ## Sequencer and shelf (R41 to R63) -/

/-- R49, R41: the feed window expires before the lead: the grant ends, the head leaves its queue, a TRAY sheet leaves the
open set INCOMPLETE with the taken count of its part one lower, FEED-MISSED is sent, with the job and its reply tag in the
header when the job is in the list, and the descriptor behind becomes the head (R27). Before that head is checked, the
expiry has its whole effect on the open set: a CLOSE-PENDING set that only the missed sheet held back is handed to the tray
for its final close (R55), so that the new head is not judged against it. Then CLOSING jobs that hold nothing are removed
(R20). What the part then looks at (`settle`) is the model's reading (notes/assumptions/16.md). -/
def Obligations.MissedFeedEndsTheGrant : Prop :=
  ∀ (s : State) (g : Grant) (e : QueueEntry) (rest : List QueueEntry) (n : Nat),
    s.timers.feedWindow = some n → s.grant = some g → (s.feeds.get g.link).entries = e :: rest →
    let ended : State := { s with
      grant := none
      timers := { s.timers with feedWindow := none }
      feeds := s.feeds.set g.link { (s.feeds.get g.link) with entries := rest } }
    let missed (w : State) : State :=
      match findJob s e.desc.job with
      | some j => notify w j.replyTag e.desc.job (.feedMissed g.link e.desc)
      | none => notify w 0 0 (.feedMissed g.link e.desc)
    let shorter (r : SetRec) : SetRec := { r with
      flags := { r.flags with incomplete := true }
      parts := r.parts.modify (e.desc.part - 1) (fun c => { c with taken := c.taken - 1 }) }
    let short : State := { ended with tray := { s.tray with held := s.tray.held.map shorter } }
    let handedOver (r : SetRec) : Prop := s.tray.phase = .compiling ∧ s.tray.held = some r ∧
      (∀ c, s.tray.close = some c → c.kind ≠ .final) ∧ r.assembly = .closePending ∧ active s = true ∧
      ∀ x ∈ s.path.entries, x.purpose = .tray → x.state = .toPurge
    ∃ t, exec .feedWindowExpiry s = .next t ∧ s.SameBesides t ∧ t.descs g.link = rest.map (·.desc) ∧
      t.descs (otherLink g.link) = s.descs (otherLink g.link) ∧
      (g.purpose ≠ .tray → t = settle (removeClosed (newHead (missed ended) g.link))) ∧
      (g.purpose = .tray → (∀ r, ¬handedOver r) → t = settle (removeClosed (newHead (missed short) g.link))) ∧
      ∀ r, g.purpose = .tray → handedOver r →
        t = settle (removeClosed (newHead (closeFinal (missed short) (shorter r)) g.link))

/-- R52, R53: the stall timer's expiry ends the current part of the assembling set, and the part goes on by itself
(`settle`, the model's reading, notes/assumptions/16.md). -/
def Obligations.StallExpiryEndsThePart : Prop :=
  ∀ (s : State) (r : SetRec) (n : Nat), s.timers.stall = some n → s.tray.held = some r → s.tray.phase = .compiling →
    s.tray.close = none → r.assembly = .assembling → active s = true →
    let b := planOf s r.plan
    let short := r.flags.short || decide ((r.partCount r.part).taken < ((b.part r.part).map (·.minCount)).getD 0)
    let last : Bool := decide (b.parts.length ≤ r.part)
    let r' : SetRec :=
      { r with
        flags := { r.flags with short := short }
        assembly := if last then .closePending else .assembling
        part := if last then r.part else r.part + 1 }
    exec .stallTimerExpiry s = .next (settle
      { s with timers := { s.timers with stall := none }, tray := { s.tray with held := some r' } })

/-- R59, R60, R62: the preemption check of an assembling set, made with no grant outstanding (of either route, also after a
shelf-down or the receipt of a split's segment: the model's choice, notes/assumptions/35.md) and nothing of it tray-bound:
with a plan that
permits parking, room on the shelf, a tray height of at most 600 tu and a set-opening head of higher priority, the tray is
PARKING and the shelf
LIFTING for at most 2000 ms; otherwise nothing happens. R62, R68: a shelf-up event is taken only while LIFTING: the lifted
record becomes the top of the stack, and the tray is EMPTY. A shelf-down event is taken only while LOWERING: the top record
is popped and is the open set of a COMPILING tray, of origin SHELF (R63). What the part looks at after either event
(`settle`) is the model's reading (notes/assumptions/16.md). -/
def Obligations.ShelfMovesTheSet : Prop :=
  ∀ s : State,
    (∀ r, s.tray.phase = .compiling → s.tray.held = some r → s.tray.close = none → r.assembly = .assembling →
      active s = true →
      let holds : Prop := s.grant = none ∧
        (∀ x ∈ s.path.entries, x.purpose = .tray → x.state = .toPurge) ∧
        (planOf s r.plan).parkPermitted = true ∧ s.shelf.stack.length < 2 ∧ r.trayHeight ≤ 600 ∧
        ∃ l e j, headOf s l = some e ∧ headClass s l = some .setOpening ∧ findJob s e.desc.job = some j ∧
          r.priority < j.priority
      (holds → preempt s = { s with
        tray := { s.tray with phase := .parking }
        shelf := { s.shelf with motion := .lifting }
        timers := { s.timers with motion := some 20000 } }) ∧
      (¬holds → preempt s = s)) ∧
    (s.tray.phase ≠ .compiling ∨ active s = false → preempt s = s) ∧
    (∀ r, s.shelf.motion = .lifting → s.tray.held = some r →
      exec .shelfUp s = .next (settle { s with
        shelf := { motion := .idle, stack := r :: s.shelf.stack }, tray := Tray.empty
        timers := { s.timers with motion := none } }) ∧
      ∃ t, exec .shelfUp s = .next t ∧ s.SameBesides t ∧ t.shelf.stack = r :: s.shelf.stack) ∧
    (s.shelf.motion ≠ .lifting → exec .shelfUp s = .next s) ∧
    (∀ r rest, s.shelf.motion = .lowering → s.shelf.stack = r :: rest →
      exec .shelfDown s = .next (settle { s with
        shelf := { motion := .idle, stack := rest }
        tray := { phase := .compiling, held := some { r with origin := .shelf }, close := none }
        timers := { s.timers with motion := none } }) ∧
      ∃ t, exec .shelfDown s = .next t ∧ s.SameBesides t ∧ t.shelf.stack = rest) ∧
    (s.shelf.motion ≠ .lowering → exec .shelfDown s = .next s)

/-- R34 to R36: the class of a checked head, the first condition that holds deciding. R42 to R45: no grant is made outside
R42's conditions; the needed sheet is granted first, unless the split check of R93 fires; then a purge grant, link A's head
before link B's; then a set start. R56: purge grants are served in RUNNING, and in HALTING only while a set is open. Where the
split check fires, a purge grant may be made at the same event (the model's choice, notes/assumptions/42.md). R45: an orphan
may be deferred; that a head no longer valid never is, is the model's choice (notes/assumptions/10.md). R46: start
selection, in RUNNING with the tray EMPTY and the tower not BLOCKED, chooses
the candidate of the highest priority, of equal ones the shelf top first, then link A's head, then link B's. R154: no GRANT
is made while a WITHDRAW waits in the lane of the head's link; that no other head then takes its turn is the model's choice
(notes/assumptions/11.md), as it is that the resume of the shelf top waits too, and that the split check of a needed sheet is
made all the same, and so is that a GRANT still unsent there, whose grant has ended, gives way to the new one
(notes/assumptions/40.md). What a grant writes (R47, R154): the head is GRANTED with its route, the grant is outstanding,
and its GRANT is in the lane, or is sent at once by an idle transmitter (how far it has come is told by the grant's stage,
notes/assumptions/12.md). R51, R52: the part ends at the grant of a sheet that carries last-in-part or brings the part's taken
count to its max; that a sheet of a part which the plan does not have ends it too is the model's choice
(notes/assumptions/26.md). -/
def Obligations.StartSelectionTakesTheHighest : Prop :=
  (∀ (s : State) (p : Nat) (c : Candidate), best (candidates s) = some (p, c) →
    (∀ x ∈ candidates s, x.1 ≤ p) ∧ (p, c) ∈ candidates s ∧
    (∀ r, s.shelf.stack.head? = some r → r.priority = p → c = .shelfTop) ∧
    (openingPriority s .a = some p → c ≠ .head .b)) ∧
  (∀ (s : State) (p : Nat) (c : Candidate), (p, c) ∈ candidates s ↔
    (c = .shelfTop ∧ ∃ r, s.shelf.stack.head? = some r ∧ r.priority = p) ∨
    ∃ l e j, c = .head l ∧ headOf s l = some e ∧ headClass s l = some .setOpening ∧
      findJob s e.desc.job = some j ∧ j.priority = p) ∧
  (∀ (s : State) (l : Link) (p : Nat), openingPriority s l = some p ↔
    ∃ e j, headOf s l = some e ∧ headClass s l = some .setOpening ∧ findJob s e.desc.job = some j ∧ j.priority = p) ∧
  (∀ (s : State) (l : Link) (e : QueueEntry) (rest : List QueueEntry) (p : Purpose),
    (s.feeds.get l).entries = e :: rest →
    let route : Route := if p = .tray then .tray else .purge
    let k := s.links.get l
    let waits : State := { s with
      feeds := s.feeds.set l { (s.feeds.get l) with entries := { e with standing := .granted route } :: rest }
      grant := some { link := l, tag := e.desc.tag, purpose := p, stage := .inLane }
      links := s.links.set l { k with lane := some (.grant e.desc.tag route) } }
    (k.sending ≠ none ∨ linkPresent s l = false → issueGrant s l e p = waits) ∧
    (k.sending = none → linkPresent s l = true → issueGrant s l e p = { waits with
      grant := some { link := l, tag := e.desc.tag, purpose := p, stage := .sending }
      links := s.links.set l { k with
        lane := none, sending := some (.grant e.desc.tag route)
        line := frameChars s.straps.address (.grant e.desc.tag route) } })) ∧
  (∀ (s : State) (d : Desc) (r : SetRec), s.tray.held = some r → (∀ c, s.tray.close = some c → c.kind ≠ .final) →
    let b := planOf s r.plan
    let ends : Prop := d.last = true ∨
      ∀ x, 1 ≤ d.part → b.parts[d.part - 1]? = some x → x.maxCount ≤ (r.partCount d.part).taken
    let short := r.flags.short || decide ((r.partCount r.part).taken < ((b.part r.part).map (·.minCount)).getD 0)
    let last : Bool := decide (b.parts.length ≤ r.part)
    (ends → endPartAtGrant s d = { s with
      timers := { s.timers with stall := none }
      tray := { s.tray with held := some { r with
        flags := { r.flags with short := short }
        assembly := if last then .closePending else r.assembly
        part := if last then r.part else r.part + 1 } } }) ∧
    (¬ends → endPartAtGrant s d = s)) ∧
  (∀ (s : State) (l : Link) (d : Desc),
    (findJob s d.job = none → classify s l d = .noLongerValid) ∧
    ∀ j, findJob s d.job = some j →
      let plan := planOf s j.plan
      let fits : Prop := d.seat ≤ j.seats.length ∧ d.seat ≤ (classOf s j.cls).seatCount ∧
        (∃ x, plan.parts[d.part - 1]? = some x ∧ x.source = l) ∧ outOfOrder s d = false
      let ofOpen : Prop := ∃ r, openSet s = some r ∧ r.job = d.job ∧ r.seat = d.seat
      let ofParked : Prop := ∃ r ∈ s.shelf.stack, r.job = d.job ∧ r.seat = d.seat
      let opens : Prop := d.index = 1 ∧ 1 ≤ d.part ∧ d.part ≤ plan.parts.length ∧
        ∀ x ∈ plan.parts.take (d.part - 1), x.minCount = 0
      let drains : Prop := (∃ x, s.tables.plans[j.plan]? = some x ∧ x.marked = true ∧ 0 < x.refs) ∨
        (∃ x, s.tables.classes[j.cls]? = some x ∧ x.marked = true ∧ 0 < x.refs)
      (¬fits → classify s l d = .noLongerValid) ∧
      (fits → ofOpen → classify s l d = .partOfOpen) ∧
      (fits → ¬ofOpen → ofParked → classify s l d = .parkedOwned) ∧
      (fits → ¬ofOpen → ¬ofParked → opens → ¬drains → classify s l d = .setOpening) ∧
      (fits → ¬ofOpen → ¬ofParked → opens → drains → classify s l d = .heldForCommit) ∧
      (fits → ¬ofOpen → ¬ofParked → ¬opens → classify s l d = .orphan)) ∧
  (∀ s : State, ¬(active s = true ∧ s.grant = none ∧ (∀ x ∈ s.path.entries, x.state ≠ .preGate) ∧
    s.path.entries.length < 4 ∧ s.path.purgeCount < 250) → serve s = s) ∧
  ∀ s : State, active s = true → s.grant = none → (∀ x ∈ s.path.entries, x.state ≠ .preGate) →
    s.path.entries.length < 4 → s.path.purgeCount < 250 →
    let purges : Prop := s.run = .running ∨
      (s.run = .halting ∧ ∃ r, s.tray.held = some r ∧ ∀ c, s.tray.close = some c → c.kind ≠ .final)
    let waits (l : Link) : Prop := ∃ tag, (s.links.get l).lane = some (.withdraw tag)
    (∀ r p e rest, s.tray.phase = .compiling → s.tray.held = some r → s.tray.close = none → r.assembly = .assembling →
      1 ≤ r.part → (planOf s r.plan).parts[r.part - 1]? = some p → (s.feeds.get p.source).entries = e :: rest →
      headClass s p.source = some .partOfOpen → e.desc.part = r.part →
      let bound := s.path.entries.filter (fun x => x.purpose == .tray && x.state != .toPurge)
      let height := (bound.map (fun x => match x.desc with | some d => thickness s d.grade | none => 0)).sum
      let fires : Prop := 99 < r.traySheets + bound.length + 1 ∨ 1200 < r.trayHeight + height + thickness s e.desc.grade
      let k := s.links.get p.source
      (fires → serve s = servePurgeOrStart (beginSplit s)) ∧
      (¬fires → waits p.source → serve s = s) ∧
      (¬fires → ¬waits p.source →
        serve s = endPartAtGrant (issueGrant { s with tray := { s.tray with held := some { r with
          parts := r.parts.modify (r.part - 1) (fun c => { taken := c.taken + 1, lastIndex := e.desc.index })
          flags := { r.flags with
            gap := r.flags.gap || decide ((r.partCount r.part).lastIndex + 1 < e.desc.index) } } } }
          p.source e .tray) e.desc ∧
        ∃ g r', (serve s).grant = some g ∧ g.link = p.source ∧ g.tag = e.desc.tag ∧ g.purpose = .tray ∧
          ((serve s).feeds.get p.source).entries = { e with standing := .granted .tray } :: rest ∧
          (serve s).tray.held = some r' ∧
          r'.parts = r.parts.modify (r.part - 1) (fun c => { taken := c.taken + 1, lastIndex := e.desc.index }) ∧
          r'.flags.gap = (r.flags.gap || decide ((r.partCount r.part).lastIndex + 1 < e.desc.index)) ∧
          (k.sending.isSome = true →
            (serve s).links.get p.source = { k with lane := some (.grant e.desc.tag .tray) }))) ∧
    ((∀ r, assemblingSet s = some r → neededSheet s r = none) →
      (∀ e p, purges → headOf s .a = some e → purgePurpose s .a = some p →
        (waits .a → serve s = s) ∧ (¬waits .a → serve s = issueGrant s .a e p)) ∧
      (∀ e p, purges → purgePurpose s .a = none → headOf s .b = some e → purgePurpose s .b = some p →
        (waits .b → serve s = s) ∧ (¬waits .b → serve s = issueGrant s .b e p)) ∧
      (¬purges ∨ (purgePurpose s .a = none ∧ purgePurpose s .b = none) →
        (s.run ≠ .running ∨ s.tray.phase ≠ .empty ∨ s.tower.phase = .blocked → serve s = s) ∧
        (s.run = .running → s.tray.phase = .empty → s.tower.phase ≠ .blocked →
          (candidates s = [] → serve s = s) ∧
          (∀ p, best (candidates s) = some (p, .shelfTop) → serve s = { s with
            tray := { s.tray with phase := .unparking }
            shelf := { s.shelf with motion := .lowering }
            timers := { s.timers with motion := some 20000 } }) ∧
          ∀ p l e j, best (candidates s) = some (p, .head l) → headOf s l = some e → findJob s e.desc.job = some j →
            (waits l → serve s = s) ∧ (¬waits l → serve s = startSet s l e j)))) ∧
    (∀ l, headOf s l = none → purgePurpose s l = none) ∧
    ∀ l e, headOf s l = some e →
      (e.standing ≠ .waiting → purgePurpose s l = none) ∧
      (e.standing = .waiting → e.faulty = none → headClass s l ≠ some .noLongerValid → headClass s l ≠ some .orphan →
        purgePurpose s l = none) ∧
      (e.standing = .waiting → e.faulty ≠ none → purgePurpose s l = some .purgeFaulty) ∧
      (e.standing = .waiting → e.faulty = none → headClass s l = some .noLongerValid →
        purgePurpose s l = some .purgeOrphan) ∧
      (e.standing = .waiting → e.faulty = none → headClass s l = some .orphan →
        let waits : Prop := ∃ x, headOf s (otherLink l) = some x ∧
          (headClass s (otherLink l) = some .setOpening ∨ headClass s (otherLink l) = some .heldForCommit) ∧
          x.desc.job = e.desc.job ∧ x.desc.seat = e.desc.seat
        (waits → purgePurpose s l = none) ∧ (¬waits → purgePurpose s l = some .purgeOrphan)) ∧
      (e.standing = .waiting → e.faulty = none → e.checked = true → headClass s l = some (classify s l e.desc)) ∧
      (e.standing ≠ .waiting ∨ e.faulty ≠ none ∨ e.checked = false → headClass s l = none)

/-- R40, R13, R136: the set that a set-opening head starts, with one reference more on its plan and on its class entry; its
first part ends at the grant when R51 says so. -/
def Obligations.StartedSetIsNew : Prop :=
  ∀ (s : State) (l : Link) (e : QueueEntry) (j : Job), 1 ≤ e.desc.part →
    e.desc.part ≤ (planOf s j.plan).parts.length →
    let r := startRecord s l e.desc j
    r.job = e.desc.job ∧ r.seat = e.desc.seat ∧ r.plan = j.plan ∧ r.cls = j.cls ∧ r.priority = j.priority ∧
    r.replyTag = j.replyTag ∧ r.part = e.desc.part ∧ r.segment = 1 ∧ r.traySheets = 0 ∧ r.trayHeight = 0 ∧
    r.totalSheets = 0 ∧ r.note = e.desc.note ∧ r.parts.length = (planOf s j.plan).parts.length ∧
    (∀ k, 1 ≤ k → k ≤ (planOf s j.plan).parts.length →
      r.partCount k = if k = e.desc.part then { taken := 1, lastIndex := 1 } else { taken := 0, lastIndex := 0 }) ∧
    r.assembly = .assembling ∧ r.origin = (match l with | .a => .linkA | .b => .linkB) ∧ r.exceptionMark = false ∧
    r.flags = { SetFlags.clear with
      withheld := ((classOf s j.cls).seatEntry e.desc.seat).withheld
      routeException := decide (towerSize s ≤ seatPocket s j.cls e.desc.seat) } ∧
    (startSet s l e j).tray.phase = .compiling ∧
    startSet s l e j = endPartAtGrant (issueGrant { s with
      jobs := (startSet s l e j).jobs, tables := (startSet s l e j).tables
      tray := { phase := .compiling, held := some r, close := none } } l e .tray) e.desc ∧
    (let t := (startSet s l e j).tables
     t = { s.tables with plans := t.plans, classes := t.classes } ∧
     (∀ i, t.plans[i]? = (s.tables.plans[i]?).map (fun x => if i = j.plan then { x with refs := x.refs + 1 } else x)) ∧
     ∀ i, t.classes[i]? =
       (s.tables.classes[i]?).map (fun x => if i = j.cls then { x with refs := x.refs + 1 } else x)) ∧
    (startSet s l e j).jobs = s.jobs.map (fun x => if x.number = j.number then x.withSeat e.desc.seat .inProgress else x)

/-! ## Stapler (R99 to R101) -/

/-- R99 to R101: a completion taken while FIRING leaves the stapler RECOVERING for 300 ms, with the cartridge count one
lower, and in any other state it is ignored; the completion timer's expiry leaves it JAMMED, with the count as it is. R96:
unless the segment was lost at CLEAR (the mark of notes/assumptions/32.md) or the part is FAULTED, the tray is told: the
staples fired rise by 1, and the segment is READY when all that were asked are fired and is otherwise given its next fire;
a jam marks the segment and the set. The tray's close: the split (R93, R94) and the hand-over (R55) lead to the staple
decision (R95), an empty final segment to the empty outcome (R98), and a segment that goes on to READY has its route fixed
(R97) and is ejected into an IDLE tower (R102). What the part looks at after a report (`settle`) is the model's reading
(notes/assumptions/16.md). -/
def Obligations.FiresCompleteOrJam : Prop :=
  ∀ s : State,
    let staplesLow (w : State) : State := if s.stapler.cartridge = 2 then notifyPlain w (.staplesLow 1) else w
    let fired : State := staplesLow { s with
      stapler := { phase := .recovering, requestWaiting := false, owner := none, cartridge := s.stapler.cartridge - 1 }
      timers := { s.timers with completion := none, recovery := some 3000 } }
    let jammed (o : FireOwner) : State := notify
      { s with
        stapler := { s.stapler with phase := .jammed, owner := none }
        timers := { s.timers with completion := none } }
      (((findJob s o.job).map (·.replyTag)).getD 0) o.job (.staplerJam o.seat o.segment)
    let told (o : FireOwner) : Prop := o.lost = false ∧ s.run ≠ .faulted ∧ s.tray.phase = .stapling
    let ownerOf (r : SetRec) : FireOwner := { job := r.job, seat := r.seat, segment := r.segment, lost := false }
    -- the stapler
    (s.stapler.phase = .firing →
      ∃ t, exec .staplerCompletion s = .next t ∧ s.SameBesides t ∧ t.stapler.phase = .recovering ∧
        t.stapler.cartridge = s.stapler.cartridge - 1 ∧ t.timers.completion = none ∧ t.timers.recovery = some 3000) ∧
    (s.stapler.phase = .firing → (∀ o, s.stapler.owner = some o → ¬told o) → exec .staplerCompletion s = .next fired) ∧
    (∀ o r c, s.stapler.phase = .firing → s.stapler.owner = some o → told o → s.tray.held = some r →
      s.tray.close = some c →
      let u : State := { fired with tray := { s.tray with close := some { c with fired := c.fired + 1 } } }
      (c.asked ≤ c.fired + 1 → exec .staplerCompletion s = .next (settle (toReady u))) ∧
      (c.fired + 1 < c.asked → exec .staplerCompletion s = .next (settle
        { u with stapler := { fired.stapler with requestWaiting := true, owner := some (ownerOf r) } }))) ∧
    (s.stapler.phase ≠ .firing → exec .staplerCompletion s = .next s) ∧
    (∀ n o, s.timers.completion = some n → s.stapler.owner = some o →
      (∃ t, exec .completionTimerExpiry s = .next t ∧ s.SameBesides t ∧ t.stapler.phase = .jammed ∧
        t.stapler.cartridge = s.stapler.cartridge ∧ t.timers.completion = none) ∧
      (¬told o → exec .completionTimerExpiry s = .next (jammed o)) ∧
      (∀ r c, told o → s.tray.held = some r → s.tray.close = some c →
        exec .completionTimerExpiry s = .next (settle (toReady { jammed o with tray := { s.tray with
          held := some { r with flags := { r.flags with unstapled := true } }
          close := some { c with unstapled := true, jamMark := true } } })))) ∧
    -- the tray's close
    ∀ r, s.tray.held = some r →
      let plan := planOf s r.plan
      let asked : Nat := match plan.stapleMode with | .none => 0 | .corner => 1 | .edge => 2
      let serves : Prop := (s.stapler.phase = .ready ∨ s.stapler.phase = .recovering) ∧ asked ≤ s.stapler.cartridge ∧
        r.trayHeight ≤ 520
      let closing (kind : CloseKind) : State := { s with tray := { s.tray with
        phase := .stapling
        close := some { kind := kind, asked := 0, fired := 0, jamMark := false, unstapled := false, route := none } } }
      (∀ c, s.tray.close = some c →
        let route : SegRoute :=
          if r.exceptionMark = true ∨ r.flags.short = true ∨ r.flags.incomplete = true ∨ r.flags.withheld = true ∨
            r.flags.routeException = true ∨ (c.unstapled = true ∧ plan.stapleRequired = true) ∨ c.jamMark = true
          then .exception else .normal
        let ready : State := { s with tray :=
          { phase := .ready
            held := some { r with exceptionMark := r.exceptionMark || route == .exception }
            close := some { c with route := some route } } }
        (active s = false ∨ s.tower.phase ≠ .idle → toReady s = ready) ∧
        (active s = true → s.tower.phase = .idle → toReady s = { ready with
          tray := { ready.tray with phase := .ejecting }
          tower := { s.tower with phase := .receiving }
          timers := { s.timers with eject := some 30000 } }) ∧
        (let u : State := { s with tray := { s.tray with close := some { c with asked := asked } } }
         (asked = 0 → stapleDecision s = toReady u) ∧
         (1 ≤ asked → serves → s.stapler.phase = .ready → stapleDecision s = { u with
           stapler := { s.stapler with phase := .firing, requestWaiting := false, owner := some (ownerOf r) }
           timers := { s.timers with completion := some 4000 } }) ∧
         (1 ≤ asked → serves → s.stapler.phase = .recovering → stapleDecision s = { u with
           stapler := { s.stapler with requestWaiting := true, owner := some (ownerOf r) } }) ∧
         (1 ≤ asked → ¬serves → stapleDecision s = toReady { u with tray := { u.tray with
           held := some { r with flags := { r.flags with unstapled := true } }
           close := some { c with asked := asked, unstapled := true } } }))) ∧
      (let bound : Prop := ∃ x ∈ s.path.entries, x.purpose = .tray ∧ x.state ≠ .toPurge
       (bound → beginSplit s = closing .split) ∧ (¬bound → beginSplit s = stapleDecision (closing .split))) ∧
      (1 ≤ r.traySheets → closeFinal s r = stapleDecision (closing .final)) ∧
      (let earlier : Prop := ∃ g, s.tower.carried = some g ∧ g.final = false ∧ g.job = r.job ∧ g.seat = r.seat
       (r.traySheets = 0 → earlier → closeFinal s r = closing .final) ∧
       (r.traySheets = 0 → ¬earlier → closeFinal s r = emptyOutcome s r ∧
         ∃ u, closeFinal s r = applyReleased (dropRefs (removeClosed
           (notify u r.replyTag r.job (.setEmpty r.seat r.segment r.totalSheets r.flags))) r.plan r.cls) ∧
         u = { s with tray := { phase := .empty, held := none, close := none }, jobs := u.jobs } ∧
         ((s.jobs.map (·.number)).Nodup → ∀ j ∈ s.jobs, j.number = r.job → 1 ≤ r.seat → r.seat ≤ j.seats.length →
           findJob u r.job = some { j with
             exceptions := min 65535 (j.exceptions + 1)
             seats := if seatLive u r.job r.seat = true then j.seats else j.seats.set (r.seat - 1) .exception
             reprint := if r.flags.incomplete = true ∧ r.seat ∉ j.reprint then j.reprint ++ [r.seat] else j.reprint })))

/-- R99 to R101: the end of the recovery window, the stapler-home event and the cartridge-inserted event. -/
def Obligations.StaplerRecoversAndRefills : Prop :=
  ∀ s : State,
    (∀ n, s.timers.recovery = some n →
      exec .recoveryWindowEnd s = .next
        { s with
          stapler := { s.stapler with
            phase := if s.stapler.requestWaiting = true then .firing else .ready, requestWaiting := false }
          timers := { s.timers with
            recovery := none
            completion := if s.stapler.requestWaiting = true then some 4000 else s.timers.completion } }) ∧
    (s.stapler.phase = .jammed →
      exec .staplerHome s = .next { s with stapler := { s.stapler with phase := .ready } }) ∧
    (s.stapler.phase ≠ .jammed → exec .staplerHome s = .next s) ∧
    exec .cartridgeInserted s =
      .next (notifyPlain { s with stapler := { s.stapler with cartridge := 5000 } } (.cartridgeIn 5000))

/-! ## Tower and pockets (R106 to R121) -/

/-- R110, R118: the first option that is eligible is the answer; each pocket among the options passed over that is
AVAILABLE and fails on its capacity alone becomes FULL, with one POCKET-FULL, and nothing else of the pocket records
changes. R110, R112: the answer is the target of a carry under a fresh delivery timer; with none the tower is BLOCKED, with one
STACKER-FULL at the entry. R112, R113: a BLOCKED tower retries the whole chain, and a lost target leads to the options after
it, both in RUNNING and HALTING only. -/
def Obligations.AdmissionTakesTheFirstEligibleOption : Prop :=
  ∀ (s : State) (g : Segment) (c : Nat) (os : List ChainOption),
    let eligible (o : ChainOption) : Prop := match o.dest with
      | .stacker => s.stacker.fill + c ≤ 30000
      | .pocket p => p < towerSize s ∧ (pocketOf s p).state = .available ∧ (pocketOf s p).fill + c ≤ capacityOf s p
    let passed (p : Nat) : Prop := ∃ before o after, os = before ++ o :: after ∧ o.dest = .pocket p ∧
      ∀ x ∈ before ++ [o], ¬eligible x
    let t := (judgeOptions s g c os).1
    ((judgeOptions s g c os).2 = none ↔ ∀ o ∈ os, ¬eligible o) ∧
    (∀ before o after, os = before ++ o :: after → eligible o → (∀ x ∈ before, ¬eligible x) →
      (judgeOptions s g c os).2 = some o) ∧
    t = { s with links := t.links, pockets := t.pockets } ∧ t.pockets.length = s.pockets.length ∧
    (∀ p k, s.pockets[p]? = some k →
      let fails : Prop := passed p ∧ p < towerSize s ∧ k.state = .available ∧ capacityOf s p < k.fill + c
      (fails → t.pockets[p]? = some { k with state := .full }) ∧ (¬fails → t.pockets[p]? = some k)) ∧
    (s.tower.carried = some g → s.tower.charge = some c →
      (∀ o, (judgeOptions s g c os).2 = some o → aim s os = { t with
        tower := { s.tower with phase := .carrying, target := some o }
        timers := { s.timers with delivery := some 60000 } }) ∧
      ((judgeOptions s g c os).2 = none →
        let stopped : State := { t with
          tower := { s.tower with phase := .blocked, target := none }
          timers := { s.timers with delivery := none } }
        aim s os = if s.tower.phase = .blocked then stopped
          else notify stopped g.replyTag g.job (.stackerFull g.seat g.segment c s.stacker.fill))) ∧
    (s.tower.phase = .blocked → active s = true → retry s = aim s s.tower.chain) ∧
    (s.tower.phase ≠ .blocked ∨ active s = false → retry s = s) ∧
    (∀ o p before after, s.tower.target = some o → s.tower.chain = before ++ o :: after → o ∉ before →
      let lost : Prop := s.tower.phase = .carrying ∧ active s = true ∧ o.dest = .pocket p
      (lost → retarget s p = aim s after) ∧ (¬lost → retarget s p = s)) ∧
    ∀ o rest p k, os = o :: rest → o.dest = .pocket p → s.pockets[p]? = some k → p < towerSize s →
      k.state = .available → capacityOf s p < k.fill + c →
      judgeOptions s g c os = judgeOptions
        (notify { s with pockets := s.pockets.set p { k with state := .full } } g.replyTag g.job
          (.pocketFull p k.fill (capacityOf s p) (some c))) g c rest

/-- R103, R106, R108: the set-received event of an EJECTING segment: the tray is EMPTY after a final segment and COMPILING
the set's next one after a split; the tower holds the segment with its charge and is CARRYING it under a fresh delivery
timer, or BLOCKED; a first option that is eligible is the target. R97: the segment is described from the set record and the
segment-close record, its height the tray height plus 6 tu for each staple fired. R109: its chain is the seat's pocket on the
NORMAL route and the job's exception pocket on the EXCEPTION route, then the job's overflow pocket when it has one that is not
the first already, then the stacker. A segment whose route was never fixed counts as NORMAL, and one whose job is gone has the
stacker alone; no run reaches either (notes/assumptions/26.md). What the part then looks at (`settle`) is the model's reading
(notes/assumptions/16.md). -/
def Obligations.ReceivedSegmentIsCarried : Prop :=
  ∀ (s : State) (r : SetRec) (c : SegClose), active s = true → s.tower.phase = .receiving →
    s.tray.phase = .ejecting → s.tray.held = some r → s.tray.close = some c →
    let g : Segment := {
      job := r.job, seat := r.seat, plan := r.plan, cls := r.cls, replyTag := r.replyTag, segment := r.segment
      final := decide (c.kind = .final), sheets := r.traySheets, totalSheets := r.totalSheets
      height := r.trayHeight + 6 * c.fired, staples := c.fired, route := c.route.getD .normal
      flags := r.flags, jamMark := c.jamMark, note := r.note }
    let own := (classOf s r.cls).pocketBase + ((classOf s r.cls).seatEntry r.seat).offset
    let chain : List ChainOption := match findJob s r.job with
      | none => [{ dest := .stacker, place := .stacker }]
      | some j =>
        let first : Nat := if g.route = .normal then own else j.exceptionPocket
        let place : Place := if g.route = .normal then .seat else .exception
        let overflow : List ChainOption := match j.overflowPocket with
          | none => []
          | some p => if p = first then [] else [{ dest := .pocket p, place := .overflow }]
        [{ dest := .pocket first, place := place }] ++ overflow ++ [{ dest := .stacker, place := .stacker }]
    ∃ t u curl, exec .setReceived s = .next t ∧ t = settle u ∧
      u.tray = (if c.kind = .final then { phase := .empty, held := none, close := none }
        else { phase := .compiling, close := none
               held := some { r with segment := r.segment + 1, traySheets := 0, trayHeight := 0 } }) ∧
      u.grant = s.grant ∧ u.feeds = s.feeds ∧ u.shelf = s.shelf ∧ u.run = s.run ∧ u.session = s.session ∧
      u = aim { s with
        tray := u.tray, timers := { s.timers with eject := none }
        tower := { s.tower with carried := some g, charge := some (g.height + curl), chain := chain } } chain ∧
      t.tower.carried = some g ∧
      t.tower.charge = some (g.height + curl) ∧ g.height ≤ 16 * curl ∧ 16 * curl < g.height + 16 ∧
      t.tower.chain = chain ∧ t.timers.eject = none ∧
      ((t.tower.phase = .carrying ∧ t.tower.target.isSome = true ∧ t.timers.delivery = some 60000) ∨
        (t.tower.phase = .blocked ∧ t.tower.target = none ∧ t.timers.delivery = none)) ∧
      (∀ o rest p, chain = o :: rest → o.dest = .pocket p → p < towerSize s →
        (pocketOf s p).state = .available → (pocketOf s p).fill + (g.height + curl) ≤ capacityOf s p →
        t.tower.target = some o ∧ t.pockets = s.pockets) ∧
      t.stacker = s.stacker ∧ t.path = s.path

/-- R115, R116: the deposit at the target: its fill rises by the charge, clamped for a pocket, its set count by 1, its
side changes over, and a pocket whose fill reaches its capacity is FULL; the tower holds nothing any more. The POCKET-FULL
comes first, then SET-DELIVERED with the fields of R117; the deposit of a final segment is accounted before, and removes the
CLOSING jobs that nothing holds and releases the set's references after. A tray that waits on an empty final segment of the
set, whose earlier segment this is, gives its empty outcome (R98). What the part then looks at (`settle`) is the model's
reading (notes/assumptions/16.md). -/
def Obligations.DepositFillsTheTarget : Prop :=
  ∀ (s : State) (g : Segment) (c : Nat) (o : ChainOption), active s = true → s.tower.phase = .carrying →
    s.tower.carried = some g → s.tower.charge = some c → s.tower.target = some o →
    ∃ t, exec .depositComplete s = .next t ∧
      t.tower.carried = none ∧ t.tower.charge = none ∧ t.tower.target = none ∧ t.tower.chain = [] ∧
      t.path = s.path ∧ t.fault = s.fault ∧
      (o.dest = .stacker → t.pockets = s.pockets ∧ t.stacker.fill = s.stacker.fill + c ∧
        (t.stacker.side = .left ↔ s.stacker.side = .right)) ∧
      (∀ p k, o.dest = .pocket p → s.pockets[p]? = some k →
        t.stacker = s.stacker ∧ (∀ m, m ≠ p → t.pockets[m]? = s.pockets[m]?) ∧
        ∃ k', t.pockets[p]? = some k' ∧ k'.fill = min (capacityOf s p) (k.fill + c) ∧
          k'.setCount = min 255 (k.setCount + 1) ∧ (k'.side = .left ↔ k.side = .right) ∧
          k'.remembered = k.remembered ∧
          k'.state = if capacityOf s p ≤ k.fill + c then .full else k.state) ∧
      ∃ w, w = { s with
          links := w.links, pockets := w.pockets, stacker := w.stacker
          tower := { phase := .idle, carried := none, charge := none, chain := [], target := none }
          timers := { s.timers with delivery := none } } ∧
        w.pockets = t.pockets ∧ w.stacker = t.stacker ∧
        (o.dest = .stacker → w.links = s.links) ∧
        (∀ p k k', o.dest = .pocket p → s.pockets[p]? = some k → w.pockets[p]? = some k' →
          w.links = if capacityOf s p ≤ k.fill + c
            then (notify s g.replyTag g.job (.pocketFull p k'.fill (capacityOf s p) none)).links else s.links) ∧
        let into : Side × Nat := match o.dest with
          | .stacker => (w.stacker.side, w.stacker.fill)
          | .pocket p => ((pocketOf w p).side, (pocketOf w p).fill)
        let told : State := notify (if g.final = true then accountDeposit w g o.place else w) g.replyTag g.job
          (.setDelivered {
            seat := g.seat, dest := o.dest, place := o.place, side := into.1, segment := g.segment, final := g.final
            sheets := g.sheets, totalSheets := g.totalSheets, height := g.height, charge := c, staples := g.staples
            route := g.route, flags := g.flags, jamMark := g.jamMark, note := g.note, fillAfter := into.2 })
        (g.final = true → t = settle (applyReleased (dropRefs (removeClosed told) g.plan g.cls))) ∧
        (g.final = false →
          let waits (r : SetRec) : Prop := s.tray.phase = .stapling ∧ s.tray.held = some r ∧
            (∃ x, s.tray.close = some x ∧ x.kind = .final) ∧ r.traySheets = 0 ∧ r.job = g.job ∧ r.seat = g.seat
          (∀ r, waits r → t = settle (emptyOutcome told r)) ∧ ((∀ r, ¬waits r) → t = settle told))

/-- R14, R17, R18: the account of a deposited set in its job record: its outcome by the flags, the route and the place. -/
def Obligations.DepositIsAccounted : Prop :=
  ∀ (s : State) (j : Job) (g : Segment) (p : Place), (s.jobs.map (·.number)).Nodup → j ∈ s.jobs → g.job = j.number →
    1 ≤ g.seat → g.seat ≤ j.seats.length →
    let out : SeatStatus × OutcomeCount :=
      if g.flags.withheld = true then (.withheld, .exception)
      else if g.route = .exception then (.exception, .exception)
      else if p = .seat then (.delivered, .delivered)
      else (.diverted, .diverted)
    let up (n : Nat) (k : OutcomeCount) : Nat := if out.2 = k then min 65535 (n + 1) else n
    ∃ j', findJob (accountDeposit s g p) j.number = some j' ∧
      j'.delivered = up j.delivered .delivered ∧ j'.diverted = up j.diverted .diverted ∧
      j'.exceptions = up j.exceptions .exception ∧ j'.lost = j.lost ∧
      j'.seats = (if seatLive s j.number g.seat = true then j.seats else j.seats.set (g.seat - 1) out.1) ∧
      j'.reprint =
        if g.flags.incomplete = true then (if g.seat ∈ j.reprint then j.reprint else j.reprint ++ [g.seat])
        else if out.1 = .exception then j.reprint else j.reprint.filter (fun x => x ≠ g.seat)

/-- R119: a drawer-open event, in every run state, of a pocket of the tower: an AVAILABLE, FULL or UNVERIFIED pocket
becomes WITHDRAWN and remembers its state; a DISABLED or WITHDRAWN one, or one out of the tower, ignores it but for the sensed line. R113: a carry
to the pocket, in RUNNING or HALTING, goes on to the first eligible option after it in the chain under a fresh delivery
timer, or leaves the tower BLOCKED. R112: a tower BLOCKED already retries. R133: a session whose fixed target it is ends
with DRAWER. That the tower answers as the event finds it is the model's reading (notes/assumptions/19.md): one that was
BLOCKED retries, and one that the re-target leaves BLOCKED does not retry at this event, so that no earlier option of its chain
is judged again. What the part then looks at (`settle`) is the model's reading (notes/assumptions/16.md), and that POCKET-WITHDRAWN comes before
the session's INSERT-DONE is the model's choice, and before the notices of the re-target or the retry its reading
(notes/assumptions/8.md). -/
def Obligations.DrawerOpenWithdraws : Prop :=
  ∀ (s : State) (p : Nat) (k : Pocket), s.pockets.length = 40 → s.pockets[p]? = some k →
    let sensed (pins : Pins) : Prop :=
      pins = { s.pins with pockets := { s.pins.pockets with drawersIn := pins.pockets.drawersIn } } ∧ ∀ q,
        pins.pockets.drawersIn.getLsbD q = (if q = p then false else s.pins.pockets.drawersIn.getLsbD q)
    let taken : Prop := p < towerSize s ∧ (k.state = .available ∨ k.state = .full ∨ k.state = .unverified)
    (taken →
      ∃ t k', exec (.drawerOpen p) s = .next t ∧ sensed t.pins ∧ t.pockets[p]? = some k' ∧
        k' = { k with state := .withdrawn, remembered := some k.state } ∧ t.stacker = s.stacker ∧ t.path = s.path ∧
        (let told := notifyPlain { s with pins := t.pins, pockets := s.pockets.set p k' } (.pocketWithdrawn p k.state k.fill)
         let turned := if s.tower.phase = .blocked then retry told else retarget told p
         let targeted (z : Session) : Prop := s.session = some z ∧ z.towerTaken = true ∧ z.target = p
         (∀ z, targeted z → t = settle (endSession turned z .drawer)) ∧ ((∀ z, ¬targeted z) → t = settle turned)) ∧
        (s.still → t = notifyPlain { s with pins := t.pins, pockets := s.pockets.set p k' }
          (.pocketWithdrawn p k.state k.fill))) ∧
    (∀ g c o before rest, taken → active s = true → s.tower.phase = .carrying → s.tower.carried = some g →
      s.tower.charge = some c → s.tower.target = some o → o.dest = .pocket p → s.tower.chain = before ++ o :: rest →
      o ∉ before → (∀ z, s.session = some z → z.towerTaken = false) →
      let eligible (x : ChainOption) : Prop := match x.dest with
        | .stacker => s.stacker.fill + c ≤ 30000
        | .pocket q => q ≠ p ∧ q < towerSize s ∧ (pocketOf s q).state = .available ∧
            (pocketOf s q).fill + c ≤ capacityOf s q
      ∃ t, exec (.drawerOpen p) s = .next t ∧
        (∀ skipped x after, rest = skipped ++ x :: after → eligible x → (∀ y ∈ skipped, ¬eligible y) →
          t.tower = { s.tower with target := some x } ∧ t.timers.delivery = some 60000) ∧
        ((∀ x ∈ rest, ¬eligible x) →
          t.tower = { s.tower with phase := .blocked, target := none } ∧ t.timers.delivery = none)) ∧
    (towerSize s ≤ p ∨ k.state = .disabled ∨ k.state = .withdrawn →
      ∃ pins, sensed pins ∧ exec (.drawerOpen p) s = .next { s with pins := pins })

/-- R120, R121: a drawer-close event of a WITHDRAWN pocket: over an empty floor it starts afresh, over another it returns to
its remembered state with its fill, set count and last side; a floor-empty event of an UNVERIFIED pocket starts it
afresh. Each sends POCKET-RETURNED, after the POCKET-FULL of a pocket that has become FULL again (R118; the order is the
model's choice, notes/assumptions/36.md), and a BLOCKED tower retries (R112). A pocket in any other state ignores the event
but for the sensed lines.
No other pocket changes in a part that is still. The model's readings are that the part looks again after the event
(`settle`, notes/assumptions/16.md), that the record keeps the floor reading (notes/assumptions/18.md), and UNVERIFIED for a
WITHDRAWN pocket without a remembered state, which no run reaches (notes/assumptions/26.md). -/
def Obligations.DrawerCloseAndFloorEmpty : Prop :=
  ∀ (s : State) (p : Nat) (k : Pocket) (empty : Bool), s.pockets.length = 40 → s.pockets[p]? = some k →
    let fresh : Pocket :=
      { state := .available, remembered := none, fill := 0, setCount := 0, side := .right, floorEmpty := true }
    let kept : Pocket := { k with state := k.remembered.getD .unverified, remembered := none, floorEmpty := false }
    let back (pins : Pins) (k' : Pocket) : State := { s with pins := pins, pockets := s.pockets.set p k' }
    let refilled (w : State) (k' : Pocket) : State :=
      if k'.state = .full then notifyPlain w (.pocketFull p k'.fill (capacityOf s p) none) else w
    let returned (pins : Pins) (k' : Pocket) : State :=
      notifyPlain (refilled (back pins k') k') (.pocketReturned p k'.state k'.fill)
    let sensed (pins : Pins) (drawer floor : Bool) : Prop :=
      pins = { s.pins with pockets := pins.pockets } ∧ ∀ q,
        pins.pockets.drawersIn.getLsbD q = (if q = p then drawer else s.pins.pockets.drawersIn.getLsbD q) ∧
        pins.pockets.floorsEmpty.getLsbD q = (if q = p then floor else s.pins.pockets.floorsEmpty.getLsbD q)
    (p < towerSize s → k.state = .withdrawn →
      ∃ pins t k', sensed pins true empty ∧ k' = (if empty = true then fresh else kept) ∧
        exec (.drawerClose p empty) s = .next t ∧ t = settle (retry (returned pins k')) ∧ (s.still → t = returned pins k')) ∧
    (towerSize s ≤ p ∨ k.state ≠ .withdrawn →
      ∃ pins, sensed pins true empty ∧ exec (.drawerClose p empty) s = .next { s with pins := pins }) ∧
    (p < towerSize s → k.state = .unverified →
      ∃ pins t, sensed pins (s.pins.pockets.drawersIn.getLsbD p) true ∧
        exec (.floorEmpty p) s = .next t ∧ t = settle (retry (returned pins fresh)) ∧
        (s.still → t = returned pins fresh)) ∧
    (towerSize s ≤ p ∨ k.state ≠ .unverified →
      ∃ pins, sensed pins (s.pins.pockets.drawersIn.getLsbD p) true ∧
        exec (.floorEmpty p) s = .next { s with pins := pins })

/-! ## Insert session (R129 to R134) -/

/-- R129, R133: a WAITING session takes an IDLE tower: with an eligible pocket, the seat's before the exception pocket
(R127), the tower is HELD and the positioning timer runs; with none the session ends with NO-POCKET and the tower stays IDLE
(the seat's pocket is formed again though a smaller class may have dropped the seat, notes/assumptions/41.md). At the
insert-position event the session is ACTIVE under the first-sheet timer, and INSERT-READY is sent. The home event of a HELD
tower that no session holds stops
the delivery timer and makes the tower IDLE. Both events are ignored at any other time. What else
the part looks at after the home event (`settle`) is the model's reading (notes/assumptions/16.md). -/
def Obligations.SessionTakesAndFreesTheTower : Prop :=
  (∀ (s : State) (z : Session) (j : Job), s.session = some z → z.phase = .waiting → z.towerTaken = false →
    findJob s z.job = some j →
    (s.tower.phase ≠ .idle → sessionTakesTower s = s) ∧
    (s.tower.phase = .idle →
      let own := (classOf s j.cls).pocketBase + ((classOf s j.cls).seatEntry z.seat).offset
      let takes (p : Nat) : Prop := p < towerSize s ∧ (pocketOf s p).state = .available ∧
        (pocketOf s p).fill + thickness s z.grade ≤ capacityOf s p
      let taken (p : Nat) (place : Place) : State := { s with
        session := some { z with target := p, place := place, towerTaken := true, timer := some (.positioning, 60000) }
        tower := { s.tower with phase := .held } }
      (takes own → sessionTakesTower s = taken own .seat) ∧
      (¬takes own → takes j.exceptionPocket → sessionTakesTower s = taken j.exceptionPocket .exception) ∧
      (¬takes own → ¬takes j.exceptionPocket →
        (sessionTakesTower s).session = none ∧ (sessionTakesTower s).tower = s.tower ∧
        sessionTakesTower s = endSession s z .noPocket))) ∧
  (∀ s : State, (∀ z, s.session = some z → z.phase = .active ∨ z.towerTaken = true) → sessionTakesTower s = s) ∧
  ∀ s : State,
    (∀ z, s.session = some z → z.phase = .waiting → z.towerTaken = true →
      let z' : Session := { z with phase := .active, timer := some (.firstSheet, 600000) }
      exec .insertPosition s = .next (notify { s with session := some z' } z.replyTag z.job
        (.insertReady z.seat z.target z.place (pocketOf s z.target).fill z.expected))) ∧
    ((∀ z, s.session = some z → z.phase = .active ∨ z.towerTaken = false) → exec .insertPosition s = .next s) ∧
    (let returning := s.tower.phase = .held ∧ (∀ z, s.session = some z → z.towerTaken = false)
     (returning → exec .homeEvent s = .next (settle
       { s with tower := { s.tower with phase := .idle }, timers := { s.timers with delivery := none } })) ∧
     (¬returning → exec .homeEvent s = .next s))

/-- R131: a sheet at the insert slot of an ACTIVE session: it is counted, its thickness is added to the target's fill
within its capacity, and the between-sheets timer starts; the sheet that brings the count to the expected one ends the
session with COUNT-REACHED. A pocket that this makes FULL sends POCKET-FULL with the session's header. With no ACTIVE session
the event is ignored. What the part looks at after it (`settle`) is the model's reading (notes/assumptions/16.md). -/
def Obligations.InsertedSheetIsCounted : Prop :=
  ∀ s : State,
    (∀ z k, s.session = some z → z.phase = .active → z.towerTaken = true → s.pockets[z.target]? = some k →
      ∃ t k', exec .siEvent s = .next t ∧ t.pockets[z.target]? = some k' ∧
        k'.fill = min (capacityOf s z.target) (k.fill + thickness s z.grade) ∧
        k'.setCount = k.setCount ∧ k'.side = k.side ∧ k'.remembered = k.remembered ∧
        (k.state ≠ .available → k'.state = k.state) ∧
        (k.state = .available →
          k'.state = if capacityOf s z.target ≤ k.fill + thickness s z.grade then .full else .available) ∧
        (∀ m, m ≠ z.target → t.pockets[m]? = s.pockets[m]?) ∧
        (let z' : Session := { z with inserted := z.inserted + 1, timer := some (.betweenSheets, 200000) }
         let counted : State := { s with session := some z', pockets := s.pockets.set z.target k' }
         let told := if k.state = .available ∧ capacityOf s z.target ≤ k.fill + thickness s z.grade
           then notify counted z.replyTag z.job (.pocketFull z.target k'.fill (capacityOf s z.target) none) else counted
         t = settle (if z.inserted + 1 = z.expected then endSession told z' .countReached else told)) ∧
        (z.inserted + 1 = z.expected → t.session = none) ∧
        (z.inserted + 1 ≠ z.expected →
          t.session = some { z with inserted := z.inserted + 1, timer := some (.betweenSheets, 200000) })) ∧
    ((∀ z, s.session = some z → z.phase = .waiting) → exec .siEvent s = .next s)

/-- R132, R133: INSDONE and the expiries of the first-sheet and between-sheets timers end the session that holds the
tower, with their end causes; the elevator returns under a delivery timer of 6000 ms. INSDONE is ignored in a WAITING session
and in none, and so is the expiry of a timer that does not run (the model's reading, notes/assumptions/15.md). R133, R134: any
end of a session frees a tower it held (at once for FAULT, and otherwise by the elevator's return), sends INSERT-DONE and
tells the job list, and CLOSING jobs
that nothing holds are removed. What the part looks at after it (`settle`) is the model's reading (notes/assumptions/16.md). -/
def Obligations.SessionsEnd : Prop :=
  (∀ s : State, ((∀ z, s.session = some z → z.phase = .waiting) → exec .insDone s = .next s) ∧
    ((∀ z n, s.session = some z → z.timer ≠ some (.firstSheet, n)) → exec .firstSheetTimerExpiry s = .next s) ∧
    ((∀ z n, s.session = some z → z.timer ≠ some (.betweenSheets, n)) → exec .betweenSheetsTimerExpiry s = .next s)) ∧
  ∀ (s : State) (z : Session), s.session = some z → z.phase = .active → z.towerTaken = true →
    s.tower.phase = .held →
    let ends (c : Instr) (cause : EndCause) : Prop :=
      ∃ t, exec c s = .next t ∧ s.SameBesides t ∧ t.session = none ∧ t.tower = s.tower ∧
        t.timers.delivery = some 60000 ∧ t = settle (endSession s z cause) ∧
        (active s = false → t = removeClosed (accountSession
          (notify { s with session := none, timers := { s.timers with delivery := some 60000 } } z.replyTag z.job
            (.insertDone z.seat z.target z.place z.expected z.inserted cause (pocketOf s z.target).fill))
          z.job z.seat z.inserted))
    (∀ (w : State) (y : Session) (cause : EndCause),
      let freed : State :=
        if y.towerTaken = false then { w with session := none }
        else if cause = .fault then { w with session := none, tower := { w.tower with phase := .idle } }
        else { w with session := none, timers := { w.timers with delivery := some 60000 } }
      endSession w y cause = removeClosed (accountSession
        (notify freed y.replyTag y.job
          (.insertDone y.seat y.target y.place y.expected y.inserted cause (pocketOf w y.target).fill))
        y.job y.seat y.inserted)) ∧
    ends .insDone .insDone ∧
    (∀ n, z.timer = some (.firstSheet, n) → ends .firstSheetTimerExpiry .noFirstSheet) ∧
    (∀ n, z.timer = some (.betweenSheets, n) → ends .betweenSheetsTimerExpiry .sheetGap)

/-- R15, R18: what the end of a session does to the seat: with a sheet inserted, LATE unless the seat is live, and off the
reprint list; with none, nothing. The four counts stay. -/
def Obligations.EndedSessionIsAccounted : Prop :=
  ∀ (s : State) (j : Job) (seat inserted : Nat), (s.jobs.map (·.number)).Nodup → j ∈ s.jobs → 1 ≤ seat →
    seat ≤ j.seats.length →
    (inserted = 0 → accountSession s j.number seat inserted = s) ∧
    (1 ≤ inserted → ∃ j', findJob (accountSession s j.number seat inserted) j.number = some j' ∧
      j' = { j with
        reprint := j.reprint.filter (fun x => x ≠ seat)
        seats := if seatLive s j.number seat = true then j.seats else j.seats.set (seat - 1) .late })

/-! ## Run controller (R16, R123, R163, R169) -/

/-- R169, R146, R123: a power-on with the retention-valid flag clear: the working state is cleared and the retained region
is at its defaults, the pockets set by their sensors. A tray or a shelf that then reads occupied raises TRAY-OCCUPIED or
SHELF-OCCUPIED, the second as a further fault after the first, and the part is FAULTED. That the waiting commands stay is
the model's choice (notes/assumptions/29.md), and so is that a pocket out of the tower reads empty
(notes/assumptions/18.md). -/
def Obligations.PowerOnWithoutRetention : Prop :=
  ∀ (s : State) (pins : Pins), s.retentionValid = false →
    let detail : FaultDetail :=
      { cause := if pins.trayOccupied = true then .trayOccupied else .shelfOccupied
        sensor := none, link := none, tag := none }
    ∃ u, exec (.powerOn pins) s = .next
        (if pins.trayOccupied = true ∨ pins.shelfOccupied = true then
          notifyPlain { u with
            run := .faulted
            fault := { first := some detail
                       further := if pins.trayOccupied = true ∧ pins.shelfOccupied = true then 1 else 0 } } (.fault detail)
        else u) ∧
      u = { State.reset with
        straps := { address := pins.address, linkBPresent := pins.linkBPresent, tower40 := pins.tower40 }
        pins := pins, pockets := u.pockets, races := s.races, pending := s.pending } ∧
      u.run = .standby ∧ u.fault = { first := none, further := 0 } ∧ u.retentionValid = false ∧ u.jobs = [] ∧
      u.grant = none ∧ u.session = none ∧ u.tray = { phase := .empty, held := none, close := none } ∧
      u.shelf = { motion := .idle, stack := [] } ∧
      u.stapler = { phase := .ready, requestWaiting := false, owner := none, cartridge := 0 } ∧
      u.tower = { phase := .idle, carried := none, charge := none, chain := [], target := none } ∧
      u.stacker = { fill := 0, side := .right } ∧
      u.path = { timer := 0, entries := [], gate := .purgeSide, purgeCount := 0 } ∧
      u.timers = { warmup := none, feedWindow := none, stall := none, motion := none, completion := none, recovery := none
                   eject := none, delivery := none } ∧
      (∀ l, u.links.get l =
          { rx := .hunt, fifo := [], lane := none, queue := [], sending := none, line := [], framingErrors := 0
            checkErrors := 0, overruns := 0, dropped := 0 } ∧
        u.feeds.get l = { entries := [], capture := { count := 0, held := none } }) ∧
      (let fresh {α : Type} (x : α) : Entry α := { active := x, pending := none, marked := false, refs := 0 }
       u.tables =
        { classes := List.replicate 24 (fresh
            { seatCount := 0, pocketBase := 0, seats := List.replicate 40 { offset := 0, withheld := false } })
          plans := List.replicate 16 (fresh { parts := [], stapleMode := .none, stapleRequired := false, parkPermitted := false })
          grades := [10, 12, 15, 19, 8, 25, 10, 10].map fresh
          pockets := List.replicate 40 (fresh { capacity := 3000, enabled := true })
          transport := fresh { speed := 400, feedWindow := 1000, stall := 8, noticeLink := .a } }) ∧
      u.pockets.length = 40 ∧
      ∀ p k, u.pockets[p]? = some k →
        k.fill = 0 ∧ k.setCount = 0 ∧ k.side = .right ∧
        ((if pins.tower40 then 40 else 24) ≤ p → k.state = .available ∧ k.remembered = none ∧ k.floorEmpty = true) ∧
        (p < (if pins.tower40 then 40 else 24) →
          k.floorEmpty = pins.pockets.floorsEmpty.getLsbD p ∧
          (pins.pockets.drawersIn.getLsbD p = true → k.remembered = none) ∧
          (pins.pockets.drawersIn.getLsbD p = true → pins.pockets.floorsEmpty.getLsbD p = true →
            k.state = .available) ∧
          (pins.pockets.drawersIn.getLsbD p = true → pins.pockets.floorsEmpty.getLsbD p = false →
            k.state = .unverified) ∧
          (pins.pockets.drawersIn.getLsbD p = false → k.state = .withdrawn ∧ k.remembered =
            some (if pins.pockets.floorsEmpty.getLsbD p then .available else .unverified)))

/-- R169, R16, R136, R146, R123: a power-on with the flag set, and a reset by the reset line whatever the flag holds: the
working state is cleared and the retained region is kept: the tables with every reference count 0 and the marked entries
applied, every seat found IN-PROGRESS LOST, counted and on its job's reprint list (in ascending seat number, the model's
choice, notes/assumptions/39.md), every CLOSING job gone, and the pocket records by their drawers. A tray or a shelf that then
reads occupied raises TRAY-OCCUPIED or SHELF-OCCUPIED, the second as a further fault after the first. The receivers are in
HUNT, and FIFOs, lanes, outbound queues, transmitters and counts are cleared before the JOB-CLOSED of each CLOSING job (R20) and
the COMMIT-DONE of the marked entries (R146) are queued; with none of either the links are those of a reset. That the waiting
commands stay is the model's choice (notes/assumptions/29.md), and so is the floor reading a record keeps
(notes/assumptions/18.md). -/
def Obligations.KeptStarts : Prop :=
  ∀ (s : State) (pins : Pins), s.Bounded →
    let size : Nat := if pins.tower40 = true then 40 else 24
    let drawer (p : Nat) : Bool := pins.pockets.drawersIn.getLsbD p
    let floor (p : Nat) : Bool := pins.pockets.floorsEmpty.getLsbD p
    let fresh : Pocket :=
      { state := .available, remembered := none, fill := 0, setCount := 0, side := .right, floorEmpty := true }
    let detail : FaultDetail :=
      { cause := if pins.trayOccupied = true then .trayOccupied else .shelfOccupied
        sensor := none, link := none, tag := none }
    let found (j : Job) : List Nat :=
      ((List.range j.seats.length).filter (fun i => j.seats[i]? == some .inProgress)).map (· + 1)
    let quiet : LinkPort :=
      { rx := .hunt, fifo := [], lane := none, queue := [], sending := none, line := [], framingErrors := 0
        checkErrors := 0, overruns := 0, dropped := 0 }
    let kept : State := { State.reset with
      retentionValid := s.retentionValid
      straps := { address := pins.address, linkBPresent := pins.linkBPresent, tower40 := pins.tower40 }
      pins := pins, links := { a := quiet, b := quiet }, pockets := s.pockets, stacker := s.stacker
      stapler := { phase := .ready, requestWaiting := false, owner := none, cartridge := s.stapler.cartridge }
      path := { timer := 0, entries := [], gate := .purgeSide, purgeCount := s.path.purgeCount }
      races := s.races, pending := s.pending
      tables := { s.tables with
        classes := s.tables.classes.map (fun e => { e with refs := 0 })
        plans := s.tables.plans.map (fun e => { e with refs := 0 }) }
      jobs := s.jobs.map (fun j => { j with
        lost := min 65535 (j.lost + (found j).length)
        seats := j.seats.map (fun st => if st = .inProgress then .lost else st)
        reprint := j.reprint ++ (found j).filter (fun n => !j.reprint.contains n) }) }
    ∃ t u, exec (.resetLine pins) s = .next t ∧ u = { applyReleased (removeClosed kept) with pockets := u.pockets } ∧
      ((∀ j ∈ s.jobs, j.phase = .opened) → s.tables.anyMarked = false → u.links = { a := quiet, b := quiet }) ∧
      (s.retentionValid = true → exec (.powerOn pins) s = .next t) ∧
      t = (if pins.trayOccupied = true ∨ pins.shelfOccupied = true then
          notifyPlain { u with
            run := .faulted
            fault := { first := some detail
                       further := if pins.trayOccupied = true ∧ pins.shelfOccupied = true then 1 else 0 } } (.fault detail)
        else u) ∧
      u = { State.reset with
        retentionValid := s.retentionValid
        straps := { address := pins.address, linkBPresent := pins.linkBPresent, tower40 := pins.tower40 }
        pins := pins, links := u.links, pockets := u.pockets, jobs := u.jobs, tables := u.tables, stacker := s.stacker
        stapler := { phase := .ready, requestWaiting := false, owner := none, cartridge := s.stapler.cartridge }
        path := { timer := 0, entries := [], gate := .purgeSide, purgeCount := s.path.purgeCount }
        races := s.races, pending := s.pending } ∧
      u.tables =
        { classes := s.tables.classes.map (fun e => Entry.committed false { e with refs := 0 })
          plans := s.tables.plans.map (fun e => Entry.committed false { e with refs := 0 })
          grades := s.tables.grades.map (Entry.committed false)
          pockets := s.tables.pockets.map (Entry.committed false)
          transport := s.tables.transport.committed false } ∧
      (∀ p k, s.pockets[p]? = some k →
        (size ≤ p ∨ k.state = .disabled → u.pockets[p]? = some k) ∧
        (p < size → k.state = .available ∨ k.state = .full ∨ k.state = .unverified →
          u.pockets[p]? = some (if drawer p = true then k
            else { k with state := .withdrawn, remembered := some k.state })) ∧
        (p < size → k.state = .withdrawn →
          u.pockets[p]? = some (
            if drawer p = false then k
            else if floor p = true then fresh
            else { k with state := k.remembered.getD .unverified, remembered := none, floorEmpty := false }))) ∧
      u.jobs = (s.jobs.filter (fun j => j.phase == .opened)).map (fun j =>
        { j with
          lost := min 65535 (j.lost + (found j).length)
          seats := j.seats.map (fun st => if st = .inProgress then .lost else st)
          reprint := j.reprint ++ (found j).filter (fun n => !j.reprint.contains n) })
end

