-- ==== Sys2Proof/Laws/State.lean ====
section
/-!
SUPPORT. Laws/State.lean: one lemma per field per update of the state, each true by unfolding the update.
-/
namespace Sys2Proof.Machine

variable (s : State)

/-! `withPending` -/

@[simp] theorem State.withPending_run (rest : List Instr) : (s.withPending rest).run = s.run := rfl
@[simp] theorem State.withPending_fault (rest : List Instr) : (s.withPending rest).fault = s.fault := rfl
@[simp] theorem State.withPending_retentionValid (rest : List Instr) : (s.withPending rest).retentionValid = s.retentionValid := rfl
@[simp] theorem State.withPending_straps (rest : List Instr) : (s.withPending rest).straps = s.straps := rfl
@[simp] theorem State.withPending_pins (rest : List Instr) : (s.withPending rest).pins = s.pins := rfl
@[simp] theorem State.withPending_links (rest : List Instr) : (s.withPending rest).links = s.links := rfl
@[simp] theorem State.withPending_feeds (rest : List Instr) : (s.withPending rest).feeds = s.feeds := rfl
@[simp] theorem State.withPending_grant (rest : List Instr) : (s.withPending rest).grant = s.grant := rfl
@[simp] theorem State.withPending_tray (rest : List Instr) : (s.withPending rest).tray = s.tray := rfl
@[simp] theorem State.withPending_shelf (rest : List Instr) : (s.withPending rest).shelf = s.shelf := rfl
@[simp] theorem State.withPending_stapler (rest : List Instr) : (s.withPending rest).stapler = s.stapler := rfl
@[simp] theorem State.withPending_tower (rest : List Instr) : (s.withPending rest).tower = s.tower := rfl
@[simp] theorem State.withPending_stacker (rest : List Instr) : (s.withPending rest).stacker = s.stacker := rfl
@[simp] theorem State.withPending_pockets (rest : List Instr) : (s.withPending rest).pockets = s.pockets := rfl
@[simp] theorem State.withPending_session (rest : List Instr) : (s.withPending rest).session = s.session := rfl
@[simp] theorem State.withPending_jobs (rest : List Instr) : (s.withPending rest).jobs = s.jobs := rfl
@[simp] theorem State.withPending_tables (rest : List Instr) : (s.withPending rest).tables = s.tables := rfl
@[simp] theorem State.withPending_path (rest : List Instr) : (s.withPending rest).path = s.path := rfl
@[simp] theorem State.withPending_timers (rest : List Instr) : (s.withPending rest).timers = s.timers := rfl
@[simp] theorem State.withPending_races (rest : List Instr) : (s.withPending rest).races = s.races := rfl
@[simp] theorem State.withPending_pending (rest : List Instr) : (s.withPending rest).pending = rest := rfl

/-! `raced` -/

@[simp] theorem State.raced_run : (s.raced).run = s.run := rfl
@[simp] theorem State.raced_fault : (s.raced).fault = s.fault := rfl
@[simp] theorem State.raced_retentionValid : (s.raced).retentionValid = s.retentionValid := rfl
@[simp] theorem State.raced_straps : (s.raced).straps = s.straps := rfl
@[simp] theorem State.raced_pins : (s.raced).pins = s.pins := rfl
@[simp] theorem State.raced_links : (s.raced).links = s.links := rfl
@[simp] theorem State.raced_feeds : (s.raced).feeds = s.feeds := rfl
@[simp] theorem State.raced_grant : (s.raced).grant = s.grant := rfl
@[simp] theorem State.raced_tray : (s.raced).tray = s.tray := rfl
@[simp] theorem State.raced_shelf : (s.raced).shelf = s.shelf := rfl
@[simp] theorem State.raced_stapler : (s.raced).stapler = s.stapler := rfl
@[simp] theorem State.raced_tower : (s.raced).tower = s.tower := rfl
@[simp] theorem State.raced_stacker : (s.raced).stacker = s.stacker := rfl
@[simp] theorem State.raced_pockets : (s.raced).pockets = s.pockets := rfl
@[simp] theorem State.raced_session : (s.raced).session = s.session := rfl
@[simp] theorem State.raced_jobs : (s.raced).jobs = s.jobs := rfl
@[simp] theorem State.raced_tables : (s.raced).tables = s.tables := rfl
@[simp] theorem State.raced_path : (s.raced).path = s.path := rfl
@[simp] theorem State.raced_timers : (s.raced).timers = s.timers := rfl
@[simp] theorem State.raced_races : (s.raced).races = s.races + 1 := rfl
@[simp] theorem State.raced_pending : (s.raced).pending = s.pending := rfl

/-! `elapse` -/

@[simp] theorem elapse_run (n : Nat) : (elapse n s).run = s.run := rfl
@[simp] theorem elapse_fault (n : Nat) : (elapse n s).fault = s.fault := rfl
@[simp] theorem elapse_retentionValid (n : Nat) : (elapse n s).retentionValid = s.retentionValid := rfl
@[simp] theorem elapse_straps (n : Nat) : (elapse n s).straps = s.straps := rfl
@[simp] theorem elapse_pins (n : Nat) : (elapse n s).pins = s.pins := rfl
@[simp] theorem elapse_links (n : Nat) : (elapse n s).links = s.links := rfl
@[simp] theorem elapse_feeds (n : Nat) : (elapse n s).feeds = s.feeds := rfl
@[simp] theorem elapse_grant (n : Nat) : (elapse n s).grant = s.grant := rfl
@[simp] theorem elapse_tray (n : Nat) : (elapse n s).tray = s.tray := rfl
@[simp] theorem elapse_shelf (n : Nat) : (elapse n s).shelf = s.shelf := rfl
@[simp] theorem elapse_stapler (n : Nat) : (elapse n s).stapler = s.stapler := rfl
@[simp] theorem elapse_tower (n : Nat) : (elapse n s).tower = s.tower := rfl
@[simp] theorem elapse_stacker (n : Nat) : (elapse n s).stacker = s.stacker := rfl
@[simp] theorem elapse_pockets (n : Nat) : (elapse n s).pockets = s.pockets := rfl
@[simp] theorem elapse_jobs (n : Nat) : (elapse n s).jobs = s.jobs := rfl
@[simp] theorem elapse_tables (n : Nat) : (elapse n s).tables = s.tables := rfl
@[simp] theorem elapse_timers (n : Nat) : (elapse n s).timers = s.timers.elapse n := rfl
@[simp] theorem elapse_races (n : Nat) : (elapse n s).races = s.races := rfl
@[simp] theorem elapse_pending (n : Nat) : (elapse n s).pending = s.pending := rfl

/-! `changeJob` -/

@[simp] theorem changeJob_run (n : Nat) (f : Job → Job) : (changeJob s n f).run = s.run := rfl
@[simp] theorem changeJob_fault (n : Nat) (f : Job → Job) : (changeJob s n f).fault = s.fault := rfl
@[simp] theorem changeJob_retentionValid (n : Nat) (f : Job → Job) : (changeJob s n f).retentionValid = s.retentionValid := rfl
@[simp] theorem changeJob_straps (n : Nat) (f : Job → Job) : (changeJob s n f).straps = s.straps := rfl
@[simp] theorem changeJob_pins (n : Nat) (f : Job → Job) : (changeJob s n f).pins = s.pins := rfl
@[simp] theorem changeJob_links (n : Nat) (f : Job → Job) : (changeJob s n f).links = s.links := rfl
@[simp] theorem changeJob_feeds (n : Nat) (f : Job → Job) : (changeJob s n f).feeds = s.feeds := rfl
@[simp] theorem changeJob_grant (n : Nat) (f : Job → Job) : (changeJob s n f).grant = s.grant := rfl
@[simp] theorem changeJob_tray (n : Nat) (f : Job → Job) : (changeJob s n f).tray = s.tray := rfl
@[simp] theorem changeJob_shelf (n : Nat) (f : Job → Job) : (changeJob s n f).shelf = s.shelf := rfl
@[simp] theorem changeJob_stapler (n : Nat) (f : Job → Job) : (changeJob s n f).stapler = s.stapler := rfl
@[simp] theorem changeJob_tower (n : Nat) (f : Job → Job) : (changeJob s n f).tower = s.tower := rfl
@[simp] theorem changeJob_stacker (n : Nat) (f : Job → Job) : (changeJob s n f).stacker = s.stacker := rfl
@[simp] theorem changeJob_pockets (n : Nat) (f : Job → Job) : (changeJob s n f).pockets = s.pockets := rfl
@[simp] theorem changeJob_session (n : Nat) (f : Job → Job) : (changeJob s n f).session = s.session := rfl
@[simp] theorem changeJob_jobs (n : Nat) (f : Job → Job) : (changeJob s n f).jobs = s.jobs.map (fun j => if j.number == n then f j else j) := rfl
@[simp] theorem changeJob_tables (n : Nat) (f : Job → Job) : (changeJob s n f).tables = s.tables := rfl
@[simp] theorem changeJob_path (n : Nat) (f : Job → Job) : (changeJob s n f).path = s.path := rfl
@[simp] theorem changeJob_timers (n : Nat) (f : Job → Job) : (changeJob s n f).timers = s.timers := rfl
@[simp] theorem changeJob_races (n : Nat) (f : Job → Job) : (changeJob s n f).races = s.races := rfl
@[simp] theorem changeJob_pending (n : Nat) (f : Job → Job) : (changeJob s n f).pending = s.pending := rfl

/-! `dropJob` -/

@[simp] theorem dropJob_run (n : Nat) : (dropJob s n).run = s.run := rfl
@[simp] theorem dropJob_fault (n : Nat) : (dropJob s n).fault = s.fault := rfl
@[simp] theorem dropJob_retentionValid (n : Nat) : (dropJob s n).retentionValid = s.retentionValid := rfl
@[simp] theorem dropJob_straps (n : Nat) : (dropJob s n).straps = s.straps := rfl
@[simp] theorem dropJob_pins (n : Nat) : (dropJob s n).pins = s.pins := rfl
@[simp] theorem dropJob_links (n : Nat) : (dropJob s n).links = s.links := rfl
@[simp] theorem dropJob_feeds (n : Nat) : (dropJob s n).feeds = s.feeds := rfl
@[simp] theorem dropJob_grant (n : Nat) : (dropJob s n).grant = s.grant := rfl
@[simp] theorem dropJob_tray (n : Nat) : (dropJob s n).tray = s.tray := rfl
@[simp] theorem dropJob_shelf (n : Nat) : (dropJob s n).shelf = s.shelf := rfl
@[simp] theorem dropJob_stapler (n : Nat) : (dropJob s n).stapler = s.stapler := rfl
@[simp] theorem dropJob_tower (n : Nat) : (dropJob s n).tower = s.tower := rfl
@[simp] theorem dropJob_stacker (n : Nat) : (dropJob s n).stacker = s.stacker := rfl
@[simp] theorem dropJob_pockets (n : Nat) : (dropJob s n).pockets = s.pockets := rfl
@[simp] theorem dropJob_session (n : Nat) : (dropJob s n).session = s.session := rfl
@[simp] theorem dropJob_jobs (n : Nat) : (dropJob s n).jobs = s.jobs.filter (fun j => j.number != n) := rfl
@[simp] theorem dropJob_tables (n : Nat) : (dropJob s n).tables = s.tables := rfl
@[simp] theorem dropJob_path (n : Nat) : (dropJob s n).path = s.path := rfl
@[simp] theorem dropJob_timers (n : Nat) : (dropJob s n).timers = s.timers := rfl
@[simp] theorem dropJob_races (n : Nat) : (dropJob s n).races = s.races := rfl
@[simp] theorem dropJob_pending (n : Nat) : (dropJob s n).pending = s.pending := rfl

/-! `changePocket` -/

@[simp] theorem changePocket_run (p : Nat) (f : Pocket → Pocket) : (changePocket s p f).run = s.run := rfl
@[simp] theorem changePocket_fault (p : Nat) (f : Pocket → Pocket) : (changePocket s p f).fault = s.fault := rfl
@[simp] theorem changePocket_retentionValid (p : Nat) (f : Pocket → Pocket) : (changePocket s p f).retentionValid = s.retentionValid := rfl
@[simp] theorem changePocket_straps (p : Nat) (f : Pocket → Pocket) : (changePocket s p f).straps = s.straps := rfl
@[simp] theorem changePocket_pins (p : Nat) (f : Pocket → Pocket) : (changePocket s p f).pins = s.pins := rfl
@[simp] theorem changePocket_links (p : Nat) (f : Pocket → Pocket) : (changePocket s p f).links = s.links := rfl
@[simp] theorem changePocket_feeds (p : Nat) (f : Pocket → Pocket) : (changePocket s p f).feeds = s.feeds := rfl
@[simp] theorem changePocket_grant (p : Nat) (f : Pocket → Pocket) : (changePocket s p f).grant = s.grant := rfl
@[simp] theorem changePocket_tray (p : Nat) (f : Pocket → Pocket) : (changePocket s p f).tray = s.tray := rfl
@[simp] theorem changePocket_shelf (p : Nat) (f : Pocket → Pocket) : (changePocket s p f).shelf = s.shelf := rfl
@[simp] theorem changePocket_stapler (p : Nat) (f : Pocket → Pocket) : (changePocket s p f).stapler = s.stapler := rfl
@[simp] theorem changePocket_tower (p : Nat) (f : Pocket → Pocket) : (changePocket s p f).tower = s.tower := rfl
@[simp] theorem changePocket_stacker (p : Nat) (f : Pocket → Pocket) : (changePocket s p f).stacker = s.stacker := rfl
@[simp] theorem changePocket_pockets (p : Nat) (f : Pocket → Pocket) : (changePocket s p f).pockets = changeAt p f s.pockets := rfl
@[simp] theorem changePocket_session (p : Nat) (f : Pocket → Pocket) : (changePocket s p f).session = s.session := rfl
@[simp] theorem changePocket_jobs (p : Nat) (f : Pocket → Pocket) : (changePocket s p f).jobs = s.jobs := rfl
@[simp] theorem changePocket_tables (p : Nat) (f : Pocket → Pocket) : (changePocket s p f).tables = s.tables := rfl
@[simp] theorem changePocket_path (p : Nat) (f : Pocket → Pocket) : (changePocket s p f).path = s.path := rfl
@[simp] theorem changePocket_timers (p : Nat) (f : Pocket → Pocket) : (changePocket s p f).timers = s.timers := rfl
@[simp] theorem changePocket_races (p : Nat) (f : Pocket → Pocket) : (changePocket s p f).races = s.races := rfl
@[simp] theorem changePocket_pending (p : Nat) (f : Pocket → Pocket) : (changePocket s p f).pending = s.pending := rfl

/-! `changeHeld` -/

@[simp] theorem changeHeld_run (f : SetRec → SetRec) : (changeHeld s f).run = s.run := rfl
@[simp] theorem changeHeld_fault (f : SetRec → SetRec) : (changeHeld s f).fault = s.fault := rfl
@[simp] theorem changeHeld_retentionValid (f : SetRec → SetRec) : (changeHeld s f).retentionValid = s.retentionValid := rfl
@[simp] theorem changeHeld_straps (f : SetRec → SetRec) : (changeHeld s f).straps = s.straps := rfl
@[simp] theorem changeHeld_pins (f : SetRec → SetRec) : (changeHeld s f).pins = s.pins := rfl
@[simp] theorem changeHeld_links (f : SetRec → SetRec) : (changeHeld s f).links = s.links := rfl
@[simp] theorem changeHeld_feeds (f : SetRec → SetRec) : (changeHeld s f).feeds = s.feeds := rfl
@[simp] theorem changeHeld_grant (f : SetRec → SetRec) : (changeHeld s f).grant = s.grant := rfl
@[simp] theorem changeHeld_tray (f : SetRec → SetRec) : (changeHeld s f).tray = { s.tray with held := s.tray.held.map f } := rfl
@[simp] theorem changeHeld_shelf (f : SetRec → SetRec) : (changeHeld s f).shelf = s.shelf := rfl
@[simp] theorem changeHeld_stapler (f : SetRec → SetRec) : (changeHeld s f).stapler = s.stapler := rfl
@[simp] theorem changeHeld_tower (f : SetRec → SetRec) : (changeHeld s f).tower = s.tower := rfl
@[simp] theorem changeHeld_stacker (f : SetRec → SetRec) : (changeHeld s f).stacker = s.stacker := rfl
@[simp] theorem changeHeld_pockets (f : SetRec → SetRec) : (changeHeld s f).pockets = s.pockets := rfl
@[simp] theorem changeHeld_session (f : SetRec → SetRec) : (changeHeld s f).session = s.session := rfl
@[simp] theorem changeHeld_jobs (f : SetRec → SetRec) : (changeHeld s f).jobs = s.jobs := rfl
@[simp] theorem changeHeld_tables (f : SetRec → SetRec) : (changeHeld s f).tables = s.tables := rfl
@[simp] theorem changeHeld_path (f : SetRec → SetRec) : (changeHeld s f).path = s.path := rfl
@[simp] theorem changeHeld_timers (f : SetRec → SetRec) : (changeHeld s f).timers = s.timers := rfl
@[simp] theorem changeHeld_races (f : SetRec → SetRec) : (changeHeld s f).races = s.races := rfl
@[simp] theorem changeHeld_pending (f : SetRec → SetRec) : (changeHeld s f).pending = s.pending := rfl

/-! `changeFeed` -/

@[simp] theorem changeFeed_run (l : Link) (f : Feed → Feed) : (changeFeed s l f).run = s.run := rfl
@[simp] theorem changeFeed_fault (l : Link) (f : Feed → Feed) : (changeFeed s l f).fault = s.fault := rfl
@[simp] theorem changeFeed_retentionValid (l : Link) (f : Feed → Feed) : (changeFeed s l f).retentionValid = s.retentionValid := rfl
@[simp] theorem changeFeed_straps (l : Link) (f : Feed → Feed) : (changeFeed s l f).straps = s.straps := rfl
@[simp] theorem changeFeed_pins (l : Link) (f : Feed → Feed) : (changeFeed s l f).pins = s.pins := rfl
@[simp] theorem changeFeed_links (l : Link) (f : Feed → Feed) : (changeFeed s l f).links = s.links := rfl
@[simp] theorem changeFeed_feeds (l : Link) (f : Feed → Feed) : (changeFeed s l f).feeds = s.feeds.set l (f (s.feeds.get l)) := rfl
@[simp] theorem changeFeed_grant (l : Link) (f : Feed → Feed) : (changeFeed s l f).grant = s.grant := rfl
@[simp] theorem changeFeed_tray (l : Link) (f : Feed → Feed) : (changeFeed s l f).tray = s.tray := rfl
@[simp] theorem changeFeed_shelf (l : Link) (f : Feed → Feed) : (changeFeed s l f).shelf = s.shelf := rfl
@[simp] theorem changeFeed_stapler (l : Link) (f : Feed → Feed) : (changeFeed s l f).stapler = s.stapler := rfl
@[simp] theorem changeFeed_tower (l : Link) (f : Feed → Feed) : (changeFeed s l f).tower = s.tower := rfl
@[simp] theorem changeFeed_stacker (l : Link) (f : Feed → Feed) : (changeFeed s l f).stacker = s.stacker := rfl
@[simp] theorem changeFeed_pockets (l : Link) (f : Feed → Feed) : (changeFeed s l f).pockets = s.pockets := rfl
@[simp] theorem changeFeed_session (l : Link) (f : Feed → Feed) : (changeFeed s l f).session = s.session := rfl
@[simp] theorem changeFeed_jobs (l : Link) (f : Feed → Feed) : (changeFeed s l f).jobs = s.jobs := rfl
@[simp] theorem changeFeed_tables (l : Link) (f : Feed → Feed) : (changeFeed s l f).tables = s.tables := rfl
@[simp] theorem changeFeed_path (l : Link) (f : Feed → Feed) : (changeFeed s l f).path = s.path := rfl
@[simp] theorem changeFeed_timers (l : Link) (f : Feed → Feed) : (changeFeed s l f).timers = s.timers := rfl
@[simp] theorem changeFeed_races (l : Link) (f : Feed → Feed) : (changeFeed s l f).races = s.races := rfl
@[simp] theorem changeFeed_pending (l : Link) (f : Feed → Feed) : (changeFeed s l f).pending = s.pending := rfl

/-! `changePort` -/

@[simp] theorem changePort_run (l : Link) (f : LinkPort → LinkPort) : (changePort s l f).run = s.run := rfl
@[simp] theorem changePort_fault (l : Link) (f : LinkPort → LinkPort) : (changePort s l f).fault = s.fault := rfl
@[simp] theorem changePort_retentionValid (l : Link) (f : LinkPort → LinkPort) : (changePort s l f).retentionValid = s.retentionValid := rfl
@[simp] theorem changePort_straps (l : Link) (f : LinkPort → LinkPort) : (changePort s l f).straps = s.straps := rfl
@[simp] theorem changePort_pins (l : Link) (f : LinkPort → LinkPort) : (changePort s l f).pins = s.pins := rfl
@[simp] theorem changePort_links (l : Link) (f : LinkPort → LinkPort) : (changePort s l f).links = s.links.set l (f (s.links.get l)) := rfl
@[simp] theorem changePort_feeds (l : Link) (f : LinkPort → LinkPort) : (changePort s l f).feeds = s.feeds := rfl
@[simp] theorem changePort_grant (l : Link) (f : LinkPort → LinkPort) : (changePort s l f).grant = s.grant := rfl
@[simp] theorem changePort_tray (l : Link) (f : LinkPort → LinkPort) : (changePort s l f).tray = s.tray := rfl
@[simp] theorem changePort_shelf (l : Link) (f : LinkPort → LinkPort) : (changePort s l f).shelf = s.shelf := rfl
@[simp] theorem changePort_stapler (l : Link) (f : LinkPort → LinkPort) : (changePort s l f).stapler = s.stapler := rfl
@[simp] theorem changePort_tower (l : Link) (f : LinkPort → LinkPort) : (changePort s l f).tower = s.tower := rfl
@[simp] theorem changePort_stacker (l : Link) (f : LinkPort → LinkPort) : (changePort s l f).stacker = s.stacker := rfl
@[simp] theorem changePort_pockets (l : Link) (f : LinkPort → LinkPort) : (changePort s l f).pockets = s.pockets := rfl
@[simp] theorem changePort_session (l : Link) (f : LinkPort → LinkPort) : (changePort s l f).session = s.session := rfl
@[simp] theorem changePort_jobs (l : Link) (f : LinkPort → LinkPort) : (changePort s l f).jobs = s.jobs := rfl
@[simp] theorem changePort_tables (l : Link) (f : LinkPort → LinkPort) : (changePort s l f).tables = s.tables := rfl
@[simp] theorem changePort_path (l : Link) (f : LinkPort → LinkPort) : (changePort s l f).path = s.path := rfl
@[simp] theorem changePort_timers (l : Link) (f : LinkPort → LinkPort) : (changePort s l f).timers = s.timers := rfl
@[simp] theorem changePort_races (l : Link) (f : LinkPort → LinkPort) : (changePort s l f).races = s.races := rfl
@[simp] theorem changePort_pending (l : Link) (f : LinkPort → LinkPort) : (changePort s l f).pending = s.pending := rfl

/-! `changeRefs` -/

@[simp] theorem changeRefs_run (p c : Nat) (f : Nat → Nat) : (changeRefs s p c f).run = s.run := rfl
@[simp] theorem changeRefs_fault (p c : Nat) (f : Nat → Nat) : (changeRefs s p c f).fault = s.fault := rfl
@[simp] theorem changeRefs_retentionValid (p c : Nat) (f : Nat → Nat) : (changeRefs s p c f).retentionValid = s.retentionValid := rfl
@[simp] theorem changeRefs_straps (p c : Nat) (f : Nat → Nat) : (changeRefs s p c f).straps = s.straps := rfl
@[simp] theorem changeRefs_pins (p c : Nat) (f : Nat → Nat) : (changeRefs s p c f).pins = s.pins := rfl
@[simp] theorem changeRefs_links (p c : Nat) (f : Nat → Nat) : (changeRefs s p c f).links = s.links := rfl
@[simp] theorem changeRefs_feeds (p c : Nat) (f : Nat → Nat) : (changeRefs s p c f).feeds = s.feeds := rfl
@[simp] theorem changeRefs_grant (p c : Nat) (f : Nat → Nat) : (changeRefs s p c f).grant = s.grant := rfl
@[simp] theorem changeRefs_tray (p c : Nat) (f : Nat → Nat) : (changeRefs s p c f).tray = s.tray := rfl
@[simp] theorem changeRefs_shelf (p c : Nat) (f : Nat → Nat) : (changeRefs s p c f).shelf = s.shelf := rfl
@[simp] theorem changeRefs_stapler (p c : Nat) (f : Nat → Nat) : (changeRefs s p c f).stapler = s.stapler := rfl
@[simp] theorem changeRefs_tower (p c : Nat) (f : Nat → Nat) : (changeRefs s p c f).tower = s.tower := rfl
@[simp] theorem changeRefs_stacker (p c : Nat) (f : Nat → Nat) : (changeRefs s p c f).stacker = s.stacker := rfl
@[simp] theorem changeRefs_pockets (p c : Nat) (f : Nat → Nat) : (changeRefs s p c f).pockets = s.pockets := rfl
@[simp] theorem changeRefs_session (p c : Nat) (f : Nat → Nat) : (changeRefs s p c f).session = s.session := rfl
@[simp] theorem changeRefs_jobs (p c : Nat) (f : Nat → Nat) : (changeRefs s p c f).jobs = s.jobs := rfl
@[simp] theorem changeRefs_path (p c : Nat) (f : Nat → Nat) : (changeRefs s p c f).path = s.path := rfl
@[simp] theorem changeRefs_timers (p c : Nat) (f : Nat → Nat) : (changeRefs s p c f).timers = s.timers := rfl
@[simp] theorem changeRefs_races (p c : Nat) (f : Nat → Nat) : (changeRefs s p c f).races = s.races := rfl
@[simp] theorem changeRefs_pending (p c : Nat) (f : Nat → Nat) : (changeRefs s p c f).pending = s.pending := rfl

/-! `senseDrawer` -/

@[simp] theorem senseDrawer_run (p : Nat) (b : Bool) : (senseDrawer s p b).run = s.run := rfl
@[simp] theorem senseDrawer_fault (p : Nat) (b : Bool) : (senseDrawer s p b).fault = s.fault := rfl
@[simp] theorem senseDrawer_retentionValid (p : Nat) (b : Bool) : (senseDrawer s p b).retentionValid = s.retentionValid := rfl
@[simp] theorem senseDrawer_straps (p : Nat) (b : Bool) : (senseDrawer s p b).straps = s.straps := rfl
@[simp] theorem senseDrawer_links (p : Nat) (b : Bool) : (senseDrawer s p b).links = s.links := rfl
@[simp] theorem senseDrawer_feeds (p : Nat) (b : Bool) : (senseDrawer s p b).feeds = s.feeds := rfl
@[simp] theorem senseDrawer_grant (p : Nat) (b : Bool) : (senseDrawer s p b).grant = s.grant := rfl
@[simp] theorem senseDrawer_tray (p : Nat) (b : Bool) : (senseDrawer s p b).tray = s.tray := rfl
@[simp] theorem senseDrawer_shelf (p : Nat) (b : Bool) : (senseDrawer s p b).shelf = s.shelf := rfl
@[simp] theorem senseDrawer_stapler (p : Nat) (b : Bool) : (senseDrawer s p b).stapler = s.stapler := rfl
@[simp] theorem senseDrawer_tower (p : Nat) (b : Bool) : (senseDrawer s p b).tower = s.tower := rfl
@[simp] theorem senseDrawer_stacker (p : Nat) (b : Bool) : (senseDrawer s p b).stacker = s.stacker := rfl
@[simp] theorem senseDrawer_pockets (p : Nat) (b : Bool) : (senseDrawer s p b).pockets = s.pockets := rfl
@[simp] theorem senseDrawer_session (p : Nat) (b : Bool) : (senseDrawer s p b).session = s.session := rfl
@[simp] theorem senseDrawer_jobs (p : Nat) (b : Bool) : (senseDrawer s p b).jobs = s.jobs := rfl
@[simp] theorem senseDrawer_tables (p : Nat) (b : Bool) : (senseDrawer s p b).tables = s.tables := rfl
@[simp] theorem senseDrawer_path (p : Nat) (b : Bool) : (senseDrawer s p b).path = s.path := rfl
@[simp] theorem senseDrawer_timers (p : Nat) (b : Bool) : (senseDrawer s p b).timers = s.timers := rfl
@[simp] theorem senseDrawer_races (p : Nat) (b : Bool) : (senseDrawer s p b).races = s.races := rfl
@[simp] theorem senseDrawer_pending (p : Nat) (b : Bool) : (senseDrawer s p b).pending = s.pending := rfl

/-! `senseFloor` -/

@[simp] theorem senseFloor_run (p : Nat) (b : Bool) : (senseFloor s p b).run = s.run := rfl
@[simp] theorem senseFloor_fault (p : Nat) (b : Bool) : (senseFloor s p b).fault = s.fault := rfl
@[simp] theorem senseFloor_retentionValid (p : Nat) (b : Bool) : (senseFloor s p b).retentionValid = s.retentionValid := rfl
@[simp] theorem senseFloor_straps (p : Nat) (b : Bool) : (senseFloor s p b).straps = s.straps := rfl
@[simp] theorem senseFloor_links (p : Nat) (b : Bool) : (senseFloor s p b).links = s.links := rfl
@[simp] theorem senseFloor_feeds (p : Nat) (b : Bool) : (senseFloor s p b).feeds = s.feeds := rfl
@[simp] theorem senseFloor_grant (p : Nat) (b : Bool) : (senseFloor s p b).grant = s.grant := rfl
@[simp] theorem senseFloor_tray (p : Nat) (b : Bool) : (senseFloor s p b).tray = s.tray := rfl
@[simp] theorem senseFloor_shelf (p : Nat) (b : Bool) : (senseFloor s p b).shelf = s.shelf := rfl
@[simp] theorem senseFloor_stapler (p : Nat) (b : Bool) : (senseFloor s p b).stapler = s.stapler := rfl
@[simp] theorem senseFloor_tower (p : Nat) (b : Bool) : (senseFloor s p b).tower = s.tower := rfl
@[simp] theorem senseFloor_stacker (p : Nat) (b : Bool) : (senseFloor s p b).stacker = s.stacker := rfl
@[simp] theorem senseFloor_pockets (p : Nat) (b : Bool) : (senseFloor s p b).pockets = s.pockets := rfl
@[simp] theorem senseFloor_session (p : Nat) (b : Bool) : (senseFloor s p b).session = s.session := rfl
@[simp] theorem senseFloor_jobs (p : Nat) (b : Bool) : (senseFloor s p b).jobs = s.jobs := rfl
@[simp] theorem senseFloor_tables (p : Nat) (b : Bool) : (senseFloor s p b).tables = s.tables := rfl
@[simp] theorem senseFloor_path (p : Nat) (b : Bool) : (senseFloor s p b).path = s.path := rfl
@[simp] theorem senseFloor_timers (p : Nat) (b : Bool) : (senseFloor s p b).timers = s.timers := rfl
@[simp] theorem senseFloor_races (p : Nat) (b : Bool) : (senseFloor s p b).races = s.races := rfl
@[simp] theorem senseFloor_pending (p : Nat) (b : Bool) : (senseFloor s p b).pending = s.pending := rfl

/-! `dropHead` -/

@[simp] theorem dropHead_run (l : Link) : (dropHead s l).run = s.run := rfl
@[simp] theorem dropHead_fault (l : Link) : (dropHead s l).fault = s.fault := rfl
@[simp] theorem dropHead_retentionValid (l : Link) : (dropHead s l).retentionValid = s.retentionValid := rfl
@[simp] theorem dropHead_straps (l : Link) : (dropHead s l).straps = s.straps := rfl
@[simp] theorem dropHead_pins (l : Link) : (dropHead s l).pins = s.pins := rfl
@[simp] theorem dropHead_links (l : Link) : (dropHead s l).links = s.links := rfl
@[simp] theorem dropHead_grant (l : Link) : (dropHead s l).grant = s.grant := rfl
@[simp] theorem dropHead_tray (l : Link) : (dropHead s l).tray = s.tray := rfl
@[simp] theorem dropHead_shelf (l : Link) : (dropHead s l).shelf = s.shelf := rfl
@[simp] theorem dropHead_stapler (l : Link) : (dropHead s l).stapler = s.stapler := rfl
@[simp] theorem dropHead_tower (l : Link) : (dropHead s l).tower = s.tower := rfl
@[simp] theorem dropHead_stacker (l : Link) : (dropHead s l).stacker = s.stacker := rfl
@[simp] theorem dropHead_pockets (l : Link) : (dropHead s l).pockets = s.pockets := rfl
@[simp] theorem dropHead_session (l : Link) : (dropHead s l).session = s.session := rfl
@[simp] theorem dropHead_jobs (l : Link) : (dropHead s l).jobs = s.jobs := rfl
@[simp] theorem dropHead_tables (l : Link) : (dropHead s l).tables = s.tables := rfl
@[simp] theorem dropHead_path (l : Link) : (dropHead s l).path = s.path := rfl
@[simp] theorem dropHead_timers (l : Link) : (dropHead s l).timers = s.timers := rfl
@[simp] theorem dropHead_races (l : Link) : (dropHead s l).races = s.races := rfl
@[simp] theorem dropHead_pending (l : Link) : (dropHead s l).pending = s.pending := rfl

/-! `stopShelf` -/

@[simp] theorem stopShelf_run : (stopShelf s).run = s.run := rfl
@[simp] theorem stopShelf_fault : (stopShelf s).fault = s.fault := rfl
@[simp] theorem stopShelf_retentionValid : (stopShelf s).retentionValid = s.retentionValid := rfl
@[simp] theorem stopShelf_straps : (stopShelf s).straps = s.straps := rfl
@[simp] theorem stopShelf_pins : (stopShelf s).pins = s.pins := rfl
@[simp] theorem stopShelf_links : (stopShelf s).links = s.links := rfl
@[simp] theorem stopShelf_feeds : (stopShelf s).feeds = s.feeds := rfl
@[simp] theorem stopShelf_grant : (stopShelf s).grant = s.grant := rfl
@[simp] theorem stopShelf_tray : (stopShelf s).tray = s.tray := rfl
@[simp] theorem stopShelf_shelf : (stopShelf s).shelf = { s.shelf with motion := .idle } := rfl
@[simp] theorem stopShelf_stapler : (stopShelf s).stapler = s.stapler := rfl
@[simp] theorem stopShelf_tower : (stopShelf s).tower = s.tower := rfl
@[simp] theorem stopShelf_stacker : (stopShelf s).stacker = s.stacker := rfl
@[simp] theorem stopShelf_pockets : (stopShelf s).pockets = s.pockets := rfl
@[simp] theorem stopShelf_session : (stopShelf s).session = s.session := rfl
@[simp] theorem stopShelf_jobs : (stopShelf s).jobs = s.jobs := rfl
@[simp] theorem stopShelf_tables : (stopShelf s).tables = s.tables := rfl
@[simp] theorem stopShelf_path : (stopShelf s).path = s.path := rfl
@[simp] theorem stopShelf_timers : (stopShelf s).timers = { s.timers with motion := none } := rfl
@[simp] theorem stopShelf_races : (stopShelf s).races = s.races := rfl
@[simp] theorem stopShelf_pending : (stopShelf s).pending = s.pending := rfl

/-! `beginPark` -/

@[simp] theorem beginPark_run : (beginPark s).run = s.run := rfl
@[simp] theorem beginPark_fault : (beginPark s).fault = s.fault := rfl
@[simp] theorem beginPark_retentionValid : (beginPark s).retentionValid = s.retentionValid := rfl
@[simp] theorem beginPark_straps : (beginPark s).straps = s.straps := rfl
@[simp] theorem beginPark_pins : (beginPark s).pins = s.pins := rfl
@[simp] theorem beginPark_links : (beginPark s).links = s.links := rfl
@[simp] theorem beginPark_feeds : (beginPark s).feeds = s.feeds := rfl
@[simp] theorem beginPark_grant : (beginPark s).grant = s.grant := rfl
@[simp] theorem beginPark_tray : (beginPark s).tray = { s.tray with phase := .parking } := rfl
@[simp] theorem beginPark_shelf : (beginPark s).shelf = { s.shelf with motion := .lifting } := rfl
@[simp] theorem beginPark_stapler : (beginPark s).stapler = s.stapler := rfl
@[simp] theorem beginPark_tower : (beginPark s).tower = s.tower := rfl
@[simp] theorem beginPark_stacker : (beginPark s).stacker = s.stacker := rfl
@[simp] theorem beginPark_pockets : (beginPark s).pockets = s.pockets := rfl
@[simp] theorem beginPark_session : (beginPark s).session = s.session := rfl
@[simp] theorem beginPark_jobs : (beginPark s).jobs = s.jobs := rfl
@[simp] theorem beginPark_tables : (beginPark s).tables = s.tables := rfl
@[simp] theorem beginPark_path : (beginPark s).path = s.path := rfl
@[simp] theorem beginPark_races : (beginPark s).races = s.races := rfl
@[simp] theorem beginPark_pending : (beginPark s).pending = s.pending := rfl

/-! `beginUnpark` -/

@[simp] theorem beginUnpark_run : (beginUnpark s).run = s.run := rfl
@[simp] theorem beginUnpark_fault : (beginUnpark s).fault = s.fault := rfl
@[simp] theorem beginUnpark_retentionValid : (beginUnpark s).retentionValid = s.retentionValid := rfl
@[simp] theorem beginUnpark_straps : (beginUnpark s).straps = s.straps := rfl
@[simp] theorem beginUnpark_pins : (beginUnpark s).pins = s.pins := rfl
@[simp] theorem beginUnpark_links : (beginUnpark s).links = s.links := rfl
@[simp] theorem beginUnpark_feeds : (beginUnpark s).feeds = s.feeds := rfl
@[simp] theorem beginUnpark_grant : (beginUnpark s).grant = s.grant := rfl
@[simp] theorem beginUnpark_tray : (beginUnpark s).tray = { s.tray with phase := .unparking } := rfl
@[simp] theorem beginUnpark_shelf : (beginUnpark s).shelf = { s.shelf with motion := .lowering } := rfl
@[simp] theorem beginUnpark_stapler : (beginUnpark s).stapler = s.stapler := rfl
@[simp] theorem beginUnpark_tower : (beginUnpark s).tower = s.tower := rfl
@[simp] theorem beginUnpark_stacker : (beginUnpark s).stacker = s.stacker := rfl
@[simp] theorem beginUnpark_pockets : (beginUnpark s).pockets = s.pockets := rfl
@[simp] theorem beginUnpark_session : (beginUnpark s).session = s.session := rfl
@[simp] theorem beginUnpark_jobs : (beginUnpark s).jobs = s.jobs := rfl
@[simp] theorem beginUnpark_tables : (beginUnpark s).tables = s.tables := rfl
@[simp] theorem beginUnpark_path : (beginUnpark s).path = s.path := rfl
@[simp] theorem beginUnpark_races : (beginUnpark s).races = s.races := rfl
@[simp] theorem beginUnpark_pending : (beginUnpark s).pending = s.pending := rfl

/-! `carryTo` -/

@[simp] theorem carryTo_run (o : ChainOption) : (carryTo s o).run = s.run := rfl
@[simp] theorem carryTo_fault (o : ChainOption) : (carryTo s o).fault = s.fault := rfl
@[simp] theorem carryTo_retentionValid (o : ChainOption) : (carryTo s o).retentionValid = s.retentionValid := rfl
@[simp] theorem carryTo_straps (o : ChainOption) : (carryTo s o).straps = s.straps := rfl
@[simp] theorem carryTo_pins (o : ChainOption) : (carryTo s o).pins = s.pins := rfl
@[simp] theorem carryTo_links (o : ChainOption) : (carryTo s o).links = s.links := rfl
@[simp] theorem carryTo_feeds (o : ChainOption) : (carryTo s o).feeds = s.feeds := rfl
@[simp] theorem carryTo_grant (o : ChainOption) : (carryTo s o).grant = s.grant := rfl
@[simp] theorem carryTo_tray (o : ChainOption) : (carryTo s o).tray = s.tray := rfl
@[simp] theorem carryTo_shelf (o : ChainOption) : (carryTo s o).shelf = s.shelf := rfl
@[simp] theorem carryTo_stapler (o : ChainOption) : (carryTo s o).stapler = s.stapler := rfl
@[simp] theorem carryTo_tower (o : ChainOption) : (carryTo s o).tower = { s.tower with phase := .carrying, target := some o } := rfl
@[simp] theorem carryTo_stacker (o : ChainOption) : (carryTo s o).stacker = s.stacker := rfl
@[simp] theorem carryTo_pockets (o : ChainOption) : (carryTo s o).pockets = s.pockets := rfl
@[simp] theorem carryTo_session (o : ChainOption) : (carryTo s o).session = s.session := rfl
@[simp] theorem carryTo_jobs (o : ChainOption) : (carryTo s o).jobs = s.jobs := rfl
@[simp] theorem carryTo_tables (o : ChainOption) : (carryTo s o).tables = s.tables := rfl
@[simp] theorem carryTo_path (o : ChainOption) : (carryTo s o).path = s.path := rfl
@[simp] theorem carryTo_races (o : ChainOption) : (carryTo s o).races = s.races := rfl
@[simp] theorem carryTo_pending (o : ChainOption) : (carryTo s o).pending = s.pending := rfl

/-! `freeze` -/

@[simp] theorem freeze_run : (freeze s).run = s.run := rfl
@[simp] theorem freeze_fault : (freeze s).fault = s.fault := rfl
@[simp] theorem freeze_retentionValid : (freeze s).retentionValid = s.retentionValid := rfl
@[simp] theorem freeze_straps : (freeze s).straps = s.straps := rfl
@[simp] theorem freeze_pins : (freeze s).pins = s.pins := rfl
@[simp] theorem freeze_links : (freeze s).links = s.links := rfl
@[simp] theorem freeze_feeds : (freeze s).feeds = s.feeds := rfl
@[simp] theorem freeze_grant : (freeze s).grant = s.grant := rfl
@[simp] theorem freeze_tray : (freeze s).tray = s.tray := rfl
@[simp] theorem freeze_shelf : (freeze s).shelf = { s.shelf with motion := .idle } := rfl
@[simp] theorem freeze_stapler : (freeze s).stapler = { s.stapler with requestWaiting := false } := rfl
@[simp] theorem freeze_tower : (freeze s).tower = s.tower := rfl
@[simp] theorem freeze_stacker : (freeze s).stacker = s.stacker := rfl
@[simp] theorem freeze_pockets : (freeze s).pockets = s.pockets := rfl
@[simp] theorem freeze_session : (freeze s).session = s.session := rfl
@[simp] theorem freeze_jobs : (freeze s).jobs = s.jobs := rfl
@[simp] theorem freeze_tables : (freeze s).tables = s.tables := rfl
@[simp] theorem freeze_path : (freeze s).path = s.path := rfl
@[simp] theorem freeze_races : (freeze s).races = s.races := rfl
@[simp] theorem freeze_pending : (freeze s).pending = s.pending := rfl

/-! `takeFrame` -/

@[simp] theorem takeFrame_run (l : Link) : (takeFrame s l).run = s.run := rfl
@[simp] theorem takeFrame_fault (l : Link) : (takeFrame s l).fault = s.fault := rfl
@[simp] theorem takeFrame_retentionValid (l : Link) : (takeFrame s l).retentionValid = s.retentionValid := rfl
@[simp] theorem takeFrame_straps (l : Link) : (takeFrame s l).straps = s.straps := rfl
@[simp] theorem takeFrame_pins (l : Link) : (takeFrame s l).pins = s.pins := rfl
@[simp] theorem takeFrame_feeds (l : Link) : (takeFrame s l).feeds = s.feeds := rfl
@[simp] theorem takeFrame_grant (l : Link) : (takeFrame s l).grant = s.grant := rfl
@[simp] theorem takeFrame_tray (l : Link) : (takeFrame s l).tray = s.tray := rfl
@[simp] theorem takeFrame_shelf (l : Link) : (takeFrame s l).shelf = s.shelf := rfl
@[simp] theorem takeFrame_stapler (l : Link) : (takeFrame s l).stapler = s.stapler := rfl
@[simp] theorem takeFrame_tower (l : Link) : (takeFrame s l).tower = s.tower := rfl
@[simp] theorem takeFrame_stacker (l : Link) : (takeFrame s l).stacker = s.stacker := rfl
@[simp] theorem takeFrame_pockets (l : Link) : (takeFrame s l).pockets = s.pockets := rfl
@[simp] theorem takeFrame_session (l : Link) : (takeFrame s l).session = s.session := rfl
@[simp] theorem takeFrame_jobs (l : Link) : (takeFrame s l).jobs = s.jobs := rfl
@[simp] theorem takeFrame_tables (l : Link) : (takeFrame s l).tables = s.tables := rfl
@[simp] theorem takeFrame_path (l : Link) : (takeFrame s l).path = s.path := rfl
@[simp] theorem takeFrame_timers (l : Link) : (takeFrame s l).timers = s.timers := rfl
@[simp] theorem takeFrame_races (l : Link) : (takeFrame s l).races = s.races := rfl
@[simp] theorem takeFrame_pending (l : Link) : (takeFrame s l).pending = s.pending := rfl

end Sys2Proof.Machine
end

