-- ==== Sys2Proof/Laws/Frames.lean ====
section
/-!
SUPPORT. Laws/Frames.lean: for each shared operation, the fields of the state it leaves as they are. A lemma lists every
field its operation never touches; `simp` uses each conjunct.
-/
namespace Sys2Proof.Machine

variable (s : State)

/-! ## Outbound -/

@[simp] theorem pump_frame (l : Link) :
    (pump s l).run = s.run ∧ (pump s l).fault = s.fault ∧ (pump s l).retentionValid = s.retentionValid ∧
    (pump s l).straps = s.straps ∧ (pump s l).pins = s.pins ∧ (pump s l).feeds = s.feeds ∧
    (pump s l).grant = s.grant ∧ (pump s l).tray = s.tray ∧ (pump s l).shelf = s.shelf ∧
    (pump s l).stapler = s.stapler ∧ (pump s l).tower = s.tower ∧ (pump s l).stacker = s.stacker ∧
    (pump s l).pockets = s.pockets ∧ (pump s l).session = s.session ∧ (pump s l).jobs = s.jobs ∧
    (pump s l).tables = s.tables ∧ (pump s l).path = s.path ∧ (pump s l).timers = s.timers ∧
    (pump s l).races = s.races ∧ (pump s l).pending = s.pending := by
  unfold pump
  repeat' split
  all_goals simp

@[simp] theorem queueOut_frame (l : Link) (o : Outbound) :
    (queueOut s l o).run = s.run ∧ (queueOut s l o).fault = s.fault ∧
    (queueOut s l o).retentionValid = s.retentionValid ∧ (queueOut s l o).straps = s.straps ∧
    (queueOut s l o).pins = s.pins ∧ (queueOut s l o).feeds = s.feeds ∧ (queueOut s l o).grant = s.grant ∧
    (queueOut s l o).tray = s.tray ∧ (queueOut s l o).shelf = s.shelf ∧ (queueOut s l o).stapler = s.stapler ∧
    (queueOut s l o).tower = s.tower ∧ (queueOut s l o).stacker = s.stacker ∧
    (queueOut s l o).pockets = s.pockets ∧ (queueOut s l o).session = s.session ∧
    (queueOut s l o).jobs = s.jobs ∧ (queueOut s l o).tables = s.tables ∧ (queueOut s l o).path = s.path ∧
    (queueOut s l o).timers = s.timers ∧ (queueOut s l o).races = s.races ∧ (queueOut s l o).pending = s.pending := by
  simp [queueOut]

@[simp] theorem answer_frame (l : Link) (b : Bool) (k : Nat) (r : Result) (body : List Data) :
    (answer s l b k r body).run = s.run ∧ (answer s l b k r body).fault = s.fault ∧
    (answer s l b k r body).retentionValid = s.retentionValid ∧ (answer s l b k r body).straps = s.straps ∧
    (answer s l b k r body).pins = s.pins ∧ (answer s l b k r body).feeds = s.feeds ∧
    (answer s l b k r body).grant = s.grant ∧ (answer s l b k r body).tray = s.tray ∧
    (answer s l b k r body).shelf = s.shelf ∧ (answer s l b k r body).stapler = s.stapler ∧
    (answer s l b k r body).tower = s.tower ∧ (answer s l b k r body).stacker = s.stacker ∧
    (answer s l b k r body).pockets = s.pockets ∧ (answer s l b k r body).session = s.session ∧
    (answer s l b k r body).jobs = s.jobs ∧ (answer s l b k r body).tables = s.tables ∧
    (answer s l b k r body).path = s.path ∧ (answer s l b k r body).timers = s.timers ∧
    (answer s l b k r body).races = s.races ∧ (answer s l b k r body).pending = s.pending := by
  unfold answer
  repeat' split
  all_goals simp

@[simp] theorem answerTo_frame (l : Link) (f : Frame) (r : Result) (body : List Data) :
    (answerTo s l f r body).run = s.run ∧ (answerTo s l f r body).fault = s.fault ∧
    (answerTo s l f r body).retentionValid = s.retentionValid ∧ (answerTo s l f r body).straps = s.straps ∧
    (answerTo s l f r body).pins = s.pins ∧ (answerTo s l f r body).feeds = s.feeds ∧
    (answerTo s l f r body).grant = s.grant ∧ (answerTo s l f r body).tray = s.tray ∧
    (answerTo s l f r body).shelf = s.shelf ∧ (answerTo s l f r body).stapler = s.stapler ∧
    (answerTo s l f r body).tower = s.tower ∧ (answerTo s l f r body).stacker = s.stacker ∧
    (answerTo s l f r body).pockets = s.pockets ∧ (answerTo s l f r body).session = s.session ∧
    (answerTo s l f r body).jobs = s.jobs ∧ (answerTo s l f r body).tables = s.tables ∧
    (answerTo s l f r body).path = s.path ∧ (answerTo s l f r body).timers = s.timers ∧
    (answerTo s l f r body).races = s.races ∧ (answerTo s l f r body).pending = s.pending := by
  simp [answerTo]

@[simp] theorem refuse_frame (l : Link) (f : Frame) (r : Reason) :
    (refuse s l f r).run = s.run ∧ (refuse s l f r).fault = s.fault ∧
    (refuse s l f r).retentionValid = s.retentionValid ∧ (refuse s l f r).straps = s.straps ∧
    (refuse s l f r).pins = s.pins ∧ (refuse s l f r).feeds = s.feeds ∧ (refuse s l f r).grant = s.grant ∧
    (refuse s l f r).tray = s.tray ∧ (refuse s l f r).shelf = s.shelf ∧ (refuse s l f r).stapler = s.stapler ∧
    (refuse s l f r).tower = s.tower ∧ (refuse s l f r).stacker = s.stacker ∧
    (refuse s l f r).pockets = s.pockets ∧ (refuse s l f r).session = s.session ∧
    (refuse s l f r).jobs = s.jobs ∧ (refuse s l f r).tables = s.tables ∧ (refuse s l f r).path = s.path ∧
    (refuse s l f r).timers = s.timers ∧ (refuse s l f r).races = s.races ∧ (refuse s l f r).pending = s.pending := by
  simp [refuse]

@[simp] theorem notify_frame (r j : Nat) (b : NoticeBody) :
    (notify s r j b).run = s.run ∧ (notify s r j b).fault = s.fault ∧
    (notify s r j b).retentionValid = s.retentionValid ∧ (notify s r j b).straps = s.straps ∧
    (notify s r j b).pins = s.pins ∧ (notify s r j b).feeds = s.feeds ∧ (notify s r j b).grant = s.grant ∧
    (notify s r j b).tray = s.tray ∧ (notify s r j b).shelf = s.shelf ∧ (notify s r j b).stapler = s.stapler ∧
    (notify s r j b).tower = s.tower ∧ (notify s r j b).stacker = s.stacker ∧
    (notify s r j b).pockets = s.pockets ∧ (notify s r j b).session = s.session ∧
    (notify s r j b).jobs = s.jobs ∧ (notify s r j b).tables = s.tables ∧ (notify s r j b).path = s.path ∧
    (notify s r j b).timers = s.timers ∧ (notify s r j b).races = s.races ∧ (notify s r j b).pending = s.pending := by
  simp [notify]

@[simp] theorem notifyPlain_frame (b : NoticeBody) :
    (notifyPlain s b).run = s.run ∧ (notifyPlain s b).fault = s.fault ∧
    (notifyPlain s b).retentionValid = s.retentionValid ∧ (notifyPlain s b).straps = s.straps ∧
    (notifyPlain s b).pins = s.pins ∧ (notifyPlain s b).feeds = s.feeds ∧ (notifyPlain s b).grant = s.grant ∧
    (notifyPlain s b).tray = s.tray ∧ (notifyPlain s b).shelf = s.shelf ∧
    (notifyPlain s b).stapler = s.stapler ∧ (notifyPlain s b).tower = s.tower ∧
    (notifyPlain s b).stacker = s.stacker ∧ (notifyPlain s b).pockets = s.pockets ∧
    (notifyPlain s b).session = s.session ∧ (notifyPlain s b).jobs = s.jobs ∧
    (notifyPlain s b).tables = s.tables ∧ (notifyPlain s b).path = s.path ∧
    (notifyPlain s b).timers = s.timers ∧ (notifyPlain s b).races = s.races ∧
    (notifyPlain s b).pending = s.pending := by
  simp [notifyPlain]

@[simp] theorem notifyJob_frame (j : Nat) (b : NoticeBody) :
    (notifyJob s j b).run = s.run ∧ (notifyJob s j b).fault = s.fault ∧
    (notifyJob s j b).retentionValid = s.retentionValid ∧ (notifyJob s j b).straps = s.straps ∧
    (notifyJob s j b).pins = s.pins ∧ (notifyJob s j b).feeds = s.feeds ∧ (notifyJob s j b).grant = s.grant ∧
    (notifyJob s j b).tray = s.tray ∧ (notifyJob s j b).shelf = s.shelf ∧
    (notifyJob s j b).stapler = s.stapler ∧ (notifyJob s j b).tower = s.tower ∧
    (notifyJob s j b).stacker = s.stacker ∧ (notifyJob s j b).pockets = s.pockets ∧
    (notifyJob s j b).session = s.session ∧ (notifyJob s j b).jobs = s.jobs ∧
    (notifyJob s j b).tables = s.tables ∧ (notifyJob s j b).path = s.path ∧
    (notifyJob s j b).timers = s.timers ∧ (notifyJob s j b).races = s.races ∧
    (notifyJob s j b).pending = s.pending := by
  unfold notifyJob
  repeat' split
  all_goals simp

@[simp] theorem notifyAnnounced_frame (j : Nat) (b : NoticeBody) :
    (notifyAnnounced s j b).run = s.run ∧ (notifyAnnounced s j b).fault = s.fault ∧
    (notifyAnnounced s j b).retentionValid = s.retentionValid ∧ (notifyAnnounced s j b).straps = s.straps ∧
    (notifyAnnounced s j b).pins = s.pins ∧ (notifyAnnounced s j b).feeds = s.feeds ∧
    (notifyAnnounced s j b).grant = s.grant ∧ (notifyAnnounced s j b).tray = s.tray ∧
    (notifyAnnounced s j b).shelf = s.shelf ∧ (notifyAnnounced s j b).stapler = s.stapler ∧
    (notifyAnnounced s j b).tower = s.tower ∧ (notifyAnnounced s j b).stacker = s.stacker ∧
    (notifyAnnounced s j b).pockets = s.pockets ∧ (notifyAnnounced s j b).session = s.session ∧
    (notifyAnnounced s j b).jobs = s.jobs ∧ (notifyAnnounced s j b).tables = s.tables ∧
    (notifyAnnounced s j b).path = s.path ∧ (notifyAnnounced s j b).timers = s.timers ∧
    (notifyAnnounced s j b).races = s.races ∧ (notifyAnnounced s j b).pending = s.pending := by
  unfold notifyAnnounced
  repeat' split
  all_goals simp

@[simp] theorem setGrantStage_frame (l : Link) (st : GrantStage) :
    (setGrantStage s l st).run = s.run ∧ (setGrantStage s l st).fault = s.fault ∧
    (setGrantStage s l st).retentionValid = s.retentionValid ∧ (setGrantStage s l st).straps = s.straps ∧
    (setGrantStage s l st).pins = s.pins ∧ (setGrantStage s l st).links = s.links ∧
    (setGrantStage s l st).feeds = s.feeds ∧ (setGrantStage s l st).tray = s.tray ∧
    (setGrantStage s l st).shelf = s.shelf ∧ (setGrantStage s l st).stapler = s.stapler ∧
    (setGrantStage s l st).tower = s.tower ∧ (setGrantStage s l st).stacker = s.stacker ∧
    (setGrantStage s l st).pockets = s.pockets ∧ (setGrantStage s l st).session = s.session ∧
    (setGrantStage s l st).jobs = s.jobs ∧ (setGrantStage s l st).tables = s.tables ∧
    (setGrantStage s l st).path = s.path ∧ (setGrantStage s l st).timers = s.timers ∧
    (setGrantStage s l st).races = s.races ∧ (setGrantStage s l st).pending = s.pending := by
  simp [setGrantStage]

@[simp] theorem placeInLane_frame (l : Link) (o : Outbound) :
    (placeInLane s l o).run = s.run ∧ (placeInLane s l o).fault = s.fault ∧
    (placeInLane s l o).retentionValid = s.retentionValid ∧ (placeInLane s l o).straps = s.straps ∧
    (placeInLane s l o).pins = s.pins ∧ (placeInLane s l o).feeds = s.feeds ∧
    (placeInLane s l o).grant = s.grant ∧ (placeInLane s l o).tray = s.tray ∧
    (placeInLane s l o).shelf = s.shelf ∧ (placeInLane s l o).stapler = s.stapler ∧
    (placeInLane s l o).tower = s.tower ∧ (placeInLane s l o).stacker = s.stacker ∧
    (placeInLane s l o).pockets = s.pockets ∧ (placeInLane s l o).session = s.session ∧
    (placeInLane s l o).jobs = s.jobs ∧ (placeInLane s l o).tables = s.tables ∧
    (placeInLane s l o).path = s.path ∧ (placeInLane s l o).timers = s.timers ∧
    (placeInLane s l o).races = s.races ∧ (placeInLane s l o).pending = s.pending := by
  simp [placeInLane]

@[simp] theorem noteGrantSending_frame (l : Link) :
    (noteGrantSending s l).run = s.run ∧ (noteGrantSending s l).fault = s.fault ∧
    (noteGrantSending s l).retentionValid = s.retentionValid ∧ (noteGrantSending s l).straps = s.straps ∧
    (noteGrantSending s l).pins = s.pins ∧ (noteGrantSending s l).links = s.links ∧
    (noteGrantSending s l).feeds = s.feeds ∧ (noteGrantSending s l).tray = s.tray ∧
    (noteGrantSending s l).shelf = s.shelf ∧ (noteGrantSending s l).stapler = s.stapler ∧
    (noteGrantSending s l).tower = s.tower ∧ (noteGrantSending s l).stacker = s.stacker ∧
    (noteGrantSending s l).pockets = s.pockets ∧ (noteGrantSending s l).session = s.session ∧
    (noteGrantSending s l).jobs = s.jobs ∧ (noteGrantSending s l).tables = s.tables ∧
    (noteGrantSending s l).path = s.path ∧ (noteGrantSending s l).timers = s.timers ∧
    (noteGrantSending s l).races = s.races ∧ (noteGrantSending s l).pending = s.pending := by
  unfold noteGrantSending
  repeat' split
  all_goals simp

@[simp] theorem sendGrant_frame (l : Link) (t : Nat) (r : Route) :
    (sendGrant s l t r).run = s.run ∧ (sendGrant s l t r).fault = s.fault ∧
    (sendGrant s l t r).retentionValid = s.retentionValid ∧ (sendGrant s l t r).straps = s.straps ∧
    (sendGrant s l t r).pins = s.pins ∧ (sendGrant s l t r).feeds = s.feeds ∧
    (sendGrant s l t r).tray = s.tray ∧ (sendGrant s l t r).shelf = s.shelf ∧
    (sendGrant s l t r).stapler = s.stapler ∧ (sendGrant s l t r).tower = s.tower ∧
    (sendGrant s l t r).stacker = s.stacker ∧ (sendGrant s l t r).pockets = s.pockets ∧
    (sendGrant s l t r).session = s.session ∧ (sendGrant s l t r).jobs = s.jobs ∧
    (sendGrant s l t r).tables = s.tables ∧ (sendGrant s l t r).path = s.path ∧
    (sendGrant s l t r).timers = s.timers ∧ (sendGrant s l t r).races = s.races ∧
    (sendGrant s l t r).pending = s.pending := by
  simp [sendGrant]

@[simp] theorem finishFrame_frame (l : Link) :
    (finishFrame s l).run = s.run ∧ (finishFrame s l).fault = s.fault ∧
    (finishFrame s l).retentionValid = s.retentionValid ∧ (finishFrame s l).straps = s.straps ∧
    (finishFrame s l).pins = s.pins ∧ (finishFrame s l).feeds = s.feeds ∧ (finishFrame s l).tray = s.tray ∧
    (finishFrame s l).shelf = s.shelf ∧ (finishFrame s l).stapler = s.stapler ∧
    (finishFrame s l).tower = s.tower ∧ (finishFrame s l).stacker = s.stacker ∧
    (finishFrame s l).pockets = s.pockets ∧ (finishFrame s l).session = s.session ∧
    (finishFrame s l).jobs = s.jobs ∧ (finishFrame s l).tables = s.tables ∧ (finishFrame s l).path = s.path ∧
    (finishFrame s l).races = s.races ∧ (finishFrame s l).pending = s.pending := by
  unfold finishFrame
  split
  · simp
  · split
    · split <;> simp
    · simp

@[simp] theorem clearAllCounts_frame :
    (clearAllCounts s).run = s.run ∧ (clearAllCounts s).fault = s.fault ∧
    (clearAllCounts s).retentionValid = s.retentionValid ∧ (clearAllCounts s).straps = s.straps ∧
    (clearAllCounts s).pins = s.pins ∧ (clearAllCounts s).feeds = s.feeds ∧
    (clearAllCounts s).grant = s.grant ∧ (clearAllCounts s).tray = s.tray ∧
    (clearAllCounts s).shelf = s.shelf ∧ (clearAllCounts s).stapler = s.stapler ∧
    (clearAllCounts s).tower = s.tower ∧ (clearAllCounts s).stacker = s.stacker ∧
    (clearAllCounts s).pockets = s.pockets ∧ (clearAllCounts s).session = s.session ∧
    (clearAllCounts s).jobs = s.jobs ∧ (clearAllCounts s).tables = s.tables ∧
    (clearAllCounts s).path = s.path ∧ (clearAllCounts s).timers = s.timers ∧
    (clearAllCounts s).races = s.races ∧ (clearAllCounts s).pending = s.pending := by
  simp [clearAllCounts]

@[simp] theorem receiveChr_frame (l : Link) (c : Chr) :
    (receiveChr l c s).run = s.run ∧ (receiveChr l c s).fault = s.fault ∧
    (receiveChr l c s).retentionValid = s.retentionValid ∧ (receiveChr l c s).straps = s.straps ∧
    (receiveChr l c s).pins = s.pins ∧ (receiveChr l c s).feeds = s.feeds ∧
    (receiveChr l c s).grant = s.grant ∧ (receiveChr l c s).tray = s.tray ∧
    (receiveChr l c s).shelf = s.shelf ∧ (receiveChr l c s).stapler = s.stapler ∧
    (receiveChr l c s).tower = s.tower ∧ (receiveChr l c s).stacker = s.stacker ∧
    (receiveChr l c s).pockets = s.pockets ∧ (receiveChr l c s).session = s.session ∧
    (receiveChr l c s).jobs = s.jobs ∧ (receiveChr l c s).tables = s.tables ∧
    (receiveChr l c s).path = s.path ∧ (receiveChr l c s).timers = s.timers ∧
    (receiveChr l c s).races = s.races ∧ (receiveChr l c s).pending = s.pending := by
  unfold receiveChr
  repeat' split
  all_goals simp

/-! ## Jobs -/

@[simp] theorem accountOutcome_frame (j n : Nat) (st : SeatStatus) (c : OutcomeCount) :
    (accountOutcome s j n st c).run = s.run ∧ (accountOutcome s j n st c).fault = s.fault ∧
    (accountOutcome s j n st c).retentionValid = s.retentionValid ∧
    (accountOutcome s j n st c).straps = s.straps ∧ (accountOutcome s j n st c).pins = s.pins ∧
    (accountOutcome s j n st c).links = s.links ∧ (accountOutcome s j n st c).feeds = s.feeds ∧
    (accountOutcome s j n st c).grant = s.grant ∧ (accountOutcome s j n st c).tray = s.tray ∧
    (accountOutcome s j n st c).shelf = s.shelf ∧ (accountOutcome s j n st c).stapler = s.stapler ∧
    (accountOutcome s j n st c).tower = s.tower ∧ (accountOutcome s j n st c).stacker = s.stacker ∧
    (accountOutcome s j n st c).pockets = s.pockets ∧ (accountOutcome s j n st c).session = s.session ∧
    (accountOutcome s j n st c).tables = s.tables ∧ (accountOutcome s j n st c).path = s.path ∧
    (accountOutcome s j n st c).timers = s.timers ∧ (accountOutcome s j n st c).races = s.races ∧
    (accountOutcome s j n st c).pending = s.pending := by
  unfold accountOutcome
  repeat' split
  all_goals simp

@[simp] theorem addReprint_frame (j n : Nat) :
    (addReprint s j n).run = s.run ∧ (addReprint s j n).fault = s.fault ∧
    (addReprint s j n).retentionValid = s.retentionValid ∧ (addReprint s j n).straps = s.straps ∧
    (addReprint s j n).pins = s.pins ∧ (addReprint s j n).links = s.links ∧
    (addReprint s j n).feeds = s.feeds ∧ (addReprint s j n).grant = s.grant ∧
    (addReprint s j n).tray = s.tray ∧ (addReprint s j n).shelf = s.shelf ∧
    (addReprint s j n).stapler = s.stapler ∧ (addReprint s j n).tower = s.tower ∧
    (addReprint s j n).stacker = s.stacker ∧ (addReprint s j n).pockets = s.pockets ∧
    (addReprint s j n).session = s.session ∧ (addReprint s j n).tables = s.tables ∧
    (addReprint s j n).path = s.path ∧ (addReprint s j n).timers = s.timers ∧
    (addReprint s j n).races = s.races ∧ (addReprint s j n).pending = s.pending := by
  simp [addReprint]

@[simp] theorem removeReprint_frame (j n : Nat) :
    (removeReprint s j n).run = s.run ∧ (removeReprint s j n).fault = s.fault ∧
    (removeReprint s j n).retentionValid = s.retentionValid ∧ (removeReprint s j n).straps = s.straps ∧
    (removeReprint s j n).pins = s.pins ∧ (removeReprint s j n).links = s.links ∧
    (removeReprint s j n).feeds = s.feeds ∧ (removeReprint s j n).grant = s.grant ∧
    (removeReprint s j n).tray = s.tray ∧ (removeReprint s j n).shelf = s.shelf ∧
    (removeReprint s j n).stapler = s.stapler ∧ (removeReprint s j n).tower = s.tower ∧
    (removeReprint s j n).stacker = s.stacker ∧ (removeReprint s j n).pockets = s.pockets ∧
    (removeReprint s j n).session = s.session ∧ (removeReprint s j n).tables = s.tables ∧
    (removeReprint s j n).path = s.path ∧ (removeReprint s j n).timers = s.timers ∧
    (removeReprint s j n).races = s.races ∧ (removeReprint s j n).pending = s.pending := by
  simp [removeReprint]

@[simp] theorem accountLost_frame (j n : Nat) :
    (accountLost s j n).run = s.run ∧ (accountLost s j n).fault = s.fault ∧
    (accountLost s j n).retentionValid = s.retentionValid ∧ (accountLost s j n).straps = s.straps ∧
    (accountLost s j n).pins = s.pins ∧ (accountLost s j n).links = s.links ∧
    (accountLost s j n).feeds = s.feeds ∧ (accountLost s j n).grant = s.grant ∧
    (accountLost s j n).tray = s.tray ∧ (accountLost s j n).shelf = s.shelf ∧
    (accountLost s j n).stapler = s.stapler ∧ (accountLost s j n).tower = s.tower ∧
    (accountLost s j n).stacker = s.stacker ∧ (accountLost s j n).pockets = s.pockets ∧
    (accountLost s j n).session = s.session ∧ (accountLost s j n).tables = s.tables ∧
    (accountLost s j n).path = s.path ∧ (accountLost s j n).timers = s.timers ∧
    (accountLost s j n).races = s.races ∧ (accountLost s j n).pending = s.pending := by
  simp [accountLost]

@[simp] theorem accountSegmentLoss_frame (j n : Nat) :
    (accountSegmentLoss s j n).run = s.run ∧ (accountSegmentLoss s j n).fault = s.fault ∧
    (accountSegmentLoss s j n).retentionValid = s.retentionValid ∧
    (accountSegmentLoss s j n).straps = s.straps ∧ (accountSegmentLoss s j n).pins = s.pins ∧
    (accountSegmentLoss s j n).links = s.links ∧ (accountSegmentLoss s j n).feeds = s.feeds ∧
    (accountSegmentLoss s j n).grant = s.grant ∧ (accountSegmentLoss s j n).tray = s.tray ∧
    (accountSegmentLoss s j n).shelf = s.shelf ∧ (accountSegmentLoss s j n).stapler = s.stapler ∧
    (accountSegmentLoss s j n).tower = s.tower ∧ (accountSegmentLoss s j n).stacker = s.stacker ∧
    (accountSegmentLoss s j n).pockets = s.pockets ∧ (accountSegmentLoss s j n).session = s.session ∧
    (accountSegmentLoss s j n).tables = s.tables ∧ (accountSegmentLoss s j n).path = s.path ∧
    (accountSegmentLoss s j n).timers = s.timers ∧ (accountSegmentLoss s j n).races = s.races ∧
    (accountSegmentLoss s j n).pending = s.pending := by
  simp [accountSegmentLoss]

@[simp] theorem accountEmpty_frame (j n : Nat) (f : SetFlags) :
    (accountEmpty s j n f).run = s.run ∧ (accountEmpty s j n f).fault = s.fault ∧
    (accountEmpty s j n f).retentionValid = s.retentionValid ∧ (accountEmpty s j n f).straps = s.straps ∧
    (accountEmpty s j n f).pins = s.pins ∧ (accountEmpty s j n f).links = s.links ∧
    (accountEmpty s j n f).feeds = s.feeds ∧ (accountEmpty s j n f).grant = s.grant ∧
    (accountEmpty s j n f).tray = s.tray ∧ (accountEmpty s j n f).shelf = s.shelf ∧
    (accountEmpty s j n f).stapler = s.stapler ∧ (accountEmpty s j n f).tower = s.tower ∧
    (accountEmpty s j n f).stacker = s.stacker ∧ (accountEmpty s j n f).pockets = s.pockets ∧
    (accountEmpty s j n f).session = s.session ∧ (accountEmpty s j n f).tables = s.tables ∧
    (accountEmpty s j n f).path = s.path ∧ (accountEmpty s j n f).timers = s.timers ∧
    (accountEmpty s j n f).races = s.races ∧ (accountEmpty s j n f).pending = s.pending := by
  unfold accountEmpty
  repeat' split
  all_goals simp

@[simp] theorem accountDeposit_frame (g : Segment) (p : Place) :
    (accountDeposit s g p).run = s.run ∧ (accountDeposit s g p).fault = s.fault ∧
    (accountDeposit s g p).retentionValid = s.retentionValid ∧ (accountDeposit s g p).straps = s.straps ∧
    (accountDeposit s g p).pins = s.pins ∧ (accountDeposit s g p).links = s.links ∧
    (accountDeposit s g p).feeds = s.feeds ∧ (accountDeposit s g p).grant = s.grant ∧
    (accountDeposit s g p).tray = s.tray ∧ (accountDeposit s g p).shelf = s.shelf ∧
    (accountDeposit s g p).stapler = s.stapler ∧ (accountDeposit s g p).tower = s.tower ∧
    (accountDeposit s g p).stacker = s.stacker ∧ (accountDeposit s g p).pockets = s.pockets ∧
    (accountDeposit s g p).session = s.session ∧ (accountDeposit s g p).tables = s.tables ∧
    (accountDeposit s g p).path = s.path ∧ (accountDeposit s g p).timers = s.timers ∧
    (accountDeposit s g p).races = s.races ∧ (accountDeposit s g p).pending = s.pending := by
  unfold accountDeposit
  dsimp only
  repeat' split
  all_goals simp

@[simp] theorem accountSession_frame (j n i : Nat) :
    (accountSession s j n i).run = s.run ∧ (accountSession s j n i).fault = s.fault ∧
    (accountSession s j n i).retentionValid = s.retentionValid ∧ (accountSession s j n i).straps = s.straps ∧
    (accountSession s j n i).pins = s.pins ∧ (accountSession s j n i).links = s.links ∧
    (accountSession s j n i).feeds = s.feeds ∧ (accountSession s j n i).grant = s.grant ∧
    (accountSession s j n i).tray = s.tray ∧ (accountSession s j n i).shelf = s.shelf ∧
    (accountSession s j n i).stapler = s.stapler ∧ (accountSession s j n i).tower = s.tower ∧
    (accountSession s j n i).stacker = s.stacker ∧ (accountSession s j n i).pockets = s.pockets ∧
    (accountSession s j n i).session = s.session ∧ (accountSession s j n i).tables = s.tables ∧
    (accountSession s j n i).path = s.path ∧ (accountSession s j n i).timers = s.timers ∧
    (accountSession s j n i).races = s.races ∧ (accountSession s j n i).pending = s.pending := by
  unfold accountSession
  repeat' split
  all_goals simp

@[simp] theorem removeIfClosed_frame (j : Job) :
    (removeIfClosed s j).run = s.run ∧ (removeIfClosed s j).fault = s.fault ∧
    (removeIfClosed s j).retentionValid = s.retentionValid ∧ (removeIfClosed s j).straps = s.straps ∧
    (removeIfClosed s j).pins = s.pins ∧ (removeIfClosed s j).feeds = s.feeds ∧
    (removeIfClosed s j).grant = s.grant ∧ (removeIfClosed s j).tray = s.tray ∧
    (removeIfClosed s j).shelf = s.shelf ∧ (removeIfClosed s j).stapler = s.stapler ∧
    (removeIfClosed s j).tower = s.tower ∧ (removeIfClosed s j).stacker = s.stacker ∧
    (removeIfClosed s j).pockets = s.pockets ∧ (removeIfClosed s j).session = s.session ∧
    (removeIfClosed s j).tables = s.tables ∧ (removeIfClosed s j).path = s.path ∧
    (removeIfClosed s j).timers = s.timers ∧ (removeIfClosed s j).races = s.races ∧
    (removeIfClosed s j).pending = s.pending := by
  unfold removeIfClosed
  repeat' split
  all_goals simp

theorem foldl_removeIfClosed_frame (js : List Job) (s : State) :
    (js.foldl removeIfClosed s).run = s.run ∧ (js.foldl removeIfClosed s).fault = s.fault ∧
    (js.foldl removeIfClosed s).retentionValid = s.retentionValid ∧
    (js.foldl removeIfClosed s).straps = s.straps ∧ (js.foldl removeIfClosed s).pins = s.pins ∧
    (js.foldl removeIfClosed s).feeds = s.feeds ∧ (js.foldl removeIfClosed s).grant = s.grant ∧
    (js.foldl removeIfClosed s).tray = s.tray ∧ (js.foldl removeIfClosed s).shelf = s.shelf ∧
    (js.foldl removeIfClosed s).stapler = s.stapler ∧ (js.foldl removeIfClosed s).tower = s.tower ∧
    (js.foldl removeIfClosed s).stacker = s.stacker ∧ (js.foldl removeIfClosed s).pockets = s.pockets ∧
    (js.foldl removeIfClosed s).session = s.session ∧ (js.foldl removeIfClosed s).tables = s.tables ∧
    (js.foldl removeIfClosed s).path = s.path ∧ (js.foldl removeIfClosed s).timers = s.timers ∧
    (js.foldl removeIfClosed s).races = s.races ∧ (js.foldl removeIfClosed s).pending = s.pending := by
  induction js generalizing s with
  | nil => simp
  | cons j js ih => simpa using ih (removeIfClosed s j)

@[simp] theorem removeClosed_frame :
    (removeClosed s).run = s.run ∧ (removeClosed s).fault = s.fault ∧
    (removeClosed s).retentionValid = s.retentionValid ∧ (removeClosed s).straps = s.straps ∧
    (removeClosed s).pins = s.pins ∧ (removeClosed s).feeds = s.feeds ∧ (removeClosed s).grant = s.grant ∧
    (removeClosed s).tray = s.tray ∧ (removeClosed s).shelf = s.shelf ∧ (removeClosed s).stapler = s.stapler ∧
    (removeClosed s).tower = s.tower ∧ (removeClosed s).stacker = s.stacker ∧
    (removeClosed s).pockets = s.pockets ∧ (removeClosed s).session = s.session ∧
    (removeClosed s).tables = s.tables ∧ (removeClosed s).path = s.path ∧ (removeClosed s).timers = s.timers ∧
    (removeClosed s).races = s.races ∧ (removeClosed s).pending = s.pending := foldl_removeIfClosed_frame _ s

/-! ## Tables -/

@[simp] theorem takeRefs_frame (p c : Nat) :
    (takeRefs s p c).run = s.run ∧ (takeRefs s p c).fault = s.fault ∧
    (takeRefs s p c).retentionValid = s.retentionValid ∧ (takeRefs s p c).straps = s.straps ∧
    (takeRefs s p c).pins = s.pins ∧ (takeRefs s p c).links = s.links ∧ (takeRefs s p c).feeds = s.feeds ∧
    (takeRefs s p c).grant = s.grant ∧ (takeRefs s p c).tray = s.tray ∧ (takeRefs s p c).shelf = s.shelf ∧
    (takeRefs s p c).stapler = s.stapler ∧ (takeRefs s p c).tower = s.tower ∧
    (takeRefs s p c).stacker = s.stacker ∧ (takeRefs s p c).pockets = s.pockets ∧
    (takeRefs s p c).session = s.session ∧ (takeRefs s p c).jobs = s.jobs ∧ (takeRefs s p c).path = s.path ∧
    (takeRefs s p c).timers = s.timers ∧ (takeRefs s p c).races = s.races ∧ (takeRefs s p c).pending = s.pending := by
  simp [takeRefs]

@[simp] theorem dropRefs_frame (p c : Nat) :
    (dropRefs s p c).run = s.run ∧ (dropRefs s p c).fault = s.fault ∧
    (dropRefs s p c).retentionValid = s.retentionValid ∧ (dropRefs s p c).straps = s.straps ∧
    (dropRefs s p c).pins = s.pins ∧ (dropRefs s p c).links = s.links ∧ (dropRefs s p c).feeds = s.feeds ∧
    (dropRefs s p c).grant = s.grant ∧ (dropRefs s p c).tray = s.tray ∧ (dropRefs s p c).shelf = s.shelf ∧
    (dropRefs s p c).stapler = s.stapler ∧ (dropRefs s p c).tower = s.tower ∧
    (dropRefs s p c).stacker = s.stacker ∧ (dropRefs s p c).pockets = s.pockets ∧
    (dropRefs s p c).session = s.session ∧ (dropRefs s p c).jobs = s.jobs ∧ (dropRefs s p c).path = s.path ∧
    (dropRefs s p c).timers = s.timers ∧ (dropRefs s p c).races = s.races ∧ (dropRefs s p c).pending = s.pending := by
  simp [dropRefs]

@[simp] theorem commitDoneTest_frame (n : Nat) :
    (commitDoneTest s n).run = s.run ∧ (commitDoneTest s n).fault = s.fault ∧
    (commitDoneTest s n).retentionValid = s.retentionValid ∧ (commitDoneTest s n).straps = s.straps ∧
    (commitDoneTest s n).pins = s.pins ∧ (commitDoneTest s n).feeds = s.feeds ∧
    (commitDoneTest s n).grant = s.grant ∧ (commitDoneTest s n).tray = s.tray ∧
    (commitDoneTest s n).shelf = s.shelf ∧ (commitDoneTest s n).stapler = s.stapler ∧
    (commitDoneTest s n).tower = s.tower ∧ (commitDoneTest s n).stacker = s.stacker ∧
    (commitDoneTest s n).pockets = s.pockets ∧ (commitDoneTest s n).session = s.session ∧
    (commitDoneTest s n).jobs = s.jobs ∧ (commitDoneTest s n).tables = s.tables ∧
    (commitDoneTest s n).path = s.path ∧ (commitDoneTest s n).timers = s.timers ∧
    (commitDoneTest s n).races = s.races ∧ (commitDoneTest s n).pending = s.pending := by
  unfold commitDoneTest
  repeat' split
  all_goals simp

@[simp] theorem applyReleased_frame :
    (applyReleased s).run = s.run ∧ (applyReleased s).fault = s.fault ∧
    (applyReleased s).retentionValid = s.retentionValid ∧ (applyReleased s).straps = s.straps ∧
    (applyReleased s).pins = s.pins ∧ (applyReleased s).feeds = s.feeds ∧ (applyReleased s).grant = s.grant ∧
    (applyReleased s).tray = s.tray ∧ (applyReleased s).shelf = s.shelf ∧
    (applyReleased s).stapler = s.stapler ∧ (applyReleased s).tower = s.tower ∧
    (applyReleased s).stacker = s.stacker ∧ (applyReleased s).pockets = s.pockets ∧
    (applyReleased s).session = s.session ∧ (applyReleased s).jobs = s.jobs ∧ (applyReleased s).path = s.path ∧
    (applyReleased s).timers = s.timers ∧ (applyReleased s).races = s.races ∧
    (applyReleased s).pending = s.pending := by
  unfold applyReleased
  dsimp only
  split <;> simp

@[simp] theorem load_frame (code : Nat) (j : Tables → List Data → LoadResult) (l : Link) (f : Frame) :
    (load code j l f s).run = s.run ∧ (load code j l f s).fault = s.fault ∧
    (load code j l f s).retentionValid = s.retentionValid ∧ (load code j l f s).straps = s.straps ∧
    (load code j l f s).pins = s.pins ∧ (load code j l f s).feeds = s.feeds ∧
    (load code j l f s).grant = s.grant ∧ (load code j l f s).tray = s.tray ∧
    (load code j l f s).shelf = s.shelf ∧ (load code j l f s).stapler = s.stapler ∧
    (load code j l f s).tower = s.tower ∧ (load code j l f s).stacker = s.stacker ∧
    (load code j l f s).pockets = s.pockets ∧ (load code j l f s).session = s.session ∧
    (load code j l f s).jobs = s.jobs ∧ (load code j l f s).path = s.path ∧
    (load code j l f s).timers = s.timers ∧ (load code j l f s).races = s.races ∧
    (load code j l f s).pending = s.pending := by
  unfold load
  generalize (if field f.payload 0 = code then j s.tables f.payload else .refused) = r
  cases r <;> simp

/-! ## Feed queues -/

@[simp] theorem changeHead_frame (l : Link) (f : QueueEntry → QueueEntry) :
    (changeHead s l f).run = s.run ∧ (changeHead s l f).fault = s.fault ∧
    (changeHead s l f).retentionValid = s.retentionValid ∧ (changeHead s l f).straps = s.straps ∧
    (changeHead s l f).pins = s.pins ∧ (changeHead s l f).links = s.links ∧
    (changeHead s l f).grant = s.grant ∧ (changeHead s l f).tray = s.tray ∧
    (changeHead s l f).shelf = s.shelf ∧ (changeHead s l f).stapler = s.stapler ∧
    (changeHead s l f).tower = s.tower ∧ (changeHead s l f).stacker = s.stacker ∧
    (changeHead s l f).pockets = s.pockets ∧ (changeHead s l f).session = s.session ∧
    (changeHead s l f).jobs = s.jobs ∧ (changeHead s l f).tables = s.tables ∧
    (changeHead s l f).path = s.path ∧ (changeHead s l f).timers = s.timers ∧
    (changeHead s l f).races = s.races ∧ (changeHead s l f).pending = s.pending := by
  simp [changeHead]

@[simp] theorem captureHead_frame (l : Link) (d : Desc) (r : FaultyReason) :
    (captureHead s l d r).run = s.run ∧ (captureHead s l d r).fault = s.fault ∧
    (captureHead s l d r).retentionValid = s.retentionValid ∧ (captureHead s l d r).straps = s.straps ∧
    (captureHead s l d r).pins = s.pins ∧ (captureHead s l d r).grant = s.grant ∧
    (captureHead s l d r).tray = s.tray ∧ (captureHead s l d r).shelf = s.shelf ∧
    (captureHead s l d r).stapler = s.stapler ∧ (captureHead s l d r).tower = s.tower ∧
    (captureHead s l d r).stacker = s.stacker ∧ (captureHead s l d r).pockets = s.pockets ∧
    (captureHead s l d r).session = s.session ∧ (captureHead s l d r).jobs = s.jobs ∧
    (captureHead s l d r).tables = s.tables ∧ (captureHead s l d r).path = s.path ∧
    (captureHead s l d r).timers = s.timers ∧ (captureHead s l d r).races = s.races ∧
    (captureHead s l d r).pending = s.pending := by
  simp [captureHead]

@[simp] theorem newHead_frame (l : Link) :
    (newHead s l).run = s.run ∧ (newHead s l).fault = s.fault ∧
    (newHead s l).retentionValid = s.retentionValid ∧ (newHead s l).straps = s.straps ∧
    (newHead s l).pins = s.pins ∧ (newHead s l).grant = s.grant ∧ (newHead s l).tray = s.tray ∧
    (newHead s l).shelf = s.shelf ∧ (newHead s l).stapler = s.stapler ∧ (newHead s l).tower = s.tower ∧
    (newHead s l).stacker = s.stacker ∧ (newHead s l).pockets = s.pockets ∧ (newHead s l).session = s.session ∧
    (newHead s l).jobs = s.jobs ∧ (newHead s l).tables = s.tables ∧ (newHead s l).path = s.path ∧
    (newHead s l).timers = s.timers ∧ (newHead s l).races = s.races ∧ (newHead s l).pending = s.pending := by
  unfold newHead
  split
  · simp
  · dsimp only
    split <;> simp

@[simp] theorem appendDesc_frame (l : Link) (d : Desc) :
    (appendDesc s l d).run = s.run ∧ (appendDesc s l d).fault = s.fault ∧
    (appendDesc s l d).retentionValid = s.retentionValid ∧ (appendDesc s l d).straps = s.straps ∧
    (appendDesc s l d).pins = s.pins ∧ (appendDesc s l d).links = s.links ∧
    (appendDesc s l d).grant = s.grant ∧ (appendDesc s l d).tray = s.tray ∧
    (appendDesc s l d).shelf = s.shelf ∧ (appendDesc s l d).stapler = s.stapler ∧
    (appendDesc s l d).tower = s.tower ∧ (appendDesc s l d).stacker = s.stacker ∧
    (appendDesc s l d).pockets = s.pockets ∧ (appendDesc s l d).session = s.session ∧
    (appendDesc s l d).jobs = s.jobs ∧ (appendDesc s l d).tables = s.tables ∧
    (appendDesc s l d).path = s.path ∧ (appendDesc s l d).timers = s.timers ∧
    (appendDesc s l d).races = s.races ∧ (appendDesc s l d).pending = s.pending := by
  simp [appendDesc]

@[simp] theorem arrive_frame (l : Link) (d : Desc) :
    (arrive s l d).run = s.run ∧ (arrive s l d).fault = s.fault ∧
    (arrive s l d).retentionValid = s.retentionValid ∧ (arrive s l d).straps = s.straps ∧
    (arrive s l d).pins = s.pins ∧ (arrive s l d).grant = s.grant ∧ (arrive s l d).tray = s.tray ∧
    (arrive s l d).shelf = s.shelf ∧ (arrive s l d).stapler = s.stapler ∧ (arrive s l d).tower = s.tower ∧
    (arrive s l d).stacker = s.stacker ∧ (arrive s l d).pockets = s.pockets ∧
    (arrive s l d).session = s.session ∧ (arrive s l d).jobs = s.jobs ∧ (arrive s l d).tables = s.tables ∧
    (arrive s l d).path = s.path ∧ (arrive s l d).timers = s.timers ∧ (arrive s l d).races = s.races ∧
    (arrive s l d).pending = s.pending := by
  unfold arrive
  repeat' split
  all_goals simp

/-! ## Tower -/

@[simp] theorem fillUp_frame (p r j : Nat) (c : Option Nat) :
    (fillUp s p r j c).run = s.run ∧ (fillUp s p r j c).fault = s.fault ∧
    (fillUp s p r j c).retentionValid = s.retentionValid ∧ (fillUp s p r j c).straps = s.straps ∧
    (fillUp s p r j c).pins = s.pins ∧ (fillUp s p r j c).feeds = s.feeds ∧
    (fillUp s p r j c).grant = s.grant ∧ (fillUp s p r j c).tray = s.tray ∧
    (fillUp s p r j c).shelf = s.shelf ∧ (fillUp s p r j c).stapler = s.stapler ∧
    (fillUp s p r j c).tower = s.tower ∧ (fillUp s p r j c).stacker = s.stacker ∧
    (fillUp s p r j c).session = s.session ∧ (fillUp s p r j c).jobs = s.jobs ∧
    (fillUp s p r j c).tables = s.tables ∧ (fillUp s p r j c).path = s.path ∧
    (fillUp s p r j c).timers = s.timers ∧ (fillUp s p r j c).races = s.races ∧
    (fillUp s p r j c).pending = s.pending := by
  simp [fillUp]

@[simp] theorem judgeOptions_frame (s : State) (g : Segment) (c : Nat) (os : List ChainOption) :
    ((judgeOptions s g c os).1).run = s.run ∧ ((judgeOptions s g c os).1).fault = s.fault ∧
    ((judgeOptions s g c os).1).retentionValid = s.retentionValid ∧
    ((judgeOptions s g c os).1).straps = s.straps ∧ ((judgeOptions s g c os).1).pins = s.pins ∧
    ((judgeOptions s g c os).1).feeds = s.feeds ∧ ((judgeOptions s g c os).1).grant = s.grant ∧
    ((judgeOptions s g c os).1).tray = s.tray ∧ ((judgeOptions s g c os).1).shelf = s.shelf ∧
    ((judgeOptions s g c os).1).stapler = s.stapler ∧ ((judgeOptions s g c os).1).tower = s.tower ∧
    ((judgeOptions s g c os).1).stacker = s.stacker ∧ ((judgeOptions s g c os).1).session = s.session ∧
    ((judgeOptions s g c os).1).jobs = s.jobs ∧ ((judgeOptions s g c os).1).tables = s.tables ∧
    ((judgeOptions s g c os).1).path = s.path ∧ ((judgeOptions s g c os).1).timers = s.timers ∧
    ((judgeOptions s g c os).1).races = s.races ∧ ((judgeOptions s g c os).1).pending = s.pending := by
  induction os generalizing s with
  | nil => simp [judgeOptions]
  | cons o os ih =>
    unfold judgeOptions
    split
    · split
      · simp
      · exact ih s
    · rename_i p _
      repeat' split
      · simp
      · simpa using ih (fillUp s p g.replyTag g.job (some c))
      · exact ih s

@[simp] theorem block_frame (g : Segment) (c : Nat) :
    (block s g c).run = s.run ∧ (block s g c).fault = s.fault ∧
    (block s g c).retentionValid = s.retentionValid ∧ (block s g c).straps = s.straps ∧
    (block s g c).pins = s.pins ∧ (block s g c).feeds = s.feeds ∧ (block s g c).grant = s.grant ∧
    (block s g c).tray = s.tray ∧ (block s g c).shelf = s.shelf ∧ (block s g c).stapler = s.stapler ∧
    (block s g c).stacker = s.stacker ∧ (block s g c).pockets = s.pockets ∧ (block s g c).session = s.session ∧
    (block s g c).jobs = s.jobs ∧ (block s g c).tables = s.tables ∧ (block s g c).path = s.path ∧
    (block s g c).races = s.races ∧ (block s g c).pending = s.pending := by
  unfold block
  dsimp only
  split <;> simp

@[simp] theorem aim_frame (s : State) (os : List ChainOption) :
    (aim s os).run = s.run ∧ (aim s os).fault = s.fault ∧ (aim s os).retentionValid = s.retentionValid ∧
    (aim s os).straps = s.straps ∧ (aim s os).pins = s.pins ∧ (aim s os).feeds = s.feeds ∧
    (aim s os).grant = s.grant ∧ (aim s os).tray = s.tray ∧ (aim s os).shelf = s.shelf ∧
    (aim s os).stapler = s.stapler ∧ (aim s os).stacker = s.stacker ∧ (aim s os).session = s.session ∧
    (aim s os).jobs = s.jobs ∧ (aim s os).tables = s.tables ∧ (aim s os).path = s.path ∧
    (aim s os).races = s.races ∧ (aim s os).pending = s.pending := by
  unfold aim
  split
  · rename_i g c _ _
    have h := judgeOptions_frame s g c os
    split
    all_goals
      rename_i heq
      rw [heq] at h
      dsimp only at h
      simp [h]
  · simp

@[simp] theorem retry_frame :
    (retry s).run = s.run ∧ (retry s).fault = s.fault ∧ (retry s).retentionValid = s.retentionValid ∧
    (retry s).straps = s.straps ∧ (retry s).pins = s.pins ∧ (retry s).feeds = s.feeds ∧
    (retry s).grant = s.grant ∧ (retry s).tray = s.tray ∧ (retry s).shelf = s.shelf ∧
    (retry s).stapler = s.stapler ∧ (retry s).stacker = s.stacker ∧ (retry s).session = s.session ∧
    (retry s).jobs = s.jobs ∧ (retry s).tables = s.tables ∧ (retry s).path = s.path ∧
    (retry s).races = s.races ∧ (retry s).pending = s.pending := by
  unfold retry
  repeat' split
  all_goals simp

@[simp] theorem retarget_frame (p : Nat) :
    (retarget s p).run = s.run ∧ (retarget s p).fault = s.fault ∧
    (retarget s p).retentionValid = s.retentionValid ∧ (retarget s p).straps = s.straps ∧
    (retarget s p).pins = s.pins ∧ (retarget s p).feeds = s.feeds ∧ (retarget s p).grant = s.grant ∧
    (retarget s p).tray = s.tray ∧ (retarget s p).shelf = s.shelf ∧ (retarget s p).stapler = s.stapler ∧
    (retarget s p).stacker = s.stacker ∧ (retarget s p).session = s.session ∧ (retarget s p).jobs = s.jobs ∧
    (retarget s p).tables = s.tables ∧ (retarget s p).path = s.path ∧ (retarget s p).races = s.races ∧
    (retarget s p).pending = s.pending := by
  unfold retarget
  repeat' split
  all_goals simp

@[simp] theorem depositInto_frame (g : Segment) (c : Nat) (d : Dest) :
    (depositInto s g c d).run = s.run ∧ (depositInto s g c d).fault = s.fault ∧
    (depositInto s g c d).retentionValid = s.retentionValid ∧ (depositInto s g c d).straps = s.straps ∧
    (depositInto s g c d).pins = s.pins ∧ (depositInto s g c d).feeds = s.feeds ∧
    (depositInto s g c d).grant = s.grant ∧ (depositInto s g c d).tray = s.tray ∧
    (depositInto s g c d).shelf = s.shelf ∧ (depositInto s g c d).stapler = s.stapler ∧
    (depositInto s g c d).tower = s.tower ∧ (depositInto s g c d).session = s.session ∧
    (depositInto s g c d).jobs = s.jobs ∧ (depositInto s g c d).tables = s.tables ∧
    (depositInto s g c d).path = s.path ∧ (depositInto s g c d).timers = s.timers ∧
    (depositInto s g c d).races = s.races ∧ (depositInto s g c d).pending = s.pending := by
  cases d
  · unfold depositInto
    dsimp only
    split <;> simp
  · simp [depositInto]

@[simp] theorem withdrawPocket_frame (p : Nat) :
    (withdrawPocket s p).run = s.run ∧ (withdrawPocket s p).fault = s.fault ∧
    (withdrawPocket s p).retentionValid = s.retentionValid ∧ (withdrawPocket s p).straps = s.straps ∧
    (withdrawPocket s p).pins = s.pins ∧ (withdrawPocket s p).feeds = s.feeds ∧
    (withdrawPocket s p).grant = s.grant ∧ (withdrawPocket s p).tray = s.tray ∧
    (withdrawPocket s p).shelf = s.shelf ∧ (withdrawPocket s p).stapler = s.stapler ∧
    (withdrawPocket s p).tower = s.tower ∧ (withdrawPocket s p).stacker = s.stacker ∧
    (withdrawPocket s p).session = s.session ∧ (withdrawPocket s p).jobs = s.jobs ∧
    (withdrawPocket s p).tables = s.tables ∧ (withdrawPocket s p).path = s.path ∧
    (withdrawPocket s p).timers = s.timers ∧ (withdrawPocket s p).races = s.races ∧
    (withdrawPocket s p).pending = s.pending := by
  simp [withdrawPocket]

@[simp] theorem notifyReturned_frame (p : Nat) :
    (notifyReturned s p).run = s.run ∧ (notifyReturned s p).fault = s.fault ∧
    (notifyReturned s p).retentionValid = s.retentionValid ∧ (notifyReturned s p).straps = s.straps ∧
    (notifyReturned s p).pins = s.pins ∧ (notifyReturned s p).feeds = s.feeds ∧
    (notifyReturned s p).grant = s.grant ∧ (notifyReturned s p).tray = s.tray ∧
    (notifyReturned s p).shelf = s.shelf ∧ (notifyReturned s p).stapler = s.stapler ∧
    (notifyReturned s p).tower = s.tower ∧ (notifyReturned s p).stacker = s.stacker ∧
    (notifyReturned s p).pockets = s.pockets ∧ (notifyReturned s p).session = s.session ∧
    (notifyReturned s p).jobs = s.jobs ∧ (notifyReturned s p).tables = s.tables ∧
    (notifyReturned s p).path = s.path ∧ (notifyReturned s p).timers = s.timers ∧
    (notifyReturned s p).races = s.races ∧ (notifyReturned s p).pending = s.pending := by
  simp [notifyReturned]

@[simp] theorem notifyRefilled_frame (p : Nat) :
    (notifyRefilled s p).run = s.run ∧ (notifyRefilled s p).fault = s.fault ∧
    (notifyRefilled s p).retentionValid = s.retentionValid ∧ (notifyRefilled s p).straps = s.straps ∧
    (notifyRefilled s p).pins = s.pins ∧ (notifyRefilled s p).feeds = s.feeds ∧
    (notifyRefilled s p).grant = s.grant ∧ (notifyRefilled s p).tray = s.tray ∧
    (notifyRefilled s p).shelf = s.shelf ∧ (notifyRefilled s p).stapler = s.stapler ∧
    (notifyRefilled s p).tower = s.tower ∧ (notifyRefilled s p).stacker = s.stacker ∧
    (notifyRefilled s p).pockets = s.pockets ∧ (notifyRefilled s p).session = s.session ∧
    (notifyRefilled s p).jobs = s.jobs ∧ (notifyRefilled s p).tables = s.tables ∧
    (notifyRefilled s p).path = s.path ∧ (notifyRefilled s p).timers = s.timers ∧
    (notifyRefilled s p).races = s.races ∧ (notifyRefilled s p).pending = s.pending := by
  unfold notifyRefilled
  split <;> simp

@[simp] theorem tellReturned_frame (p : Nat) :
    (tellReturned s p).run = s.run ∧ (tellReturned s p).fault = s.fault ∧
    (tellReturned s p).retentionValid = s.retentionValid ∧ (tellReturned s p).straps = s.straps ∧
    (tellReturned s p).pins = s.pins ∧ (tellReturned s p).feeds = s.feeds ∧
    (tellReturned s p).grant = s.grant ∧ (tellReturned s p).tray = s.tray ∧
    (tellReturned s p).shelf = s.shelf ∧ (tellReturned s p).stapler = s.stapler ∧
    (tellReturned s p).tower = s.tower ∧ (tellReturned s p).stacker = s.stacker ∧
    (tellReturned s p).pockets = s.pockets ∧ (tellReturned s p).session = s.session ∧
    (tellReturned s p).jobs = s.jobs ∧ (tellReturned s p).tables = s.tables ∧
    (tellReturned s p).path = s.path ∧ (tellReturned s p).timers = s.timers ∧
    (tellReturned s p).races = s.races ∧ (tellReturned s p).pending = s.pending := by
  simp [tellReturned]

@[simp] theorem reactPocket_frame (p : Nat) (o : PocketConfig) :
    (reactPocket s p o).run = s.run ∧ (reactPocket s p o).fault = s.fault ∧
    (reactPocket s p o).retentionValid = s.retentionValid ∧ (reactPocket s p o).straps = s.straps ∧
    (reactPocket s p o).pins = s.pins ∧ (reactPocket s p o).feeds = s.feeds ∧
    (reactPocket s p o).grant = s.grant ∧ (reactPocket s p o).tray = s.tray ∧
    (reactPocket s p o).shelf = s.shelf ∧ (reactPocket s p o).stapler = s.stapler ∧
    (reactPocket s p o).tower = s.tower ∧ (reactPocket s p o).stacker = s.stacker ∧
    (reactPocket s p o).session = s.session ∧ (reactPocket s p o).jobs = s.jobs ∧
    (reactPocket s p o).tables = s.tables ∧ (reactPocket s p o).path = s.path ∧
    (reactPocket s p o).timers = s.timers ∧ (reactPocket s p o).races = s.races ∧
    (reactPocket s p o).pending = s.pending := by
  unfold reactPocket
  dsimp only
  split <;> simp

/-! ## Insert session -/

@[simp] theorem releaseTower_frame (c : EndCause) :
    (releaseTower s c).run = s.run ∧ (releaseTower s c).fault = s.fault ∧
    (releaseTower s c).retentionValid = s.retentionValid ∧ (releaseTower s c).straps = s.straps ∧
    (releaseTower s c).pins = s.pins ∧ (releaseTower s c).links = s.links ∧
    (releaseTower s c).feeds = s.feeds ∧ (releaseTower s c).grant = s.grant ∧
    (releaseTower s c).tray = s.tray ∧ (releaseTower s c).shelf = s.shelf ∧
    (releaseTower s c).stapler = s.stapler ∧ (releaseTower s c).stacker = s.stacker ∧
    (releaseTower s c).pockets = s.pockets ∧ (releaseTower s c).session = s.session ∧
    (releaseTower s c).jobs = s.jobs ∧ (releaseTower s c).tables = s.tables ∧
    (releaseTower s c).path = s.path ∧ (releaseTower s c).races = s.races ∧
    (releaseTower s c).pending = s.pending := by
  cases c <;> simp [releaseTower]

@[simp] theorem endSession_frame (z : Session) (c : EndCause) :
    (endSession s z c).run = s.run ∧ (endSession s z c).fault = s.fault ∧
    (endSession s z c).retentionValid = s.retentionValid ∧ (endSession s z c).straps = s.straps ∧
    (endSession s z c).pins = s.pins ∧ (endSession s z c).feeds = s.feeds ∧
    (endSession s z c).grant = s.grant ∧ (endSession s z c).tray = s.tray ∧
    (endSession s z c).shelf = s.shelf ∧ (endSession s z c).stapler = s.stapler ∧
    (endSession s z c).stacker = s.stacker ∧ (endSession s z c).pockets = s.pockets ∧
    (endSession s z c).tables = s.tables ∧ (endSession s z c).path = s.path ∧
    (endSession s z c).races = s.races ∧ (endSession s z c).pending = s.pending := by
  unfold endSession
  dsimp only
  split <;> simp

@[simp] theorem sessionTakesTower_frame :
    (sessionTakesTower s).run = s.run ∧ (sessionTakesTower s).fault = s.fault ∧
    (sessionTakesTower s).retentionValid = s.retentionValid ∧ (sessionTakesTower s).straps = s.straps ∧
    (sessionTakesTower s).pins = s.pins ∧ (sessionTakesTower s).feeds = s.feeds ∧
    (sessionTakesTower s).grant = s.grant ∧ (sessionTakesTower s).tray = s.tray ∧
    (sessionTakesTower s).shelf = s.shelf ∧ (sessionTakesTower s).stapler = s.stapler ∧
    (sessionTakesTower s).stacker = s.stacker ∧ (sessionTakesTower s).pockets = s.pockets ∧
    (sessionTakesTower s).tables = s.tables ∧ (sessionTakesTower s).path = s.path ∧
    (sessionTakesTower s).races = s.races ∧ (sessionTakesTower s).pending = s.pending := by
  unfold sessionTakesTower
  repeat' split
  all_goals simp

@[simp] theorem endSessionAt_frame (p : Nat) (c : EndCause) :
    (endSessionAt s p c).run = s.run ∧ (endSessionAt s p c).fault = s.fault ∧
    (endSessionAt s p c).retentionValid = s.retentionValid ∧ (endSessionAt s p c).straps = s.straps ∧
    (endSessionAt s p c).pins = s.pins ∧ (endSessionAt s p c).feeds = s.feeds ∧
    (endSessionAt s p c).grant = s.grant ∧ (endSessionAt s p c).tray = s.tray ∧
    (endSessionAt s p c).shelf = s.shelf ∧ (endSessionAt s p c).stapler = s.stapler ∧
    (endSessionAt s p c).stacker = s.stacker ∧ (endSessionAt s p c).pockets = s.pockets ∧
    (endSessionAt s p c).tables = s.tables ∧ (endSessionAt s p c).path = s.path ∧
    (endSessionAt s p c).races = s.races ∧ (endSessionAt s p c).pending = s.pending := by
  unfold endSessionAt
  repeat' split
  all_goals simp

@[simp] theorem addSheetToPocket_frame (z : Session) :
    (addSheetToPocket s z).run = s.run ∧ (addSheetToPocket s z).fault = s.fault ∧
    (addSheetToPocket s z).retentionValid = s.retentionValid ∧ (addSheetToPocket s z).straps = s.straps ∧
    (addSheetToPocket s z).pins = s.pins ∧ (addSheetToPocket s z).feeds = s.feeds ∧
    (addSheetToPocket s z).grant = s.grant ∧ (addSheetToPocket s z).tray = s.tray ∧
    (addSheetToPocket s z).shelf = s.shelf ∧ (addSheetToPocket s z).stapler = s.stapler ∧
    (addSheetToPocket s z).tower = s.tower ∧ (addSheetToPocket s z).stacker = s.stacker ∧
    (addSheetToPocket s z).session = s.session ∧ (addSheetToPocket s z).jobs = s.jobs ∧
    (addSheetToPocket s z).tables = s.tables ∧ (addSheetToPocket s z).path = s.path ∧
    (addSheetToPocket s z).timers = s.timers ∧ (addSheetToPocket s z).races = s.races ∧
    (addSheetToPocket s z).pending = s.pending := by
  unfold addSheetToPocket
  dsimp only
  split <;> simp

@[simp] theorem answerDrawerOpen_frame (p : Nat) :
    (answerDrawerOpen s p).run = s.run ∧ (answerDrawerOpen s p).fault = s.fault ∧
    (answerDrawerOpen s p).retentionValid = s.retentionValid ∧ (answerDrawerOpen s p).straps = s.straps ∧
    (answerDrawerOpen s p).pins = s.pins ∧ (answerDrawerOpen s p).feeds = s.feeds ∧
    (answerDrawerOpen s p).grant = s.grant ∧ (answerDrawerOpen s p).tray = s.tray ∧
    (answerDrawerOpen s p).shelf = s.shelf ∧ (answerDrawerOpen s p).stapler = s.stapler ∧
    (answerDrawerOpen s p).stacker = s.stacker ∧ (answerDrawerOpen s p).session = s.session ∧
    (answerDrawerOpen s p).jobs = s.jobs ∧ (answerDrawerOpen s p).tables = s.tables ∧
    (answerDrawerOpen s p).path = s.path ∧ (answerDrawerOpen s p).races = s.races ∧
    (answerDrawerOpen s p).pending = s.pending := by
  unfold answerDrawerOpen
  repeat' split
  all_goals simp

/-! ## Tray and stapler -/

@[simp] theorem tryEject_frame :
    (tryEject s).run = s.run ∧ (tryEject s).fault = s.fault ∧ (tryEject s).retentionValid = s.retentionValid ∧
    (tryEject s).straps = s.straps ∧ (tryEject s).pins = s.pins ∧ (tryEject s).links = s.links ∧
    (tryEject s).feeds = s.feeds ∧ (tryEject s).grant = s.grant ∧ (tryEject s).shelf = s.shelf ∧
    (tryEject s).stapler = s.stapler ∧ (tryEject s).stacker = s.stacker ∧ (tryEject s).pockets = s.pockets ∧
    (tryEject s).session = s.session ∧ (tryEject s).jobs = s.jobs ∧ (tryEject s).tables = s.tables ∧
    (tryEject s).path = s.path ∧ (tryEject s).races = s.races ∧ (tryEject s).pending = s.pending := by
  unfold tryEject
  repeat' split
  all_goals simp

@[simp] theorem toReady_frame :
    (toReady s).run = s.run ∧ (toReady s).fault = s.fault ∧ (toReady s).retentionValid = s.retentionValid ∧
    (toReady s).straps = s.straps ∧ (toReady s).pins = s.pins ∧ (toReady s).links = s.links ∧
    (toReady s).feeds = s.feeds ∧ (toReady s).grant = s.grant ∧ (toReady s).shelf = s.shelf ∧
    (toReady s).stapler = s.stapler ∧ (toReady s).stacker = s.stacker ∧ (toReady s).pockets = s.pockets ∧
    (toReady s).session = s.session ∧ (toReady s).jobs = s.jobs ∧ (toReady s).tables = s.tables ∧
    (toReady s).path = s.path ∧ (toReady s).races = s.races ∧ (toReady s).pending = s.pending := by
  unfold toReady
  repeat' split
  all_goals simp

@[simp] theorem requestFire_frame (r : SetRec) :
    (requestFire s r).run = s.run ∧ (requestFire s r).fault = s.fault ∧
    (requestFire s r).retentionValid = s.retentionValid ∧ (requestFire s r).straps = s.straps ∧
    (requestFire s r).pins = s.pins ∧ (requestFire s r).links = s.links ∧ (requestFire s r).feeds = s.feeds ∧
    (requestFire s r).grant = s.grant ∧ (requestFire s r).tray = s.tray ∧ (requestFire s r).shelf = s.shelf ∧
    (requestFire s r).tower = s.tower ∧ (requestFire s r).stacker = s.stacker ∧
    (requestFire s r).pockets = s.pockets ∧ (requestFire s r).session = s.session ∧
    (requestFire s r).jobs = s.jobs ∧ (requestFire s r).tables = s.tables ∧ (requestFire s r).path = s.path ∧
    (requestFire s r).races = s.races ∧ (requestFire s r).pending = s.pending := by
  unfold requestFire
  dsimp only
  split <;> simp

@[simp] theorem markUnstapled_frame (j : Bool) :
    (markUnstapled s j).run = s.run ∧ (markUnstapled s j).fault = s.fault ∧
    (markUnstapled s j).retentionValid = s.retentionValid ∧ (markUnstapled s j).straps = s.straps ∧
    (markUnstapled s j).pins = s.pins ∧ (markUnstapled s j).links = s.links ∧
    (markUnstapled s j).feeds = s.feeds ∧ (markUnstapled s j).grant = s.grant ∧
    (markUnstapled s j).shelf = s.shelf ∧ (markUnstapled s j).stapler = s.stapler ∧
    (markUnstapled s j).tower = s.tower ∧ (markUnstapled s j).stacker = s.stacker ∧
    (markUnstapled s j).pockets = s.pockets ∧ (markUnstapled s j).session = s.session ∧
    (markUnstapled s j).jobs = s.jobs ∧ (markUnstapled s j).tables = s.tables ∧
    (markUnstapled s j).path = s.path ∧ (markUnstapled s j).timers = s.timers ∧
    (markUnstapled s j).races = s.races ∧ (markUnstapled s j).pending = s.pending := by
  simp [markUnstapled]

@[simp] theorem stapleDecision_frame :
    (stapleDecision s).run = s.run ∧ (stapleDecision s).fault = s.fault ∧
    (stapleDecision s).retentionValid = s.retentionValid ∧ (stapleDecision s).straps = s.straps ∧
    (stapleDecision s).pins = s.pins ∧ (stapleDecision s).links = s.links ∧
    (stapleDecision s).feeds = s.feeds ∧ (stapleDecision s).grant = s.grant ∧
    (stapleDecision s).shelf = s.shelf ∧ (stapleDecision s).stacker = s.stacker ∧
    (stapleDecision s).pockets = s.pockets ∧ (stapleDecision s).session = s.session ∧
    (stapleDecision s).jobs = s.jobs ∧ (stapleDecision s).tables = s.tables ∧
    (stapleDecision s).path = s.path ∧ (stapleDecision s).races = s.races ∧
    (stapleDecision s).pending = s.pending := by
  unfold stapleDecision
  split
  · simp
  · dsimp only
    repeat' split
    all_goals simp

@[simp] theorem reportFired_frame :
    (reportFired s).run = s.run ∧ (reportFired s).fault = s.fault ∧
    (reportFired s).retentionValid = s.retentionValid ∧ (reportFired s).straps = s.straps ∧
    (reportFired s).pins = s.pins ∧ (reportFired s).links = s.links ∧ (reportFired s).feeds = s.feeds ∧
    (reportFired s).grant = s.grant ∧ (reportFired s).shelf = s.shelf ∧ (reportFired s).stacker = s.stacker ∧
    (reportFired s).pockets = s.pockets ∧ (reportFired s).session = s.session ∧ (reportFired s).jobs = s.jobs ∧
    (reportFired s).tables = s.tables ∧ (reportFired s).path = s.path ∧ (reportFired s).races = s.races ∧
    (reportFired s).pending = s.pending := by
  unfold reportFired
  split
  · dsimp only
    split <;> simp
  · simp

@[simp] theorem reportJam_frame :
    (reportJam s).run = s.run ∧ (reportJam s).fault = s.fault ∧
    (reportJam s).retentionValid = s.retentionValid ∧ (reportJam s).straps = s.straps ∧
    (reportJam s).pins = s.pins ∧ (reportJam s).links = s.links ∧ (reportJam s).feeds = s.feeds ∧
    (reportJam s).grant = s.grant ∧ (reportJam s).shelf = s.shelf ∧ (reportJam s).stacker = s.stacker ∧
    (reportJam s).pockets = s.pockets ∧ (reportJam s).session = s.session ∧ (reportJam s).jobs = s.jobs ∧
    (reportJam s).tables = s.tables ∧ (reportJam s).path = s.path ∧ (reportJam s).races = s.races ∧
    (reportJam s).pending = s.pending := by
  simp [reportJam]

@[simp] theorem splitWaitOver_frame :
    (splitWaitOver s).run = s.run ∧ (splitWaitOver s).fault = s.fault ∧
    (splitWaitOver s).retentionValid = s.retentionValid ∧ (splitWaitOver s).straps = s.straps ∧
    (splitWaitOver s).pins = s.pins ∧ (splitWaitOver s).links = s.links ∧ (splitWaitOver s).feeds = s.feeds ∧
    (splitWaitOver s).grant = s.grant ∧ (splitWaitOver s).shelf = s.shelf ∧
    (splitWaitOver s).stacker = s.stacker ∧ (splitWaitOver s).pockets = s.pockets ∧
    (splitWaitOver s).session = s.session ∧ (splitWaitOver s).jobs = s.jobs ∧
    (splitWaitOver s).tables = s.tables ∧ (splitWaitOver s).path = s.path ∧ (splitWaitOver s).races = s.races ∧
    (splitWaitOver s).pending = s.pending := by
  unfold splitWaitOver
  repeat' split
  all_goals simp

@[simp] theorem beginSplit_frame :
    (beginSplit s).run = s.run ∧ (beginSplit s).fault = s.fault ∧
    (beginSplit s).retentionValid = s.retentionValid ∧ (beginSplit s).straps = s.straps ∧
    (beginSplit s).pins = s.pins ∧ (beginSplit s).links = s.links ∧ (beginSplit s).feeds = s.feeds ∧
    (beginSplit s).grant = s.grant ∧ (beginSplit s).shelf = s.shelf ∧ (beginSplit s).stacker = s.stacker ∧
    (beginSplit s).pockets = s.pockets ∧ (beginSplit s).session = s.session ∧ (beginSplit s).jobs = s.jobs ∧
    (beginSplit s).tables = s.tables ∧ (beginSplit s).path = s.path ∧ (beginSplit s).races = s.races ∧
    (beginSplit s).pending = s.pending := by
  simp [beginSplit]

@[simp] theorem emptyOutcome_frame (r : SetRec) :
    (emptyOutcome s r).run = s.run ∧ (emptyOutcome s r).fault = s.fault ∧
    (emptyOutcome s r).retentionValid = s.retentionValid ∧ (emptyOutcome s r).straps = s.straps ∧
    (emptyOutcome s r).pins = s.pins ∧ (emptyOutcome s r).feeds = s.feeds ∧
    (emptyOutcome s r).grant = s.grant ∧ (emptyOutcome s r).shelf = s.shelf ∧
    (emptyOutcome s r).stapler = s.stapler ∧ (emptyOutcome s r).tower = s.tower ∧
    (emptyOutcome s r).stacker = s.stacker ∧ (emptyOutcome s r).pockets = s.pockets ∧
    (emptyOutcome s r).session = s.session ∧ (emptyOutcome s r).path = s.path ∧
    (emptyOutcome s r).timers = s.timers ∧ (emptyOutcome s r).races = s.races ∧
    (emptyOutcome s r).pending = s.pending := by
  simp [emptyOutcome]

@[simp] theorem closeFinal_frame (r : SetRec) :
    (closeFinal s r).run = s.run ∧ (closeFinal s r).fault = s.fault ∧
    (closeFinal s r).retentionValid = s.retentionValid ∧ (closeFinal s r).straps = s.straps ∧
    (closeFinal s r).pins = s.pins ∧ (closeFinal s r).feeds = s.feeds ∧ (closeFinal s r).grant = s.grant ∧
    (closeFinal s r).shelf = s.shelf ∧ (closeFinal s r).stacker = s.stacker ∧
    (closeFinal s r).pockets = s.pockets ∧ (closeFinal s r).session = s.session ∧
    (closeFinal s r).path = s.path ∧ (closeFinal s r).races = s.races ∧ (closeFinal s r).pending = s.pending := by
  unfold closeFinal
  dsimp only
  repeat' split
  all_goals simp

@[simp] theorem trayToldDeposit_frame (g : Segment) :
    (trayToldDeposit s g).run = s.run ∧ (trayToldDeposit s g).fault = s.fault ∧
    (trayToldDeposit s g).retentionValid = s.retentionValid ∧ (trayToldDeposit s g).straps = s.straps ∧
    (trayToldDeposit s g).pins = s.pins ∧ (trayToldDeposit s g).feeds = s.feeds ∧
    (trayToldDeposit s g).grant = s.grant ∧ (trayToldDeposit s g).shelf = s.shelf ∧
    (trayToldDeposit s g).stapler = s.stapler ∧ (trayToldDeposit s g).tower = s.tower ∧
    (trayToldDeposit s g).stacker = s.stacker ∧ (trayToldDeposit s g).pockets = s.pockets ∧
    (trayToldDeposit s g).session = s.session ∧ (trayToldDeposit s g).path = s.path ∧
    (trayToldDeposit s g).timers = s.timers ∧ (trayToldDeposit s g).races = s.races ∧
    (trayToldDeposit s g).pending = s.pending := by
  unfold trayToldDeposit
  repeat' split
  all_goals simp

@[simp] theorem trayToldReceived_frame :
    (trayToldReceived s).run = s.run ∧ (trayToldReceived s).fault = s.fault ∧
    (trayToldReceived s).retentionValid = s.retentionValid ∧ (trayToldReceived s).straps = s.straps ∧
    (trayToldReceived s).pins = s.pins ∧ (trayToldReceived s).links = s.links ∧
    (trayToldReceived s).feeds = s.feeds ∧ (trayToldReceived s).grant = s.grant ∧
    (trayToldReceived s).shelf = s.shelf ∧ (trayToldReceived s).stapler = s.stapler ∧
    (trayToldReceived s).tower = s.tower ∧ (trayToldReceived s).stacker = s.stacker ∧
    (trayToldReceived s).pockets = s.pockets ∧ (trayToldReceived s).session = s.session ∧
    (trayToldReceived s).jobs = s.jobs ∧ (trayToldReceived s).tables = s.tables ∧
    (trayToldReceived s).path = s.path ∧ (trayToldReceived s).races = s.races ∧
    (trayToldReceived s).pending = s.pending := by
  simp [trayToldReceived]

/-! ## Sequencer -/

@[simp] theorem endPart_frame (r : SetRec) :
    (endPart s r).run = s.run ∧ (endPart s r).fault = s.fault ∧
    (endPart s r).retentionValid = s.retentionValid ∧ (endPart s r).straps = s.straps ∧
    (endPart s r).pins = s.pins ∧ (endPart s r).links = s.links ∧ (endPart s r).feeds = s.feeds ∧
    (endPart s r).grant = s.grant ∧ (endPart s r).shelf = s.shelf ∧ (endPart s r).stapler = s.stapler ∧
    (endPart s r).tower = s.tower ∧ (endPart s r).stacker = s.stacker ∧ (endPart s r).pockets = s.pockets ∧
    (endPart s r).session = s.session ∧ (endPart s r).jobs = s.jobs ∧ (endPart s r).tables = s.tables ∧
    (endPart s r).path = s.path ∧ (endPart s r).races = s.races ∧ (endPart s r).pending = s.pending := by
  simp [endPart]

@[simp] theorem advanceParts_frame (n : Nat) (s : State) :
    (advanceParts n s).run = s.run ∧ (advanceParts n s).fault = s.fault ∧
    (advanceParts n s).retentionValid = s.retentionValid ∧ (advanceParts n s).straps = s.straps ∧
    (advanceParts n s).pins = s.pins ∧ (advanceParts n s).links = s.links ∧
    (advanceParts n s).feeds = s.feeds ∧ (advanceParts n s).grant = s.grant ∧
    (advanceParts n s).shelf = s.shelf ∧ (advanceParts n s).stapler = s.stapler ∧
    (advanceParts n s).tower = s.tower ∧ (advanceParts n s).stacker = s.stacker ∧
    (advanceParts n s).pockets = s.pockets ∧ (advanceParts n s).session = s.session ∧
    (advanceParts n s).jobs = s.jobs ∧ (advanceParts n s).tables = s.tables ∧
    (advanceParts n s).path = s.path ∧ (advanceParts n s).races = s.races ∧
    (advanceParts n s).pending = s.pending := by
  induction n generalizing s with
  | zero => simp [advanceParts]
  | succ n ih =>
    unfold advanceParts
    repeat' split
    all_goals first | simp | (rename_i r _ _; simpa using ih (endPart s r))

@[simp] theorem advance_frame :
    (advance s).run = s.run ∧ (advance s).fault = s.fault ∧ (advance s).retentionValid = s.retentionValid ∧
    (advance s).straps = s.straps ∧ (advance s).pins = s.pins ∧ (advance s).links = s.links ∧
    (advance s).feeds = s.feeds ∧ (advance s).grant = s.grant ∧ (advance s).shelf = s.shelf ∧
    (advance s).stapler = s.stapler ∧ (advance s).tower = s.tower ∧ (advance s).stacker = s.stacker ∧
    (advance s).pockets = s.pockets ∧ (advance s).session = s.session ∧ (advance s).jobs = s.jobs ∧
    (advance s).tables = s.tables ∧ (advance s).path = s.path ∧ (advance s).races = s.races ∧
    (advance s).pending = s.pending := by
  simp [advance]

@[simp] theorem handOver_frame :
    (handOver s).run = s.run ∧ (handOver s).fault = s.fault ∧ (handOver s).retentionValid = s.retentionValid ∧
    (handOver s).straps = s.straps ∧ (handOver s).pins = s.pins ∧ (handOver s).feeds = s.feeds ∧
    (handOver s).grant = s.grant ∧ (handOver s).shelf = s.shelf ∧ (handOver s).stacker = s.stacker ∧
    (handOver s).pockets = s.pockets ∧ (handOver s).session = s.session ∧ (handOver s).path = s.path ∧
    (handOver s).races = s.races ∧ (handOver s).pending = s.pending := by
  unfold handOver
  repeat' split
  all_goals simp

@[simp] theorem preempt_frame :
    (preempt s).run = s.run ∧ (preempt s).fault = s.fault ∧ (preempt s).retentionValid = s.retentionValid ∧
    (preempt s).straps = s.straps ∧ (preempt s).pins = s.pins ∧ (preempt s).links = s.links ∧
    (preempt s).feeds = s.feeds ∧ (preempt s).grant = s.grant ∧ (preempt s).stapler = s.stapler ∧
    (preempt s).tower = s.tower ∧ (preempt s).stacker = s.stacker ∧ (preempt s).pockets = s.pockets ∧
    (preempt s).session = s.session ∧ (preempt s).jobs = s.jobs ∧ (preempt s).tables = s.tables ∧
    (preempt s).path = s.path ∧ (preempt s).races = s.races ∧ (preempt s).pending = s.pending := by
  unfold preempt
  repeat' split
  all_goals simp

@[simp] theorem issueGrant_frame (l : Link) (e : QueueEntry) (p : Purpose) :
    (issueGrant s l e p).run = s.run ∧ (issueGrant s l e p).fault = s.fault ∧
    (issueGrant s l e p).retentionValid = s.retentionValid ∧ (issueGrant s l e p).straps = s.straps ∧
    (issueGrant s l e p).pins = s.pins ∧ (issueGrant s l e p).tray = s.tray ∧
    (issueGrant s l e p).shelf = s.shelf ∧ (issueGrant s l e p).stapler = s.stapler ∧
    (issueGrant s l e p).tower = s.tower ∧ (issueGrant s l e p).stacker = s.stacker ∧
    (issueGrant s l e p).pockets = s.pockets ∧ (issueGrant s l e p).session = s.session ∧
    (issueGrant s l e p).jobs = s.jobs ∧ (issueGrant s l e p).tables = s.tables ∧
    (issueGrant s l e p).path = s.path ∧ (issueGrant s l e p).timers = s.timers ∧
    (issueGrant s l e p).races = s.races ∧ (issueGrant s l e p).pending = s.pending := by
  simp [issueGrant]

@[simp] theorem endPartAtGrant_frame (d : Desc) :
    (endPartAtGrant s d).run = s.run ∧ (endPartAtGrant s d).fault = s.fault ∧
    (endPartAtGrant s d).retentionValid = s.retentionValid ∧ (endPartAtGrant s d).straps = s.straps ∧
    (endPartAtGrant s d).pins = s.pins ∧ (endPartAtGrant s d).links = s.links ∧
    (endPartAtGrant s d).feeds = s.feeds ∧ (endPartAtGrant s d).grant = s.grant ∧
    (endPartAtGrant s d).shelf = s.shelf ∧ (endPartAtGrant s d).stapler = s.stapler ∧
    (endPartAtGrant s d).tower = s.tower ∧ (endPartAtGrant s d).stacker = s.stacker ∧
    (endPartAtGrant s d).pockets = s.pockets ∧ (endPartAtGrant s d).session = s.session ∧
    (endPartAtGrant s d).jobs = s.jobs ∧ (endPartAtGrant s d).tables = s.tables ∧
    (endPartAtGrant s d).path = s.path ∧ (endPartAtGrant s d).races = s.races ∧
    (endPartAtGrant s d).pending = s.pending := by
  unfold endPartAtGrant
  repeat' split
  all_goals simp

@[simp] theorem grantNeeded_frame (l : Link) (e : QueueEntry) :
    (grantNeeded s l e).run = s.run ∧ (grantNeeded s l e).fault = s.fault ∧
    (grantNeeded s l e).retentionValid = s.retentionValid ∧ (grantNeeded s l e).straps = s.straps ∧
    (grantNeeded s l e).pins = s.pins ∧ (grantNeeded s l e).shelf = s.shelf ∧
    (grantNeeded s l e).stapler = s.stapler ∧ (grantNeeded s l e).tower = s.tower ∧
    (grantNeeded s l e).stacker = s.stacker ∧ (grantNeeded s l e).pockets = s.pockets ∧
    (grantNeeded s l e).session = s.session ∧ (grantNeeded s l e).jobs = s.jobs ∧
    (grantNeeded s l e).tables = s.tables ∧ (grantNeeded s l e).path = s.path ∧
    (grantNeeded s l e).races = s.races ∧ (grantNeeded s l e).pending = s.pending := by
  simp [grantNeeded]

@[simp] theorem startSet_frame (l : Link) (e : QueueEntry) (j : Job) :
    (startSet s l e j).run = s.run ∧ (startSet s l e j).fault = s.fault ∧
    (startSet s l e j).retentionValid = s.retentionValid ∧ (startSet s l e j).straps = s.straps ∧
    (startSet s l e j).pins = s.pins ∧ (startSet s l e j).shelf = s.shelf ∧
    (startSet s l e j).stapler = s.stapler ∧ (startSet s l e j).tower = s.tower ∧
    (startSet s l e j).stacker = s.stacker ∧ (startSet s l e j).pockets = s.pockets ∧
    (startSet s l e j).session = s.session ∧ (startSet s l e j).path = s.path ∧
    (startSet s l e j).races = s.races ∧ (startSet s l e j).pending = s.pending := by
  simp [startSet]

@[simp] theorem startSelection_frame :
    (startSelection s).run = s.run ∧ (startSelection s).fault = s.fault ∧
    (startSelection s).retentionValid = s.retentionValid ∧ (startSelection s).straps = s.straps ∧
    (startSelection s).pins = s.pins ∧ (startSelection s).stapler = s.stapler ∧
    (startSelection s).tower = s.tower ∧ (startSelection s).stacker = s.stacker ∧
    (startSelection s).pockets = s.pockets ∧ (startSelection s).session = s.session ∧
    (startSelection s).path = s.path ∧ (startSelection s).races = s.races ∧
    (startSelection s).pending = s.pending := by
  unfold startSelection
  repeat' split
  all_goals simp

@[simp] theorem servePurgeOrStart_frame :
    (servePurgeOrStart s).run = s.run ∧ (servePurgeOrStart s).fault = s.fault ∧
    (servePurgeOrStart s).retentionValid = s.retentionValid ∧ (servePurgeOrStart s).straps = s.straps ∧
    (servePurgeOrStart s).pins = s.pins ∧ (servePurgeOrStart s).stapler = s.stapler ∧
    (servePurgeOrStart s).tower = s.tower ∧ (servePurgeOrStart s).stacker = s.stacker ∧
    (servePurgeOrStart s).pockets = s.pockets ∧ (servePurgeOrStart s).session = s.session ∧
    (servePurgeOrStart s).path = s.path ∧ (servePurgeOrStart s).races = s.races ∧
    (servePurgeOrStart s).pending = s.pending := by
  unfold servePurgeOrStart
  repeat' split
  all_goals simp

@[simp] theorem serve_frame :
    (serve s).run = s.run ∧ (serve s).fault = s.fault ∧ (serve s).retentionValid = s.retentionValid ∧
    (serve s).straps = s.straps ∧ (serve s).pins = s.pins ∧ (serve s).stacker = s.stacker ∧
    (serve s).pockets = s.pockets ∧ (serve s).session = s.session ∧ (serve s).path = s.path ∧
    (serve s).races = s.races ∧ (serve s).pending = s.pending := by
  unfold serve
  repeat' split
  all_goals simp

@[simp] theorem stallUpdate_frame :
    (stallUpdate s).run = s.run ∧ (stallUpdate s).fault = s.fault ∧
    (stallUpdate s).retentionValid = s.retentionValid ∧ (stallUpdate s).straps = s.straps ∧
    (stallUpdate s).pins = s.pins ∧ (stallUpdate s).links = s.links ∧ (stallUpdate s).feeds = s.feeds ∧
    (stallUpdate s).grant = s.grant ∧ (stallUpdate s).tray = s.tray ∧ (stallUpdate s).shelf = s.shelf ∧
    (stallUpdate s).stapler = s.stapler ∧ (stallUpdate s).tower = s.tower ∧
    (stallUpdate s).stacker = s.stacker ∧ (stallUpdate s).pockets = s.pockets ∧
    (stallUpdate s).session = s.session ∧ (stallUpdate s).jobs = s.jobs ∧ (stallUpdate s).tables = s.tables ∧
    (stallUpdate s).path = s.path ∧ (stallUpdate s).races = s.races ∧ (stallUpdate s).pending = s.pending := by
  unfold stallUpdate
  repeat' split
  all_goals simp

@[simp] theorem changeRun_frame (r : RunState) :
    (changeRun s r).fault = s.fault ∧ (changeRun s r).retentionValid = s.retentionValid ∧
    (changeRun s r).straps = s.straps ∧ (changeRun s r).pins = s.pins ∧ (changeRun s r).feeds = s.feeds ∧
    (changeRun s r).grant = s.grant ∧ (changeRun s r).tray = s.tray ∧ (changeRun s r).shelf = s.shelf ∧
    (changeRun s r).stapler = s.stapler ∧ (changeRun s r).tower = s.tower ∧
    (changeRun s r).stacker = s.stacker ∧ (changeRun s r).pockets = s.pockets ∧
    (changeRun s r).session = s.session ∧ (changeRun s r).jobs = s.jobs ∧ (changeRun s r).tables = s.tables ∧
    (changeRun s r).path = s.path ∧ (changeRun s r).timers = s.timers ∧ (changeRun s r).races = s.races ∧
    (changeRun s r).pending = s.pending := by
  simp [changeRun]

@[simp] theorem haltCheck_frame :
    (haltCheck s).fault = s.fault ∧ (haltCheck s).retentionValid = s.retentionValid ∧
    (haltCheck s).straps = s.straps ∧ (haltCheck s).pins = s.pins ∧ (haltCheck s).feeds = s.feeds ∧
    (haltCheck s).grant = s.grant ∧ (haltCheck s).tray = s.tray ∧ (haltCheck s).shelf = s.shelf ∧
    (haltCheck s).stapler = s.stapler ∧ (haltCheck s).tower = s.tower ∧ (haltCheck s).stacker = s.stacker ∧
    (haltCheck s).pockets = s.pockets ∧ (haltCheck s).session = s.session ∧ (haltCheck s).jobs = s.jobs ∧
    (haltCheck s).tables = s.tables ∧ (haltCheck s).path = s.path ∧ (haltCheck s).timers = s.timers ∧
    (haltCheck s).races = s.races ∧ (haltCheck s).pending = s.pending := by
  unfold haltCheck
  repeat' split
  all_goals simp

@[simp] theorem settle_frame :
    (settle s).fault = s.fault ∧ (settle s).retentionValid = s.retentionValid ∧ (settle s).straps = s.straps ∧
    (settle s).pins = s.pins ∧ (settle s).stacker = s.stacker ∧ (settle s).pockets = s.pockets ∧
    (settle s).path = s.path ∧ (settle s).races = s.races ∧ (settle s).pending = s.pending := by
  unfold settle
  dsimp only
  split <;> simp

/-! ## Faults -/

@[simp] theorem withdrawFrame_frame (g : Grant) :
    (withdrawFrame s g).run = s.run ∧ (withdrawFrame s g).fault = s.fault ∧
    (withdrawFrame s g).retentionValid = s.retentionValid ∧ (withdrawFrame s g).straps = s.straps ∧
    (withdrawFrame s g).pins = s.pins ∧ (withdrawFrame s g).feeds = s.feeds ∧
    (withdrawFrame s g).grant = s.grant ∧ (withdrawFrame s g).tray = s.tray ∧
    (withdrawFrame s g).shelf = s.shelf ∧ (withdrawFrame s g).stapler = s.stapler ∧
    (withdrawFrame s g).tower = s.tower ∧ (withdrawFrame s g).stacker = s.stacker ∧
    (withdrawFrame s g).pockets = s.pockets ∧ (withdrawFrame s g).session = s.session ∧
    (withdrawFrame s g).jobs = s.jobs ∧ (withdrawFrame s g).tables = s.tables ∧
    (withdrawFrame s g).path = s.path ∧ (withdrawFrame s g).timers = s.timers ∧
    (withdrawFrame s g).races = s.races ∧ (withdrawFrame s g).pending = s.pending := by
  unfold withdrawFrame
  repeat' split
  all_goals simp

@[simp] theorem takeBackGrant_frame (g : Grant) :
    (takeBackGrant s g).run = s.run ∧ (takeBackGrant s g).fault = s.fault ∧
    (takeBackGrant s g).retentionValid = s.retentionValid ∧ (takeBackGrant s g).straps = s.straps ∧
    (takeBackGrant s g).pins = s.pins ∧ (takeBackGrant s g).links = s.links ∧
    (takeBackGrant s g).feeds = s.feeds ∧ (takeBackGrant s g).grant = s.grant ∧
    (takeBackGrant s g).shelf = s.shelf ∧ (takeBackGrant s g).stapler = s.stapler ∧
    (takeBackGrant s g).tower = s.tower ∧ (takeBackGrant s g).stacker = s.stacker ∧
    (takeBackGrant s g).pockets = s.pockets ∧ (takeBackGrant s g).session = s.session ∧
    (takeBackGrant s g).jobs = s.jobs ∧ (takeBackGrant s g).tables = s.tables ∧
    (takeBackGrant s g).path = s.path ∧ (takeBackGrant s g).timers = s.timers ∧
    (takeBackGrant s g).races = s.races ∧ (takeBackGrant s g).pending = s.pending := by
  unfold takeBackGrant
  repeat' split
  all_goals simp

@[simp] theorem withdrawGrant_frame :
    (withdrawGrant s).run = s.run ∧ (withdrawGrant s).fault = s.fault ∧
    (withdrawGrant s).retentionValid = s.retentionValid ∧ (withdrawGrant s).straps = s.straps ∧
    (withdrawGrant s).pins = s.pins ∧ (withdrawGrant s).shelf = s.shelf ∧
    (withdrawGrant s).stapler = s.stapler ∧ (withdrawGrant s).tower = s.tower ∧
    (withdrawGrant s).stacker = s.stacker ∧ (withdrawGrant s).pockets = s.pockets ∧
    (withdrawGrant s).session = s.session ∧ (withdrawGrant s).jobs = s.jobs ∧
    (withdrawGrant s).tables = s.tables ∧ (withdrawGrant s).path = s.path ∧ (withdrawGrant s).races = s.races ∧
    (withdrawGrant s).pending = s.pending := by
  unfold withdrawGrant
  repeat' split
  all_goals simp

@[simp] theorem faultSession_frame :
    (faultSession s).run = s.run ∧ (faultSession s).fault = s.fault ∧
    (faultSession s).retentionValid = s.retentionValid ∧ (faultSession s).straps = s.straps ∧
    (faultSession s).pins = s.pins ∧ (faultSession s).feeds = s.feeds ∧ (faultSession s).grant = s.grant ∧
    (faultSession s).tray = s.tray ∧ (faultSession s).shelf = s.shelf ∧ (faultSession s).stapler = s.stapler ∧
    (faultSession s).stacker = s.stacker ∧ (faultSession s).pockets = s.pockets ∧
    (faultSession s).tables = s.tables ∧ (faultSession s).path = s.path ∧ (faultSession s).races = s.races ∧
    (faultSession s).pending = s.pending := by
  unfold faultSession
  repeat' split
  all_goals simp

@[simp] theorem freeHeldTower_frame :
    (freeHeldTower s).run = s.run ∧ (freeHeldTower s).fault = s.fault ∧
    (freeHeldTower s).retentionValid = s.retentionValid ∧ (freeHeldTower s).straps = s.straps ∧
    (freeHeldTower s).pins = s.pins ∧ (freeHeldTower s).links = s.links ∧ (freeHeldTower s).feeds = s.feeds ∧
    (freeHeldTower s).grant = s.grant ∧ (freeHeldTower s).tray = s.tray ∧ (freeHeldTower s).shelf = s.shelf ∧
    (freeHeldTower s).stapler = s.stapler ∧ (freeHeldTower s).stacker = s.stacker ∧
    (freeHeldTower s).pockets = s.pockets ∧ (freeHeldTower s).session = s.session ∧
    (freeHeldTower s).jobs = s.jobs ∧ (freeHeldTower s).tables = s.tables ∧ (freeHeldTower s).path = s.path ∧
    (freeHeldTower s).timers = s.timers ∧ (freeHeldTower s).races = s.races ∧
    (freeHeldTower s).pending = s.pending := by
  unfold freeHeldTower
  repeat' split
  all_goals simp

@[simp] theorem enterFaulted_frame (d : FaultDetail) :
    (enterFaulted s d).retentionValid = s.retentionValid ∧ (enterFaulted s d).straps = s.straps ∧
    (enterFaulted s d).pins = s.pins ∧ (enterFaulted s d).stacker = s.stacker ∧
    (enterFaulted s d).pockets = s.pockets ∧ (enterFaulted s d).tables = s.tables ∧
    (enterFaulted s d).path = s.path ∧ (enterFaulted s d).races = s.races ∧
    (enterFaulted s d).pending = s.pending := by
  simp [enterFaulted]

@[simp] theorem raiseFault_frame (d : FaultDetail) :
    (raiseFault s d).retentionValid = s.retentionValid ∧ (raiseFault s d).straps = s.straps ∧
    (raiseFault s d).pins = s.pins ∧ (raiseFault s d).stacker = s.stacker ∧
    (raiseFault s d).pockets = s.pockets ∧ (raiseFault s d).tables = s.tables ∧
    (raiseFault s d).path = s.path ∧ (raiseFault s d).races = s.races ∧ (raiseFault s d).pending = s.pending := by
  unfold raiseFault
  repeat' split
  all_goals simp

@[simp] theorem sensorFault_frame (x : PathSensor) :
    (sensorFault s x).retentionValid = s.retentionValid ∧ (sensorFault s x).straps = s.straps ∧
    (sensorFault s x).pins = s.pins ∧ (sensorFault s x).stacker = s.stacker ∧
    (sensorFault s x).pockets = s.pockets ∧ (sensorFault s x).tables = s.tables ∧
    (sensorFault s x).path = s.path ∧ (sensorFault s x).races = s.races ∧ (sensorFault s x).pending = s.pending := by
  simp [sensorFault]

/-! ## Path -/

@[simp] theorem notifyConflict_frame (es : List PathEntry) :
    (notifyConflict s es).run = s.run ∧ (notifyConflict s es).fault = s.fault ∧
    (notifyConflict s es).retentionValid = s.retentionValid ∧ (notifyConflict s es).straps = s.straps ∧
    (notifyConflict s es).pins = s.pins ∧ (notifyConflict s es).feeds = s.feeds ∧
    (notifyConflict s es).grant = s.grant ∧ (notifyConflict s es).tray = s.tray ∧
    (notifyConflict s es).shelf = s.shelf ∧ (notifyConflict s es).stapler = s.stapler ∧
    (notifyConflict s es).tower = s.tower ∧ (notifyConflict s es).stacker = s.stacker ∧
    (notifyConflict s es).pockets = s.pockets ∧ (notifyConflict s es).session = s.session ∧
    (notifyConflict s es).jobs = s.jobs ∧ (notifyConflict s es).tables = s.tables ∧
    (notifyConflict s es).path = s.path ∧ (notifyConflict s es).timers = s.timers ∧
    (notifyConflict s es).races = s.races ∧ (notifyConflict s es).pending = s.pending := by
  unfold notifyConflict
  dsimp only
  split <;> simp

@[simp] theorem joinPath_frame (e : PathEntry) :
    (joinPath s e).run = s.run ∧ (joinPath s e).fault = s.fault ∧
    (joinPath s e).retentionValid = s.retentionValid ∧ (joinPath s e).straps = s.straps ∧
    (joinPath s e).pins = s.pins ∧ (joinPath s e).feeds = s.feeds ∧ (joinPath s e).grant = s.grant ∧
    (joinPath s e).tray = s.tray ∧ (joinPath s e).shelf = s.shelf ∧ (joinPath s e).stapler = s.stapler ∧
    (joinPath s e).tower = s.tower ∧ (joinPath s e).stacker = s.stacker ∧ (joinPath s e).pockets = s.pockets ∧
    (joinPath s e).session = s.session ∧ (joinPath s e).jobs = s.jobs ∧ (joinPath s e).tables = s.tables ∧
    (joinPath s e).timers = s.timers ∧ (joinPath s e).races = s.races ∧ (joinPath s e).pending = s.pending := by
  unfold joinPath
  repeat' split
  all_goals simp

@[simp] theorem captureGranted_frame (l : Link) (t : Tick) (g : QueueEntry × Purpose) :
    (captureGranted s l t g).run = s.run ∧ (captureGranted s l t g).fault = s.fault ∧
    (captureGranted s l t g).retentionValid = s.retentionValid ∧ (captureGranted s l t g).straps = s.straps ∧
    (captureGranted s l t g).pins = s.pins ∧ (captureGranted s l t g).tray = s.tray ∧
    (captureGranted s l t g).shelf = s.shelf ∧ (captureGranted s l t g).stapler = s.stapler ∧
    (captureGranted s l t g).tower = s.tower ∧ (captureGranted s l t g).stacker = s.stacker ∧
    (captureGranted s l t g).pockets = s.pockets ∧ (captureGranted s l t g).session = s.session ∧
    (captureGranted s l t g).jobs = s.jobs ∧ (captureGranted s l t g).tables = s.tables ∧
    (captureGranted s l t g).races = s.races ∧ (captureGranted s l t g).pending = s.pending := by
  simp [captureGranted]

@[simp] theorem captureLead_frame (l : Link) (t : Tick) :
    (captureLead s l t).retentionValid = s.retentionValid ∧ (captureLead s l t).straps = s.straps ∧
    (captureLead s l t).pins = s.pins ∧ (captureLead s l t).stacker = s.stacker ∧
    (captureLead s l t).pockets = s.pockets ∧ (captureLead s l t).tables = s.tables ∧
    (captureLead s l t).races = s.races ∧ (captureLead s l t).pending = s.pending := by
  unfold captureLead
  repeat' split
  all_goals simp

@[simp] theorem matchTrail_frame (l : Link) (t : Tick) :
    (matchTrail s l t).run = s.run ∧ (matchTrail s l t).fault = s.fault ∧
    (matchTrail s l t).retentionValid = s.retentionValid ∧ (matchTrail s l t).straps = s.straps ∧
    (matchTrail s l t).pins = s.pins ∧ (matchTrail s l t).links = s.links ∧
    (matchTrail s l t).feeds = s.feeds ∧ (matchTrail s l t).grant = s.grant ∧
    (matchTrail s l t).tray = s.tray ∧ (matchTrail s l t).shelf = s.shelf ∧
    (matchTrail s l t).stapler = s.stapler ∧ (matchTrail s l t).tower = s.tower ∧
    (matchTrail s l t).stacker = s.stacker ∧ (matchTrail s l t).pockets = s.pockets ∧
    (matchTrail s l t).session = s.session ∧ (matchTrail s l t).jobs = s.jobs ∧
    (matchTrail s l t).tables = s.tables ∧ (matchTrail s l t).timers = s.timers ∧
    (matchTrail s l t).races = s.races ∧ (matchTrail s l t).pending = s.pending := by
  simp [matchTrail]

@[simp] theorem notifyRejected_frame (e : PathEntry) (d : Desc) :
    (notifyRejected s e d).run = s.run ∧ (notifyRejected s e d).fault = s.fault ∧
    (notifyRejected s e d).retentionValid = s.retentionValid ∧ (notifyRejected s e d).straps = s.straps ∧
    (notifyRejected s e d).pins = s.pins ∧ (notifyRejected s e d).feeds = s.feeds ∧
    (notifyRejected s e d).grant = s.grant ∧ (notifyRejected s e d).tray = s.tray ∧
    (notifyRejected s e d).shelf = s.shelf ∧ (notifyRejected s e d).stapler = s.stapler ∧
    (notifyRejected s e d).tower = s.tower ∧ (notifyRejected s e d).stacker = s.stacker ∧
    (notifyRejected s e d).pockets = s.pockets ∧ (notifyRejected s e d).session = s.session ∧
    (notifyRejected s e d).jobs = s.jobs ∧ (notifyRejected s e d).tables = s.tables ∧
    (notifyRejected s e d).path = s.path ∧ (notifyRejected s e d).timers = s.timers ∧
    (notifyRejected s e d).races = s.races ∧ (notifyRejected s e d).pending = s.pending := by
  unfold notifyRejected
  repeat' split
  all_goals simp

@[simp] theorem reportDecision_frame (e : PathEntry) :
    (reportDecision s e).run = s.run ∧ (reportDecision s e).fault = s.fault ∧
    (reportDecision s e).retentionValid = s.retentionValid ∧ (reportDecision s e).straps = s.straps ∧
    (reportDecision s e).pins = s.pins ∧ (reportDecision s e).feeds = s.feeds ∧
    (reportDecision s e).grant = s.grant ∧ (reportDecision s e).shelf = s.shelf ∧
    (reportDecision s e).stapler = s.stapler ∧ (reportDecision s e).tower = s.tower ∧
    (reportDecision s e).stacker = s.stacker ∧ (reportDecision s e).pockets = s.pockets ∧
    (reportDecision s e).session = s.session ∧ (reportDecision s e).jobs = s.jobs ∧
    (reportDecision s e).tables = s.tables ∧ (reportDecision s e).path = s.path ∧
    (reportDecision s e).timers = s.timers ∧ (reportDecision s e).races = s.races ∧
    (reportDecision s e).pending = s.pending := by
  unfold reportDecision
  repeat' split
  all_goals simp

@[simp] theorem decideEntry_frame (e : PathEntry) :
    (decideEntry s e).run = s.run ∧ (decideEntry s e).fault = s.fault ∧
    (decideEntry s e).retentionValid = s.retentionValid ∧ (decideEntry s e).straps = s.straps ∧
    (decideEntry s e).pins = s.pins ∧ (decideEntry s e).feeds = s.feeds ∧ (decideEntry s e).grant = s.grant ∧
    (decideEntry s e).shelf = s.shelf ∧ (decideEntry s e).stapler = s.stapler ∧
    (decideEntry s e).tower = s.tower ∧ (decideEntry s e).stacker = s.stacker ∧
    (decideEntry s e).pockets = s.pockets ∧ (decideEntry s e).session = s.session ∧
    (decideEntry s e).jobs = s.jobs ∧ (decideEntry s e).tables = s.tables ∧
    (decideEntry s e).timers = s.timers ∧ (decideEntry s e).races = s.races ∧
    (decideEntry s e).pending = s.pending := by
  simp [decideEntry]

@[simp] theorem handToTray_frame (e : PathEntry) :
    (handToTray s e).run = s.run ∧ (handToTray s e).fault = s.fault ∧
    (handToTray s e).retentionValid = s.retentionValid ∧ (handToTray s e).straps = s.straps ∧
    (handToTray s e).pins = s.pins ∧ (handToTray s e).links = s.links ∧ (handToTray s e).feeds = s.feeds ∧
    (handToTray s e).grant = s.grant ∧ (handToTray s e).shelf = s.shelf ∧
    (handToTray s e).stacker = s.stacker ∧ (handToTray s e).pockets = s.pockets ∧
    (handToTray s e).session = s.session ∧ (handToTray s e).jobs = s.jobs ∧
    (handToTray s e).tables = s.tables ∧ (handToTray s e).path = s.path ∧ (handToTray s e).races = s.races ∧
    (handToTray s e).pending = s.pending := by
  unfold handToTray
  dsimp only
  repeat' split
  all_goals simp

@[simp] theorem raisePurgeCount_frame :
    (raisePurgeCount s).run = s.run ∧ (raisePurgeCount s).fault = s.fault ∧
    (raisePurgeCount s).retentionValid = s.retentionValid ∧ (raisePurgeCount s).straps = s.straps ∧
    (raisePurgeCount s).pins = s.pins ∧ (raisePurgeCount s).feeds = s.feeds ∧
    (raisePurgeCount s).grant = s.grant ∧ (raisePurgeCount s).tray = s.tray ∧
    (raisePurgeCount s).shelf = s.shelf ∧ (raisePurgeCount s).stapler = s.stapler ∧
    (raisePurgeCount s).tower = s.tower ∧ (raisePurgeCount s).stacker = s.stacker ∧
    (raisePurgeCount s).pockets = s.pockets ∧ (raisePurgeCount s).session = s.session ∧
    (raisePurgeCount s).jobs = s.jobs ∧ (raisePurgeCount s).tables = s.tables ∧
    (raisePurgeCount s).timers = s.timers ∧ (raisePurgeCount s).races = s.races ∧
    (raisePurgeCount s).pending = s.pending := by
  unfold raisePurgeCount
  dsimp only
  split <;> simp

@[simp] theorem accountPurged_frame (e : PathEntry) :
    (accountPurged s e).run = s.run ∧ (accountPurged s e).fault = s.fault ∧
    (accountPurged s e).retentionValid = s.retentionValid ∧ (accountPurged s e).straps = s.straps ∧
    (accountPurged s e).pins = s.pins ∧ (accountPurged s e).feeds = s.feeds ∧
    (accountPurged s e).grant = s.grant ∧ (accountPurged s e).tray = s.tray ∧
    (accountPurged s e).shelf = s.shelf ∧ (accountPurged s e).stapler = s.stapler ∧
    (accountPurged s e).tower = s.tower ∧ (accountPurged s e).stacker = s.stacker ∧
    (accountPurged s e).pockets = s.pockets ∧ (accountPurged s e).session = s.session ∧
    (accountPurged s e).tables = s.tables ∧ (accountPurged s e).path = s.path ∧
    (accountPurged s e).timers = s.timers ∧ (accountPurged s e).races = s.races ∧
    (accountPurged s e).pending = s.pending := by
  unfold accountPurged
  repeat' split
  all_goals simp

@[simp] theorem advanceTo_frame (t : Tick) :
    (advanceTo t s).run = s.run ∧ (advanceTo t s).fault = s.fault ∧
    (advanceTo t s).retentionValid = s.retentionValid ∧ (advanceTo t s).straps = s.straps ∧
    (advanceTo t s).pins = s.pins ∧ (advanceTo t s).links = s.links ∧ (advanceTo t s).feeds = s.feeds ∧
    (advanceTo t s).grant = s.grant ∧ (advanceTo t s).tray = s.tray ∧ (advanceTo t s).shelf = s.shelf ∧
    (advanceTo t s).stapler = s.stapler ∧ (advanceTo t s).tower = s.tower ∧
    (advanceTo t s).stacker = s.stacker ∧ (advanceTo t s).pockets = s.pockets ∧ (advanceTo t s).jobs = s.jobs ∧
    (advanceTo t s).tables = s.tables ∧ (advanceTo t s).races = s.races ∧ (advanceTo t s).pending = s.pending := by
  simp [advanceTo]

/-! ## Events -/

@[simp] theorem missFeed_frame (g : Grant) (e : QueueEntry) :
    (missFeed s g e).run = s.run ∧ (missFeed s g e).fault = s.fault ∧
    (missFeed s g e).retentionValid = s.retentionValid ∧ (missFeed s g e).straps = s.straps ∧
    (missFeed s g e).pins = s.pins ∧ (missFeed s g e).shelf = s.shelf ∧
    (missFeed s g e).stacker = s.stacker ∧ (missFeed s g e).pockets = s.pockets ∧
    (missFeed s g e).session = s.session ∧ (missFeed s g e).path = s.path ∧ (missFeed s g e).races = s.races ∧
    (missFeed s g e).pending = s.pending := by
  unfold missFeed
  dsimp only
  split <;> simp

@[simp] theorem endPark_frame (r : SetRec) :
    (endPark s r).run = s.run ∧ (endPark s r).fault = s.fault ∧
    (endPark s r).retentionValid = s.retentionValid ∧ (endPark s r).straps = s.straps ∧
    (endPark s r).pins = s.pins ∧ (endPark s r).links = s.links ∧ (endPark s r).feeds = s.feeds ∧
    (endPark s r).grant = s.grant ∧ (endPark s r).stapler = s.stapler ∧ (endPark s r).tower = s.tower ∧
    (endPark s r).stacker = s.stacker ∧ (endPark s r).pockets = s.pockets ∧ (endPark s r).session = s.session ∧
    (endPark s r).jobs = s.jobs ∧ (endPark s r).tables = s.tables ∧ (endPark s r).path = s.path ∧
    (endPark s r).races = s.races ∧ (endPark s r).pending = s.pending := by
  simp [endPark]

@[simp] theorem endUnpark_frame (r : SetRec) (rs : List SetRec) :
    (endUnpark s r rs).run = s.run ∧ (endUnpark s r rs).fault = s.fault ∧
    (endUnpark s r rs).retentionValid = s.retentionValid ∧ (endUnpark s r rs).straps = s.straps ∧
    (endUnpark s r rs).pins = s.pins ∧ (endUnpark s r rs).links = s.links ∧
    (endUnpark s r rs).feeds = s.feeds ∧ (endUnpark s r rs).grant = s.grant ∧
    (endUnpark s r rs).stapler = s.stapler ∧ (endUnpark s r rs).tower = s.tower ∧
    (endUnpark s r rs).stacker = s.stacker ∧ (endUnpark s r rs).pockets = s.pockets ∧
    (endUnpark s r rs).session = s.session ∧ (endUnpark s r rs).jobs = s.jobs ∧
    (endUnpark s r rs).tables = s.tables ∧ (endUnpark s r rs).path = s.path ∧
    (endUnpark s r rs).races = s.races ∧ (endUnpark s r rs).pending = s.pending := by
  simp [endUnpark]

@[simp] theorem finishFire_frame :
    (finishFire s).run = s.run ∧ (finishFire s).fault = s.fault ∧
    (finishFire s).retentionValid = s.retentionValid ∧ (finishFire s).straps = s.straps ∧
    (finishFire s).pins = s.pins ∧ (finishFire s).links = s.links ∧ (finishFire s).feeds = s.feeds ∧
    (finishFire s).grant = s.grant ∧ (finishFire s).tray = s.tray ∧ (finishFire s).shelf = s.shelf ∧
    (finishFire s).tower = s.tower ∧ (finishFire s).stacker = s.stacker ∧ (finishFire s).pockets = s.pockets ∧
    (finishFire s).session = s.session ∧ (finishFire s).jobs = s.jobs ∧ (finishFire s).tables = s.tables ∧
    (finishFire s).path = s.path ∧ (finishFire s).races = s.races ∧ (finishFire s).pending = s.pending := by
  simp [finishFire]

@[simp] theorem staplesLowTest_frame (n : Nat) :
    (staplesLowTest s n).run = s.run ∧ (staplesLowTest s n).fault = s.fault ∧
    (staplesLowTest s n).retentionValid = s.retentionValid ∧ (staplesLowTest s n).straps = s.straps ∧
    (staplesLowTest s n).pins = s.pins ∧ (staplesLowTest s n).feeds = s.feeds ∧
    (staplesLowTest s n).grant = s.grant ∧ (staplesLowTest s n).tray = s.tray ∧
    (staplesLowTest s n).shelf = s.shelf ∧ (staplesLowTest s n).stapler = s.stapler ∧
    (staplesLowTest s n).tower = s.tower ∧ (staplesLowTest s n).stacker = s.stacker ∧
    (staplesLowTest s n).pockets = s.pockets ∧ (staplesLowTest s n).session = s.session ∧
    (staplesLowTest s n).jobs = s.jobs ∧ (staplesLowTest s n).tables = s.tables ∧
    (staplesLowTest s n).path = s.path ∧ (staplesLowTest s n).timers = s.timers ∧
    (staplesLowTest s n).races = s.races ∧ (staplesLowTest s n).pending = s.pending := by
  unfold staplesLowTest
  repeat' split
  all_goals simp

@[simp] theorem jamStapler_frame (o : FireOwner) :
    (jamStapler s o).run = s.run ∧ (jamStapler s o).fault = s.fault ∧
    (jamStapler s o).retentionValid = s.retentionValid ∧ (jamStapler s o).straps = s.straps ∧
    (jamStapler s o).pins = s.pins ∧ (jamStapler s o).feeds = s.feeds ∧ (jamStapler s o).grant = s.grant ∧
    (jamStapler s o).tray = s.tray ∧ (jamStapler s o).shelf = s.shelf ∧ (jamStapler s o).tower = s.tower ∧
    (jamStapler s o).stacker = s.stacker ∧ (jamStapler s o).pockets = s.pockets ∧
    (jamStapler s o).session = s.session ∧ (jamStapler s o).jobs = s.jobs ∧
    (jamStapler s o).tables = s.tables ∧ (jamStapler s o).path = s.path ∧ (jamStapler s o).races = s.races ∧
    (jamStapler s o).pending = s.pending := by
  simp [jamStapler]

@[simp] theorem endRecovery_frame :
    (endRecovery s).run = s.run ∧ (endRecovery s).fault = s.fault ∧
    (endRecovery s).retentionValid = s.retentionValid ∧ (endRecovery s).straps = s.straps ∧
    (endRecovery s).pins = s.pins ∧ (endRecovery s).links = s.links ∧ (endRecovery s).feeds = s.feeds ∧
    (endRecovery s).grant = s.grant ∧ (endRecovery s).tray = s.tray ∧ (endRecovery s).shelf = s.shelf ∧
    (endRecovery s).tower = s.tower ∧ (endRecovery s).stacker = s.stacker ∧
    (endRecovery s).pockets = s.pockets ∧ (endRecovery s).session = s.session ∧ (endRecovery s).jobs = s.jobs ∧
    (endRecovery s).tables = s.tables ∧ (endRecovery s).path = s.path ∧ (endRecovery s).races = s.races ∧
    (endRecovery s).pending = s.pending := by
  unfold endRecovery
  repeat' split
  all_goals simp

@[simp] theorem receiveSegment_frame (r : SetRec) (c : SegClose) :
    (receiveSegment s r c).run = s.run ∧ (receiveSegment s r c).fault = s.fault ∧
    (receiveSegment s r c).retentionValid = s.retentionValid ∧ (receiveSegment s r c).straps = s.straps ∧
    (receiveSegment s r c).pins = s.pins ∧ (receiveSegment s r c).feeds = s.feeds ∧
    (receiveSegment s r c).grant = s.grant ∧ (receiveSegment s r c).shelf = s.shelf ∧
    (receiveSegment s r c).stapler = s.stapler ∧ (receiveSegment s r c).stacker = s.stacker ∧
    (receiveSegment s r c).session = s.session ∧ (receiveSegment s r c).jobs = s.jobs ∧
    (receiveSegment s r c).tables = s.tables ∧ (receiveSegment s r c).path = s.path ∧
    (receiveSegment s r c).races = s.races ∧ (receiveSegment s r c).pending = s.pending := by
  simp [receiveSegment]

@[simp] theorem afterFinal_frame (g : Segment) :
    (afterFinal s g).run = s.run ∧ (afterFinal s g).fault = s.fault ∧
    (afterFinal s g).retentionValid = s.retentionValid ∧ (afterFinal s g).straps = s.straps ∧
    (afterFinal s g).pins = s.pins ∧ (afterFinal s g).feeds = s.feeds ∧ (afterFinal s g).grant = s.grant ∧
    (afterFinal s g).tray = s.tray ∧ (afterFinal s g).shelf = s.shelf ∧ (afterFinal s g).stapler = s.stapler ∧
    (afterFinal s g).tower = s.tower ∧ (afterFinal s g).stacker = s.stacker ∧
    (afterFinal s g).pockets = s.pockets ∧ (afterFinal s g).session = s.session ∧
    (afterFinal s g).path = s.path ∧ (afterFinal s g).timers = s.timers ∧ (afterFinal s g).races = s.races ∧
    (afterFinal s g).pending = s.pending := by
  simp [afterFinal]

@[simp] theorem depositSegment_frame (g : Segment) (c : Nat) (o : ChainOption) :
    (depositSegment s g c o).run = s.run ∧ (depositSegment s g c o).fault = s.fault ∧
    (depositSegment s g c o).retentionValid = s.retentionValid ∧ (depositSegment s g c o).straps = s.straps ∧
    (depositSegment s g c o).pins = s.pins ∧ (depositSegment s g c o).feeds = s.feeds ∧
    (depositSegment s g c o).grant = s.grant ∧ (depositSegment s g c o).shelf = s.shelf ∧
    (depositSegment s g c o).stapler = s.stapler ∧ (depositSegment s g c o).session = s.session ∧
    (depositSegment s g c o).path = s.path ∧ (depositSegment s g c o).races = s.races ∧
    (depositSegment s g c o).pending = s.pending := by
  unfold depositSegment
  dsimp only
  split <;> simp

@[simp] theorem activateSession_frame (z : Session) :
    (activateSession s z).run = s.run ∧ (activateSession s z).fault = s.fault ∧
    (activateSession s z).retentionValid = s.retentionValid ∧ (activateSession s z).straps = s.straps ∧
    (activateSession s z).pins = s.pins ∧ (activateSession s z).feeds = s.feeds ∧
    (activateSession s z).grant = s.grant ∧ (activateSession s z).tray = s.tray ∧
    (activateSession s z).shelf = s.shelf ∧ (activateSession s z).stapler = s.stapler ∧
    (activateSession s z).tower = s.tower ∧ (activateSession s z).stacker = s.stacker ∧
    (activateSession s z).pockets = s.pockets ∧ (activateSession s z).jobs = s.jobs ∧
    (activateSession s z).tables = s.tables ∧ (activateSession s z).path = s.path ∧
    (activateSession s z).timers = s.timers ∧ (activateSession s z).races = s.races ∧
    (activateSession s z).pending = s.pending := by
  simp [activateSession]

@[simp] theorem countInserted_frame (z : Session) :
    (countInserted s z).run = s.run ∧ (countInserted s z).fault = s.fault ∧
    (countInserted s z).retentionValid = s.retentionValid ∧ (countInserted s z).straps = s.straps ∧
    (countInserted s z).pins = s.pins ∧ (countInserted s z).feeds = s.feeds ∧
    (countInserted s z).grant = s.grant ∧ (countInserted s z).tray = s.tray ∧
    (countInserted s z).shelf = s.shelf ∧ (countInserted s z).stapler = s.stapler ∧
    (countInserted s z).stacker = s.stacker ∧ (countInserted s z).tables = s.tables ∧
    (countInserted s z).path = s.path ∧ (countInserted s z).races = s.races ∧
    (countInserted s z).pending = s.pending := by
  unfold countInserted
  dsimp only
  split <;> simp

@[simp] theorem elevatorHomed_frame :
    (elevatorHomed s).run = s.run ∧ (elevatorHomed s).fault = s.fault ∧
    (elevatorHomed s).retentionValid = s.retentionValid ∧ (elevatorHomed s).straps = s.straps ∧
    (elevatorHomed s).pins = s.pins ∧ (elevatorHomed s).links = s.links ∧ (elevatorHomed s).feeds = s.feeds ∧
    (elevatorHomed s).grant = s.grant ∧ (elevatorHomed s).tray = s.tray ∧ (elevatorHomed s).shelf = s.shelf ∧
    (elevatorHomed s).stapler = s.stapler ∧ (elevatorHomed s).stacker = s.stacker ∧
    (elevatorHomed s).pockets = s.pockets ∧ (elevatorHomed s).session = s.session ∧
    (elevatorHomed s).jobs = s.jobs ∧ (elevatorHomed s).tables = s.tables ∧ (elevatorHomed s).path = s.path ∧
    (elevatorHomed s).races = s.races ∧ (elevatorHomed s).pending = s.pending := by
  simp [elevatorHomed]

@[simp] theorem startRunning_frame :
    (startRunning s).fault = s.fault ∧ (startRunning s).retentionValid = s.retentionValid ∧
    (startRunning s).straps = s.straps ∧ (startRunning s).pins = s.pins ∧ (startRunning s).feeds = s.feeds ∧
    (startRunning s).grant = s.grant ∧ (startRunning s).tray = s.tray ∧ (startRunning s).shelf = s.shelf ∧
    (startRunning s).stapler = s.stapler ∧ (startRunning s).tower = s.tower ∧
    (startRunning s).stacker = s.stacker ∧ (startRunning s).pockets = s.pockets ∧
    (startRunning s).session = s.session ∧ (startRunning s).jobs = s.jobs ∧
    (startRunning s).tables = s.tables ∧ (startRunning s).path = s.path ∧ (startRunning s).races = s.races ∧
    (startRunning s).pending = s.pending := by
  simp [startRunning]

/-! ## Requests -/

@[simp] theorem loseSet_frame (j n p c r g t : Nat) (f : SetFlags) (m : Bool) :
    (loseSet s j n p c r g t f m).run = s.run ∧ (loseSet s j n p c r g t f m).fault = s.fault ∧
    (loseSet s j n p c r g t f m).retentionValid = s.retentionValid ∧
    (loseSet s j n p c r g t f m).straps = s.straps ∧ (loseSet s j n p c r g t f m).pins = s.pins ∧
    (loseSet s j n p c r g t f m).feeds = s.feeds ∧ (loseSet s j n p c r g t f m).grant = s.grant ∧
    (loseSet s j n p c r g t f m).tray = s.tray ∧ (loseSet s j n p c r g t f m).shelf = s.shelf ∧
    (loseSet s j n p c r g t f m).stapler = s.stapler ∧ (loseSet s j n p c r g t f m).tower = s.tower ∧
    (loseSet s j n p c r g t f m).stacker = s.stacker ∧ (loseSet s j n p c r g t f m).pockets = s.pockets ∧
    (loseSet s j n p c r g t f m).session = s.session ∧ (loseSet s j n p c r g t f m).path = s.path ∧
    (loseSet s j n p c r g t f m).timers = s.timers ∧ (loseSet s j n p c r g t f m).races = s.races ∧
    (loseSet s j n p c r g t f m).pending = s.pending := by
  simp [loseSet]

@[simp] theorem loseRecord_frame (r : SetRec) (m : Bool) :
    (loseRecord s r m).run = s.run ∧ (loseRecord s r m).fault = s.fault ∧
    (loseRecord s r m).retentionValid = s.retentionValid ∧ (loseRecord s r m).straps = s.straps ∧
    (loseRecord s r m).pins = s.pins ∧ (loseRecord s r m).feeds = s.feeds ∧
    (loseRecord s r m).grant = s.grant ∧ (loseRecord s r m).tray = s.tray ∧
    (loseRecord s r m).shelf = s.shelf ∧ (loseRecord s r m).stapler = s.stapler ∧
    (loseRecord s r m).tower = s.tower ∧ (loseRecord s r m).stacker = s.stacker ∧
    (loseRecord s r m).pockets = s.pockets ∧ (loseRecord s r m).session = s.session ∧
    (loseRecord s r m).path = s.path ∧ (loseRecord s r m).timers = s.timers ∧
    (loseRecord s r m).races = s.races ∧ (loseRecord s r m).pending = s.pending := by
  simp [loseRecord]

@[simp] theorem clearPath_frame :
    (clearPath s).run = s.run ∧ (clearPath s).fault = s.fault ∧
    (clearPath s).retentionValid = s.retentionValid ∧ (clearPath s).straps = s.straps ∧
    (clearPath s).pins = s.pins ∧ (clearPath s).links = s.links ∧ (clearPath s).feeds = s.feeds ∧
    (clearPath s).grant = s.grant ∧ (clearPath s).tray = s.tray ∧ (clearPath s).shelf = s.shelf ∧
    (clearPath s).stapler = s.stapler ∧ (clearPath s).tower = s.tower ∧ (clearPath s).stacker = s.stacker ∧
    (clearPath s).pockets = s.pockets ∧ (clearPath s).session = s.session ∧ (clearPath s).jobs = s.jobs ∧
    (clearPath s).tables = s.tables ∧ (clearPath s).timers = s.timers ∧ (clearPath s).races = s.races ∧
    (clearPath s).pending = s.pending := by
  simp [clearPath]

@[simp] theorem clearTray_frame :
    (clearTray s).run = s.run ∧ (clearTray s).fault = s.fault ∧
    (clearTray s).retentionValid = s.retentionValid ∧ (clearTray s).straps = s.straps ∧
    (clearTray s).pins = s.pins ∧ (clearTray s).feeds = s.feeds ∧ (clearTray s).grant = s.grant ∧
    (clearTray s).shelf = s.shelf ∧ (clearTray s).tower = s.tower ∧ (clearTray s).stacker = s.stacker ∧
    (clearTray s).pockets = s.pockets ∧ (clearTray s).session = s.session ∧ (clearTray s).path = s.path ∧
    (clearTray s).timers = s.timers ∧ (clearTray s).races = s.races ∧ (clearTray s).pending = s.pending := by
  unfold clearTray
  dsimp only
  split <;> simp

@[simp] theorem clearTower_frame :
    (clearTower s).run = s.run ∧ (clearTower s).fault = s.fault ∧
    (clearTower s).retentionValid = s.retentionValid ∧ (clearTower s).straps = s.straps ∧
    (clearTower s).pins = s.pins ∧ (clearTower s).feeds = s.feeds ∧ (clearTower s).grant = s.grant ∧
    (clearTower s).tray = s.tray ∧ (clearTower s).shelf = s.shelf ∧ (clearTower s).stapler = s.stapler ∧
    (clearTower s).stacker = s.stacker ∧ (clearTower s).pockets = s.pockets ∧
    (clearTower s).session = s.session ∧ (clearTower s).path = s.path ∧ (clearTower s).timers = s.timers ∧
    (clearTower s).races = s.races ∧ (clearTower s).pending = s.pending := by
  unfold clearTower
  dsimp only
  repeat' split
  all_goals simp

@[simp] theorem loseShelf_frame (rs : List SetRec) (s : State) :
    (loseShelf rs s).run = s.run ∧ (loseShelf rs s).fault = s.fault ∧
    (loseShelf rs s).retentionValid = s.retentionValid ∧ (loseShelf rs s).straps = s.straps ∧
    (loseShelf rs s).pins = s.pins ∧ (loseShelf rs s).feeds = s.feeds ∧ (loseShelf rs s).grant = s.grant ∧
    (loseShelf rs s).tray = s.tray ∧ (loseShelf rs s).stapler = s.stapler ∧ (loseShelf rs s).tower = s.tower ∧
    (loseShelf rs s).stacker = s.stacker ∧ (loseShelf rs s).pockets = s.pockets ∧
    (loseShelf rs s).session = s.session ∧ (loseShelf rs s).path = s.path ∧
    (loseShelf rs s).timers = s.timers ∧ (loseShelf rs s).races = s.races ∧ (loseShelf rs s).pending = s.pending := by
  induction rs generalizing s with
  | nil => simp [loseShelf]
  | cons r rs ih =>
    unfold loseShelf
    simpa using ih (loseRecord { s with shelf := { motion := .idle, stack := rs } } r false)

@[simp] theorem clearShelf_frame :
    (clearShelf s).run = s.run ∧ (clearShelf s).fault = s.fault ∧
    (clearShelf s).retentionValid = s.retentionValid ∧ (clearShelf s).straps = s.straps ∧
    (clearShelf s).pins = s.pins ∧ (clearShelf s).feeds = s.feeds ∧ (clearShelf s).grant = s.grant ∧
    (clearShelf s).tray = s.tray ∧ (clearShelf s).stapler = s.stapler ∧ (clearShelf s).tower = s.tower ∧
    (clearShelf s).stacker = s.stacker ∧ (clearShelf s).pockets = s.pockets ∧
    (clearShelf s).session = s.session ∧ (clearShelf s).path = s.path ∧ (clearShelf s).timers = s.timers ∧
    (clearShelf s).races = s.races ∧ (clearShelf s).pending = s.pending := by
  unfold clearShelf
  repeat' split
  all_goals simp

@[simp] theorem loseSegment_frame (g : Segment) :
    (loseSegment s g).run = s.run ∧ (loseSegment s g).fault = s.fault ∧
    (loseSegment s g).retentionValid = s.retentionValid ∧ (loseSegment s g).straps = s.straps ∧
    (loseSegment s g).pins = s.pins ∧ (loseSegment s g).feeds = s.feeds ∧ (loseSegment s g).grant = s.grant ∧
    (loseSegment s g).tray = s.tray ∧ (loseSegment s g).stapler = s.stapler ∧
    (loseSegment s g).tower = s.tower ∧ (loseSegment s g).stacker = s.stacker ∧
    (loseSegment s g).pockets = s.pockets ∧ (loseSegment s g).session = s.session ∧
    (loseSegment s g).tables = s.tables ∧ (loseSegment s g).path = s.path ∧
    (loseSegment s g).timers = s.timers ∧ (loseSegment s g).races = s.races ∧
    (loseSegment s g).pending = s.pending := by
  unfold loseSegment
  dsimp only
  split <;> simp

@[simp] theorem clearAll_frame :
    (clearAll s).retentionValid = s.retentionValid ∧ (clearAll s).straps = s.straps ∧
    (clearAll s).pins = s.pins ∧ (clearAll s).feeds = s.feeds ∧ (clearAll s).grant = s.grant ∧
    (clearAll s).stacker = s.stacker ∧ (clearAll s).pockets = s.pockets ∧ (clearAll s).session = s.session ∧
    (clearAll s).timers = s.timers ∧ (clearAll s).races = s.races ∧ (clearAll s).pending = s.pending := by
  unfold clearAll
  dsimp only
  repeat' split
  all_goals simp

@[simp] theorem afterPockets_frame (ps : List Nat) :
    (afterPockets ps s).run = s.run ∧ (afterPockets ps s).fault = s.fault ∧
    (afterPockets ps s).retentionValid = s.retentionValid ∧ (afterPockets ps s).straps = s.straps ∧
    (afterPockets ps s).pins = s.pins ∧ (afterPockets ps s).feeds = s.feeds ∧
    (afterPockets ps s).grant = s.grant ∧ (afterPockets ps s).tray = s.tray ∧
    (afterPockets ps s).shelf = s.shelf ∧ (afterPockets ps s).stapler = s.stapler ∧
    (afterPockets ps s).stacker = s.stacker ∧ (afterPockets ps s).tables = s.tables ∧
    (afterPockets ps s).path = s.path ∧ (afterPockets ps s).races = s.races ∧
    (afterPockets ps s).pending = s.pending := by
  unfold afterPockets
  dsimp only
  repeat' split
  all_goals simp

end Sys2Proof.Machine
end

