-- ==== Sys2Proof/Laws/Lists.lean ====
section
/-!
SUPPORT. Laws/Lists.lean: what the list operations, the frame handler, the receivers, the outbound queues and the job list's
look-up do, each said once.
-/
namespace Sys2Proof.Machine

/-! ## Lists -/

/-- `fitting` answers the longest front of the list that takes at most `room` characters. -/
theorem fitting_spec (room : Nat) (xs : List (List Data)) :
    fitting room xs <+: xs ∧ (fitting room xs).flatten.length ≤ room ∧
      ∀ m, (xs.take m).flatten.length ≤ room → (xs.take m).length ≤ (fitting room xs).length := by
  induction xs generalizing room with
  | nil => simp [fitting]
  | cons x xs ih =>
    obtain ⟨hp, hl, hm⟩ := ih (room - x.length)
    unfold fitting
    split
    case isTrue h =>
      refine ⟨List.cons_prefix_cons.mpr ⟨rfl, hp⟩, ?_, fun m hr => ?_⟩
      · simp only [List.flatten_cons, List.length_append]; omega
      · cases m with
        | zero => simp
        | succ m =>
          simp only [List.take_succ_cons, List.flatten_cons, List.length_append, List.length_cons] at hr ⊢
          have := hm m (by omega)
          omega
    case isFalse h =>
      refine ⟨List.nil_prefix, by simp, fun m hr => ?_⟩
      cases m with
      | zero => simp
      | succ m =>
        simp only [List.take_succ_cons, List.flatten_cons, List.length_append] at hr
        omega

theorem changeAt_eq_set {α : Type} (f : α → α) : ∀ (i : Nat) (xs : List α) (x : α), xs[i]? = some x →
    changeAt i f xs = xs.set i (f x) := by
  intro i xs
  induction xs generalizing i with
  | nil => simp
  | cons y ys ih =>
    cases i with
    | zero =>
      intro x hx
      simp only [List.getElem?_cons_zero, Option.some.injEq] at hx
      simp [changeAt, hx]
    | succ i =>
      intro x hx
      simp only [List.getElem?_cons_succ] at hx
      simp [changeAt, ih i x hx]

@[simp] theorem changeAt_length {α : Type} (f : α → α) : ∀ (i : Nat) (xs : List α),
    (changeAt i f xs).length = xs.length := by
  intro i xs
  induction xs generalizing i with
  | nil => simp [changeAt]
  | cons y ys ih => cases i <;> simp [changeAt, ih]

theorem changeAt_getElem? {α : Type} (f : α → α) : ∀ (i j : Nat) (xs : List α),
    (changeAt i f xs)[j]? = if j = i then (xs[j]?).map f else xs[j]? := by
  intro i j xs
  induction xs generalizing i j with
  | nil => simp [changeAt]
  | cons y ys ih =>
    cases i with
    | zero => cases j <;> simp [changeAt]
    | succ i => cases j <;> simp [changeAt, ih]

theorem takeFirst_append {α : Type} (p : α → Bool) (e : α) (after : List α) (he : p e = true) :
    ∀ before : List α, (∀ x ∈ before, p x = false) →
      takeFirst p (before ++ e :: after) = some (e, before ++ after) := by
  intro before
  induction before with
  | nil => simp [takeFirst, he]
  | cons x xs ih =>
    intro h
    simp [takeFirst, h x (by simp), ih (fun y hy => h y (by simp [hy]))]

theorem takeFirst_none {α : Type} (p : α → Bool) : ∀ xs : List α, (∀ x ∈ xs, p x = false) → takeFirst p xs = none := by
  intro xs
  induction xs with
  | nil => simp [takeFirst]
  | cons x xs ih =>
    intro h
    simp [takeFirst, h x (by simp), ih (fun y hy => h y (by simp [hy]))]

theorem changeFirst_append {α : Type} (p : α → Bool) (f : α → α) (e : α) (after : List α) (he : p e = true) :
    ∀ before : List α, (∀ x ∈ before, p x = false) →
      changeFirst p f (before ++ e :: after) = before ++ f e :: after := by
  intro before
  induction before with
  | nil => simp [changeFirst, he]
  | cons x xs ih =>
    intro h
    simp [changeFirst, h x (by simp), ih (fun y hy => h y (by simp [hy]))]

@[simp] theorem changeFirst_length {α : Type} (p : α → Bool) (f : α → α) : ∀ xs : List α,
    (changeFirst p f xs).length = xs.length := by
  intro xs
  induction xs with
  | nil => rfl
  | cons x xs ih =>
    unfold changeFirst
    split <;> simp [ih]

variable (s : State)

/-! ## The frame handler (R152) -/

/-- A wanted frame of the right length is handed to its owner. -/
theorem handle_request {wanted : Frame → Bool} {owner : Link → Frame → State → State} {l : Link} {f : Frame}
    (h : oldestFrame s l = some f) (hw : wanted f = true) (hl : lengthOk f = true) :
    handle wanted owner l s = owner l f (takeFrame s l) := by
  simp [handle, h, hw, hl]

/-- A wanted frame of a wrong length is refused. -/
theorem handle_badLength {wanted : Frame → Bool} {owner : Link → Frame → State → State} {l : Link} {f : Frame}
    (h : oldestFrame s l = some f) (hw : wanted f = true) (hl : lengthOk f = false) :
    handle wanted owner l s = refuse (takeFrame s l) l f .badLength := by
  simp [handle, h, hw, hl]

/-- Every state the handler can leave. -/
theorem handle_cases (wanted : Frame → Bool) (owner : Link → Frame → State → State) (l : Link) :
    handle wanted owner l s = s ∨
      ∃ f, oldestFrame s l = some f ∧ wanted f = true ∧
        (handle wanted owner l s = owner l f (takeFrame s l) ∨
          handle wanted owner l s = refuse (takeFrame s l) l f .badLength) := by
  unfold handle
  split
  · exact .inl rfl
  · rename_i f h
    split
    · rename_i hw
      refine .inr ⟨f, h, hw, ?_⟩
      split
      · exact .inl rfl
      · exact .inr rfl
    · exact .inl rfl

/-! ## Receivers and outbound queues (R149, R153) -/

/-- A character changes its own link's port and nothing else. -/
theorem receiveChr_eq (l : Link) (c : Chr) (h : linkPresent s l = true) :
    let k := (s.links.get l).received (rxStep s.straps.address (s.links.get l).rx c)
    receiveChr l c s = { s with links := s.links.set l k } := by
  simp [receiveChr, h, changePort]

/-- A frame that is queued changes its own link's port and nothing else. -/
theorem queueOut_eq (l : Link) (o : Outbound) (h : linkPresent s l = true) :
    let k := ((s.links.get l).enqueue o).startNext s.straps.address
    queueOut s l o = { s with links := s.links.set l k } := by
  cases l <;> simp_all [queueOut, pump, changePort, linkPresent]

/-! ## Look-ups -/

/-- The job found has the number asked for, and is of the list. -/
theorem findJob_some {s : State} {n : Nat} {j : Job} (h : findJob s n = some j) : j.number = n ∧ j ∈ s.jobs := by
  unfold findJob at h
  have h1 := List.find?_some h
  exact ⟨by simpa using h1, List.mem_of_find?_eq_some h⟩

/-- With at most one record of each number, the record of the list is the one found. -/
theorem findJob_mem {s : State} {j : Job} (hn : (s.jobs.map (·.number)).Nodup) (hj : j ∈ s.jobs) :
    findJob s j.number = some j := by
  unfold findJob
  generalize s.jobs = js at hn hj
  induction js with
  | nil => cases hj
  | cons x xs ih =>
    rw [List.map_cons, List.nodup_cons] at hn
    rcases List.mem_cons.1 hj with h | h
    · subst h
      simp
    · have hne : x.number ≠ j.number := fun e => hn.1 (e ▸ List.mem_map_of_mem h)
      simp [hne, ih hn.2 h]

/-! ## The sensed lines and the clock (R71) -/

@[simp] theorem senseEntry_frame (l : Link) (b : Bool) :
    (senseEntry s l b).run = s.run ∧ (senseEntry s l b).fault = s.fault ∧
    (senseEntry s l b).retentionValid = s.retentionValid ∧ (senseEntry s l b).straps = s.straps ∧
    (senseEntry s l b).links = s.links ∧ (senseEntry s l b).feeds = s.feeds ∧
    (senseEntry s l b).grant = s.grant ∧ (senseEntry s l b).tray = s.tray ∧
    (senseEntry s l b).shelf = s.shelf ∧ (senseEntry s l b).stapler = s.stapler ∧
    (senseEntry s l b).tower = s.tower ∧ (senseEntry s l b).stacker = s.stacker ∧
    (senseEntry s l b).pockets = s.pockets ∧ (senseEntry s l b).session = s.session ∧
    (senseEntry s l b).jobs = s.jobs ∧ (senseEntry s l b).tables = s.tables ∧
    (senseEntry s l b).path = s.path ∧ (senseEntry s l b).timers = s.timers ∧
    (senseEntry s l b).races = s.races ∧ (senseEntry s l b).pending = s.pending := by
  cases l <;> simp [senseEntry]

/-- R71: while the part works, the transport timer comes to hold the tick, and the rest of the path stays. -/
theorem advanceTo_path (t : Tick) (h : active s = true) : (advanceTo t s).path = { s.path with timer := t } := by
  have e : s.path.timer + BitVec.ofNat 16 (t - s.path.timer).toNat = t := by
    rw [BitVec.ofNat_toNat, BitVec.setWidth_eq]
    bv_omega
  simp only [advanceTo, elapse, h, if_true, e]

/-- The waiting commands and the session's fields beside its timer stay. -/
theorem advanceTo_session (t : Tick) (h : s.session = none) : (advanceTo t s).session = none := by
  simp [advanceTo, elapse, h]

end Sys2Proof.Machine
end

