-- ==== Sys2Proof/Laws/Settle.lean ====
section
/-!
SUPPORT. Laws/Settle.lean: what the part can do of itself after an event (`settle`), said once: `Onward s t` holds from each
part of `settle` to the next, and so from the state before `settle` to the state after it.
-/
namespace Sys2Proof.Machine

variable (s : State)

/-- The record's numbers that only an arrival of a sheet or a receipt by the tower changes. -/
def SetRec.numbers (r : SetRec) : Nat × Nat × Nat × Nat × Nat × Nat × Nat :=
  (r.job, r.seat, r.segment, r.traySheets, r.trayHeight, r.totalSheets, r.replyTag)

/-- What every part of `settle` but the waiting session's leaves as it is, or changes in one way only. -/
structure Onward (s t : State) : Prop where
  warmup : t.timers.warmup = s.timers.warmup
  feedWindow : t.timers.feedWindow = s.timers.feedWindow
  recovery : t.timers.recovery = s.timers.recovery
  delivery : t.timers.delivery = s.timers.delivery
  descs : ∀ l, t.descs l = s.descs l
  captures : ∀ l, (t.feeds.get l).capture = (s.feeds.get l).capture
  cartridge : t.stapler.cartridge = s.stapler.cartridge
  stapler : t.stapler.phase = s.stapler.phase ∨ (s.stapler.phase = .ready ∧ t.stapler.phase = .firing)
  completion : t.timers.completion = s.timers.completion ∨ (s.stapler.phase = .ready ∧ t.stapler.phase = .firing)
  stack : t.shelf.stack = s.shelf.stack
  tower : t.tower = s.tower ∨ (s.tower.phase = .idle ∧ t.tower = { s.tower with phase := .receiving })
  session : t.session = s.session
  run : t.run = s.run ∨ (s.run = .halting ∧ t.run = .standby)
  held : ∀ r, s.tray.held = some r → 0 < r.traySheets → s.tray.phase ≠ .empty →
    t.tray.phase ≠ .empty ∧ ∃ r', t.tray.held = some r' ∧ r'.numbers = r.numbers

theorem Onward.refl : Onward s s :=
  ⟨rfl, rfl, rfl, rfl, fun _ => rfl, fun _ => rfl, rfl, .inl rfl, .inl rfl, rfl, .inl rfl, rfl, .inl rfl,
    fun r h _ hp => ⟨hp, r, h, rfl⟩⟩

theorem Onward.trans {s t u : State} (h : Onward s t) (g : Onward t u) : Onward s u where
  warmup := g.warmup.trans h.warmup
  feedWindow := g.feedWindow.trans h.feedWindow
  recovery := g.recovery.trans h.recovery
  delivery := g.delivery.trans h.delivery
  descs l := (g.descs l).trans (h.descs l)
  captures l := (g.captures l).trans (h.captures l)
  cartridge := g.cartridge.trans h.cartridge
  stapler := by
    rcases h.stapler with a | ⟨a, b⟩ <;> rcases g.stapler with c | ⟨c, d⟩ <;> simp_all
  completion := by
    rcases h.stapler with a | ⟨a, b⟩ <;> rcases g.stapler with c | ⟨c, d⟩ <;> rcases h.completion with e | ⟨e, f⟩ <;>
      rcases g.completion with k | ⟨k, m⟩ <;> simp_all
  stack := g.stack.trans h.stack
  tower := by
    rcases h.tower with a | ⟨a, b⟩ <;> rcases g.tower with c | ⟨c, d⟩ <;> simp_all
  session := g.session.trans h.session
  run := by
    rcases h.run with a | ⟨a, b⟩ <;> rcases g.run with c | ⟨c, d⟩ <;> simp_all
  held := by
    intro r a b c
    obtain ⟨p, r', h1, h2⟩ := h.held r a b c
    have hb : r'.traySheets = r.traySheets := by simp only [SetRec.numbers, Prod.mk.injEq] at h2; exact h2.2.2.2.1
    obtain ⟨p', r'', h3, h4⟩ := g.held r' h1 (hb ▸ b) p
    exact ⟨p', r'', h3, h4.trans h2⟩

/-- An update of nothing that `Onward` speaks of. -/
theorem Onward.of_eq {s t : State} (h1 : t.timers = s.timers) (h2 : t.feeds = s.feeds) (h3 : t.stapler = s.stapler)
    (h4 : t.shelf = s.shelf) (h5 : t.tower = s.tower) (h6 : t.session = s.session) (h7 : t.run = s.run)
    (h8 : t.tray = s.tray) : Onward s t := by
  constructor <;> simp_all [State.descs]

theorem tryEject_onward : Onward s (tryEject s) := by
  unfold tryEject
  split
  · split
    · rename_i h1 h2 _
      constructor <;> simp_all [State.descs]
    · exact Onward.refl s
  · exact Onward.refl s

theorem toReady_onward (h : s.tray.phase ≠ .empty) : Onward s (toReady s) := by
  unfold toReady
  split
  · refine Onward.trans ?_ (tryEject_onward _)
    constructor <;> simp_all [State.descs, SetRec.numbers]
  · exact Onward.refl s

theorem requestFire_onward (r : SetRec) : Onward s (requestFire s r) := by
  unfold requestFire
  dsimp only
  split
  · constructor <;> simp_all [State.descs]
  · constructor <;> simp_all [State.descs]
  · exact Onward.refl s
  · exact Onward.refl s

theorem stapleDecision_onward (h : s.tray.phase ≠ .empty) : Onward s (stapleDecision s) := by
  unfold stapleDecision
  split
  · exact Onward.refl s
  · dsimp only
    repeat' split
    · refine Onward.trans ?_ (toReady_onward _ h)
      constructor <;> simp_all [State.descs]
    · refine Onward.trans ?_ (requestFire_onward _ _)
      constructor <;> simp_all [State.descs]
    · refine Onward.trans ?_ (toReady_onward _ h)
      constructor <;> simp_all [State.descs, markUnstapled, SetRec.numbers]

theorem splitWaitOver_onward (h : s.tray.phase ≠ .empty) : Onward s (splitWaitOver s) := by
  unfold splitWaitOver
  split
  · exact stapleDecision_onward s h
  · exact Onward.refl s

theorem beginSplit_onward : Onward s (beginSplit s) := by
  unfold beginSplit
  refine Onward.trans ?_ (splitWaitOver_onward _ (by simp))
  constructor <;> simp_all [State.descs]

theorem emptyOutcome_onward (r : SetRec) (h : s.tray.held = some r) (h0 : r.traySheets = 0) :
    Onward s (emptyOutcome s r) := by
  constructor <;> simp_all [State.descs]

theorem closeFinal_onward (r : SetRec) (h : s.tray.held = some r) : Onward s (closeFinal s r) := by
  unfold closeFinal
  dsimp only
  repeat' split
  · constructor <;> simp_all [State.descs]
  · refine Onward.trans ?_ (emptyOutcome_onward _ r h (by assumption))
    constructor <;> simp_all [State.descs]
  · refine Onward.trans ?_ (stapleDecision_onward _ (by simp))
    constructor <;> simp_all [State.descs]

/-- R39: the open set is the set the tray holds. -/
theorem openSet_held {s : State} {r : SetRec} (h : openSet s = some r) : s.tray.held = some r := by
  unfold openSet at h
  repeat' split at h
  all_goals simp_all

/-- R51: the assembling set is the set a COMPILING tray holds, ASSEMBLING, in RUNNING or HALTING. -/
theorem assemblingSet_some {s : State} {r : SetRec} (h : assemblingSet s = some r) :
    s.tray.phase = .compiling ∧ openSet s = some r ∧ s.tray.held = some r ∧ r.assembly = .assembling ∧
      active s = true := by
  unfold assemblingSet at h
  split at h
  · rename_i r' h1 h2
    split at h
    · rename_i h3
      simp only [Bool.and_eq_true, beq_iff_eq] at h3
      cases h
      exact ⟨h1, h2, openSet_held h2, h3.1, h3.2⟩
    · cases h
  · cases h

@[simp] theorem endPart_numbers (r : SetRec) (b : PlanBody) : (r.endPart b).numbers = r.numbers := by
  unfold SetRec.endPart
  dsimp only
  split <;> rfl

theorem endPart_onward (r : SetRec) (h : s.tray.held = some r) : Onward s (endPart s r) := by
  constructor <;> simp_all [State.descs, endPart]

theorem advanceParts_onward (n : Nat) : ∀ s, Onward s (advanceParts n s) := by
  induction n with
  | zero => exact fun s => Onward.refl s
  | succ n ih =>
    intro s
    unfold advanceParts
    repeat' split
    · exact Onward.refl s
    · rename_i r h _
      exact (endPart_onward s r (assemblingSet_some h).2.2.1).trans (ih _)
    · exact Onward.refl s

theorem advance_onward : Onward s (advance s) := advanceParts_onward 7 s

theorem preempt_onward : Onward s (preempt s) := by
  unfold preempt
  repeat' split
  · constructor <;> simp_all [State.descs, beginPark]
  all_goals exact Onward.refl s

theorem handOver_onward : Onward s (handOver s) := by
  unfold handOver
  repeat' split
  · exact closeFinal_onward s _ (openSet_held (by assumption))
  all_goals exact Onward.refl s

theorem changeAt_map {α β : Type} (g : α → β) (f : α → α) (h : ∀ x, g (f x) = g x) :
    ∀ (i : Nat) (xs : List α), (changeAt i f xs).map g = xs.map g := by
  intro i xs
  induction xs generalizing i with
  | nil => simp [changeAt]
  | cons x xs ih => cases i <;> simp [changeAt, h, ih]

theorem changeHead_descs (l m : Link) (f : QueueEntry → QueueEntry) (h : ∀ e, (f e).desc = e.desc) :
    (changeHead s l f).descs m = s.descs m := by
  unfold changeHead changeFeed State.descs
  by_cases hm : m = l
  · subst hm
    simp [changeAt_map (·.desc) f h]
  · simp [Pair.get_set_other _ _ hm]

theorem changeHead_capture (l m : Link) (f : QueueEntry → QueueEntry) :
    ((changeHead s l f).feeds.get m).capture = (s.feeds.get m).capture := by
  unfold changeHead changeFeed
  by_cases hm : m = l
  · subst hm
    simp
  · simp [Pair.get_set_other _ _ hm]

theorem issueGrant_feeds (l : Link) (e : QueueEntry) (p : Purpose) :
    (issueGrant s l e p).feeds = (changeHead s l (fun x => { x with standing := .granted p.route })).feeds := by
  simp [issueGrant]

theorem issueGrant_onward (l : Link) (e : QueueEntry) (p : Purpose) : Onward s (issueGrant s l e p) := by
  constructor
  case descs =>
    intro m
    have := changeHead_descs s l m (fun x => { x with standing := .granted p.route }) (fun _ => rfl)
    simpa [State.descs, issueGrant_feeds] using this
  case captures =>
    intro m
    rw [issueGrant_feeds]
    exact changeHead_capture s l m _
  all_goals simp_all

theorem endPartAtGrant_onward (d : Desc) : Onward s (endPartAtGrant s d) := by
  unfold endPartAtGrant
  repeat' split
  · exact endPart_onward s _ (openSet_held (by assumption))
  all_goals exact Onward.refl s

theorem startSet_onward (l : Link) (e : QueueEntry) (j : Job) (h : s.tray.phase = .empty) :
    Onward s (startSet s l e j) := by
  unfold startSet
  dsimp only
  refine Onward.trans (Onward.trans ?_ (issueGrant_onward _ l e .tray)) (endPartAtGrant_onward _ _)
  constructor <;> simp_all [State.descs]

theorem startSelection_onward : Onward s (startSelection s) := by
  unfold startSelection
  split
  · rename_i h
    repeat' split
    · exact Onward.refl s
    · constructor <;> simp_all [State.descs, beginUnpark]
    · exact Onward.refl s
    · exact Onward.refl s
    · exact startSet_onward s _ _ _ h.2.1
    · exact Onward.refl s
  · exact Onward.refl s

theorem servePurgeOrStart_onward : Onward s (servePurgeOrStart s) := by
  unfold servePurgeOrStart
  split
  · split
    · exact issueGrant_onward s _ _ _
    · exact Onward.refl s
  · exact startSelection_onward s

theorem grantNeeded_onward (l : Link) (e : QueueEntry) : Onward s (grantNeeded s l e) := by
  unfold grantNeeded
  refine Onward.trans (Onward.trans ?_ (issueGrant_onward _ l e .tray)) (endPartAtGrant_onward _ _)
  constructor <;> simp_all [State.descs, SetRec.numbers, SetRec.grantSheet]

theorem serve_onward : Onward s (serve s) := by
  unfold serve
  repeat' split
  · exact servePurgeOrStart_onward s
  · exact servePurgeOrStart_onward s
  · exact (beginSplit_onward s).trans (servePurgeOrStart_onward _)
  · exact grantNeeded_onward s _ _
  · exact Onward.refl s
  · exact Onward.refl s

theorem stallUpdate_onward : Onward s (stallUpdate s) := by
  constructor <;> simp_all [State.descs, stallUpdate]

theorem haltCheck_onward : Onward s (haltCheck s) := by
  unfold haltCheck
  split
  · rename_i h
    have hr : s.run = .halting := by
      simp only [haltDone, Bool.and_eq_true, beq_iff_eq] at h
      exact h.1.1.1.1
    constructor <;> simp_all [State.descs, changeRun]
  · exact Onward.refl s

/-- A session that does not wait for the tower, or a tower that is not IDLE: nothing is taken (R129). -/
theorem sessionTakesTower_eq
    (h : s.session = none ∨ s.tower.phase ≠ .idle ∨
      ∃ z, s.session = some z ∧ (z.phase = .active ∨ z.towerTaken = true)) :
    sessionTakesTower s = s := by
  unfold sessionTakesTower
  rcases h with h | h | ⟨z, hz, h⟩
  · simp [h]
  · split
    · rename_i h2
      exact absurd h2 h
    · rfl
  · simp only [hz]
    split
    · rcases h with h | h <;> simp_all
    · rfl

/-- What `settle` does from the state the waiting session leaves. -/
theorem settle_onward : Onward (sessionTakesTower s) (settle s) := by
  unfold settle
  dsimp only
  split
  · exact (tryEject_onward _).trans <| (preempt_onward _).trans <| (advance_onward _).trans <|
      (handOver_onward _).trans <| (serve_onward _).trans <| (advance_onward _).trans <|
      (stallUpdate_onward _).trans (haltCheck_onward _)
  · exact tryEject_onward _

/-- What `settle` does when no session waits for an IDLE tower. -/
theorem settle_onward_of
    (h : s.session = none ∨ s.tower.phase ≠ .idle ∨
      ∃ z, s.session = some z ∧ (z.phase = .active ∨ z.towerTaken = true)) :
    Onward s (settle s) := by
  have := settle_onward s
  rwa [sessionTakesTower_eq s h] at this

end Sys2Proof.Machine
end

