-- ==== Sys2Proof/Machine/Lines.lean ====
section
/-!
DEFINITION. Machine/Lines.lean: the levels of the part's output lines ("The part's lines" of
12_run_states_faults_and_power.md), each a function of the state (notes/assumptions/33.md).
-/
namespace Sys2Proof.Machine

/-- R162: the motor runs in WARMING, RUNNING and HALTING. -/
def motorRun (s : State) : Bool :=
  match s.run with
  | .warming | .running | .halting => true
  | .standby | .faulted => false

/-- R81: the side the gate is driven to. -/
def gateDrive (s : State) : GateSide := s.path.gate

/-- R62, R63: the shelf drive. -/
def shelfDrive (s : State) : Motion := s.shelf.motion

/-- R99: the fire drive. -/
def fireDrive (s : State) : Bool := s.stapler.phase == .firing

/-- R102, R105: the eject drive, stopped in FAULTED. -/
def ejectDrive (s : State) : Bool := s.tray.phase == .ejecting && s.run != .faulted

/-- Where the elevator is driven (R110, R124, R129, R133). -/
inductive ElevatorDrive where
  | stopped
  | toTarget (d : Dest)
  | toInsertPosition (pocket : Nat)
  | home
deriving DecidableEq, Repr

/-- R110, R124, R129, R133: the elevator drive. A re-target in mid-carry that leaves the tower BLOCKED (R113) finds the elevator
on its way: R112 has a BLOCKED tower hold its segment at the receiving position, and no rule says that it is driven back
there. The drive of a BLOCKED tower is stopped (DESIGN CHOICE, notes/assumptions/43.md). -/
def elevatorDrive (s : State) : ElevatorDrive :=
  if s.run = .faulted then .stopped
  else match s.tower.phase, s.tower.target, s.session with
    | .carrying, some o, _ => .toTarget o.dest
    | .held, _, some z => if z.towerTaken then .toInsertPosition z.target else .home
    | .held, _, none => .home
    | _, _, _ => .stopped

/-- R128: INSRDY is active exactly while a session is ACTIVE. -/
def insertReadyLine (s : State) : Bool :=
  match s.session with
  | some z => z.phase == .active
  | none => false

end Sys2Proof.Machine
end

