-- ==== Sys2Proof/Tests/Slice0.lean ====
section
/-!
SUPPORT. Tests/Slice0.lean: the operands a command may not carry, single steps whose outcome the manual's own tables and
worked examples give, and for each statement that has hypotheses a state and operands that meet them.
-/
namespace Sys2Proof.Tests
open Sys2Proof.Machine

/-! ## Small states -/

/-- The state after a command that completes. -/
def after (c : Instr) (s : State) : State :=
  match exec c s with
  | .next t => t
  | .fault _ => s
  | .refused _ => s

/-- Payload characters. -/
def data (p : List Nat) : List Data := p.map (BitVec.ofNat 7)

/-- A frame for this unit. -/
def frame (kind : Nat) (p : List Nat) : Frame := { broadcast := false, kind := kind, payload := data p }

/-- The state with one frame in link A's FIFO. -/
def asked (kind : Nat) (p : List Nat) (s : State) : State :=
  changePort s .a (fun k => { k with fifo := [frame kind p] })

/-- The results of the answers link A is sending or has queued. -/
def answers (s : State) : List Result :=
  (s.links.a.sending.toList ++ s.links.a.queue).filterMap
    (fun o => match o with | .answer a => some a.result | .grant _ _ => none | .withdraw _ => none | .notice _ => none)

/-- The notices link A is sending or has queued. -/
def notices (s : State) : List NoticeBody :=
  (s.links.a.sending.toList ++ s.links.a.queue).filterMap
    (fun o => match o with | .notice n => some n.body | .grant _ _ => none | .withdraw _ => none | .answer _ => none)

def running : State := { State.reset with run := .running }

def faulted : State :=
  { State.reset with run := .faulted, fault := { first := some FaultCause.shelfJam.plain, further := 0 } }

/-- A plan of a link-B cover sheet, 1 to 20 link-A pages and an optional link-B sheet, CORNER. -/
def coverPlan : PlanBody :=
  { parts := [{ source := .b, minCount := 1, maxCount := 1 }, { source := .a, minCount := 1, maxCount := 20 },
      { source := .b, minCount := 0, maxCount := 2 }]
    stapleMode := .corner, stapleRequired := false, parkPermitted := true }

/-- Job 24 of the worked example of 07: plan 5, class 11, exception pocket 3, overflow pocket 30. -/
def job24 : Job :=
  { number := 24, phase := .opened, plan := 5, cls := 11, priority := 1, exceptionPocket := 3
    overflowPocket := some 30, replyTag := 70, seats := List.replicate 20 .pending, reprint := []
    delivered := 0, diverted := 0, exceptions := 0, lost := 0 }

/-- The state with job 24 open over its plan and class (seat pocket 14). -/
def withJob (s : State) : State :=
  { s with
    jobs := [job24]
    tables := { s.tables with
      plans := s.tables.plans.set 5 (Entry.fresh coverPlan)
      classes := s.tables.classes.set 11 (Entry.fresh { ClassBody.default with seatCount := 20, pocketBase := 14 }) } }

/-- A sheet of seat `seat` of job 24. -/
def sheet (tag seat part index : Nat) : Desc :=
  { tag := tag, job := 24, seat := seat, part := part, index := index, last := false, grade := 0, size := 1, note := none }

def queued (d : Desc) : QueueEntry := { desc := d, standing := .waiting, checked := true, faulty := none }

/-- A set of job 24 at its second part with one cover sheet and one page in the tray. -/
def set24 (seat : Nat) : SetRec :=
  { job := 24, seat := seat, plan := 5, cls := 11, priority := 1, replyTag := 70, assembly := .assembling, part := 2
    parts := [{ taken := 1, lastIndex := 1 }, { taken := 1, lastIndex := 1 }, { taken := 0, lastIndex := 0 }]
    segment := 1, traySheets := 2, trayHeight := 29, totalSheets := 2, flags := SetFlags.clear, note := none
    origin := .linkB, exceptionMark := false }

def compiling (s : State) : State := { s with tray := { phase := .compiling, held := some (set24 5), close := none } }

/-- A path entry of a good tray sheet led at tick 0. -/
def inPath (st : PathState) (d : Option Desc) : PathEntry :=
  { desc := d, faulty := none, link := .a, purpose := if d.isSome then .tray else .stray, lead := 0, compare := 10625
    trail := none, length := none, measured := none, conflict := false, state := st, deadline := none, overdue := false }

def withPath (es : List PathEntry) (s : State) : State := { s with path := { s.path with entries := es } }

/-- The outstanding grant of a TRAY sheet, the head of link A. -/
def granted (st : GrantStage) (s : State) : State :=
  { s with
    grant := some { link := .a, tag := 60, purpose := .tray, stage := st }
    feeds := s.feeds.set .a { s.feeds.a with
      entries := [{ queued (sheet 60 5 2 2) with standing := .granted .tray }, queued (sheet 61 5 2 3)] } }

/-- The segment of the worked example of 07: 11 sheets, 129 tu, one staple. -/
def segment24 : Segment :=
  { job := 24, seat := 6, plan := 5, cls := 11, replyTag := 70, segment := 1, final := true, sheets := 11, totalSheets := 11
    height := 129, staples := 1, route := .normal, flags := SetFlags.clear, jamMark := false, note := none }

/-- The tray ejects a final segment of 11 sheets into a receiving tower. -/
def ejecting (s : State) : State :=
  { s with
    tray := { phase := .ejecting
              held := some { set24 6 with assembly := .closePending, traySheets := 11, totalSheets := 11, trayHeight := 123 }
              close := some { kind := .final, asked := 1, fired := 1, jamMark := false, unstapled := false,
                              route := some .normal } }
    tower := { s.tower with phase := .receiving }
    timers := { s.timers with eject := some 30000 } }

/-- The elevator carries that segment to the destination. -/
def carrying (o : ChainOption) (s : State) : State :=
  { s with tower := { phase := .carrying, carried := some segment24, charge := some 138, chain := [o], target := some o } }

def withPocket (p : Nat) (k : Pocket) (s : State) : State := { s with pockets := s.pockets.set p k }

/-- A session of seat 12 at pocket 14. -/
def session24 (ph : SessionPhase) (taken : Bool) (t : Option (SessionTimer × Nat)) : Session :=
  { phase := ph, job := 24, seat := 12, grade := 0, expected := 2, replyTag := 70, target := 14, place := .seat
    towerTaken := taken, inserted := 0, timer := t }

def withSession (z : Session) (s : State) : State :=
  { s with session := some z, tower := { s.tower with phase := if z.towerTaken then .held else .idle } }

/-- Link A inside a frame with `taken` after its START. -/
def inFrame (taken : List Nat) (s : State) : State :=
  changePort s .a (fun k => { k with rx := .receiving false (data taken) })

/-! ## The operands a command may not carry -/

theorem test_drawerOpen_refused : (Instr.drawerOpen 40).wellFormed = false := by decide
theorem test_drawerClose_refused : (Instr.drawerClose 40 true).wellFormed = false := by decide
theorem test_floorEmpty_refused : (Instr.floorEmpty 40).wellFormed = false := by decide
theorem test_arrivalDeadline_refused : (Instr.arrivalDeadline 4).wellFormed = false := by decide
theorem test_pocket39_taken : (Instr.drawerOpen 39).wellFormed = true ∧ (Instr.arrivalDeadline 3).wellFormed = true := by
  decide

/-- 07, R118, R120: a drawer closed over sheets in a pocket that was FULL. -/
theorem test_drawerClose_full :
    let s := withPocket 14 { Pocket.fresh with state := .withdrawn, remembered := some .full, fill := 2870 } State.reset
    notices (after (.drawerClose 14 false) s) = [.pocketFull 14 2870 3000 none, .pocketReturned 14 .full 2870] := by decide

/-! ## Figures of the manual -/

/-- 05, the table of compare distances: 400, 300, 800 and 200 mm/s. -/
theorem test_compare_distances :
    [400, 300, 800, 200].map compareTicks = [10625, 14167, 5313, 21250] := by decide

/-- 05, R82: W at 400 mm/s for the tray, 405 mm, and the purge bin, 225 mm. -/
theorem test_arrival_windows :
    arrivalTicks (arrivalDistance .toTray) 400 = 12657 ∧ arrivalTicks (arrivalDistance .toPurge) 400 = 7032 := by decide

/-- 05, the worked examples of lengths: 5250 and 5420 ticks at 400 mm/s, and the halves case at 200 mm/s. -/
theorem test_lengths :
    [5250, 5420].map (measure 400) = [210, 217] ∧ [7375, 7175, 7174].map (measure 200) = [148, 144, 143] ∧
      [217, 210].map (judgeLength 210) = [.longSheet, .good] ∧
      [148, 144, 143].map (judgeLength 148) = [.good, .good, .shortSheet] := by decide

/-- 07, R106: the charge of a segment of 129 tu. -/
theorem test_charge : chargeOf 129 = 138 := by decide

/-! ## One step each -/

/-- 10, R148: CLOSE-JOB of job 12 to unit 3 has check 0x13. -/
theorem test_characterReceived_closeJob :
    let s := { State.reset with straps := { State.reset.straps with address := 3 } }
    (([0xF5, 0xF1, 0x03, 0x03, 0x01, 0x0C, 0x13, 0xF2] : List Chr).foldl (fun s c => after (.characterReceived .a c) s) s
      ).links.a.fifo = [frame 3 [12]] := by decide

/-- 10, R149: a START inside a frame is a framing error. -/
theorem test_characterReceived_start :
    let k := (after (.characterReceived .a 0xF1) (inFrame [0, 3] State.reset)).links.a
    k.rx = .hunt ∧ k.framingErrors = 1 := by decide

/-- 10, R149: a wrong check. -/
theorem test_frameReceived_check :
    let k := (after (.frameReceived .a) (inFrame [0, 3, 1, 12, 17] State.reset)).links.a
    k.rx = .idle ∧ k.fifo = [] ∧ k.checkErrors = 1 := by decide

/-- 10, R152: a kind above ASK. -/
theorem test_unknownKind :
    answers (after (.unknownKind .a) (asked 0x40 [1] State.reset)) = [.refused .unknownKind] := by decide

/-- 02, R26: a first sheet of no job is captured as UNKNOWN-JOB. -/
theorem test_announce_unknownJob :
    ((after (.announce .a) (asked 1 [9, 24, 5, 2, 1, 0, 8] State.reset)).feeds.a.capture.held.map (·.2)) =
      some .unknownJob := by decide

/-- 01, R10: a job of an open number. -/
theorem test_openJob_inUse :
    answers (after (.openJob .a) (asked 2 [24, 5, 11, 1, 3, 0, 70] (withJob State.reset))) = [.refused .inUse] := by decide

/-- 01, R10, R11: a second job. -/
theorem test_openJob :
    let t := after (.openJob .a) (asked 2 [25, 5, 11, 1, 3, 1, 30, 70] (withJob State.reset))
    answers t = [.done] ∧ t.jobs.map (fun j => (j.number, j.overflowPocket, j.replyTag, j.seats.length)) =
      [(24, some 30, 70, 20), (25, some 30, 70, 20)] := by decide

/-- 01, R20: a job that holds nothing goes at once; one with an open set becomes CLOSING. -/
theorem test_closeJob :
    (after (.closeJob .a) (asked 3 [24] (withJob State.reset))).jobs = [] ∧
    (after (.closeJob .a) (asked 3 [24] (compiling (withJob running)))).jobs.map (·.phase) = [.closing] := by decide

/-- 09, R139: an out-of-range pocket base is clamped. -/
theorem test_loadClass_clamped :
    let t := after (.loadClass .a) (asked 4 [0, 23, 20, 50] State.reset)
    answers t = [.clamped] ∧ (t.tables.classes[23]?.bind (·.pending)).map (fun b => (b.seatCount, b.pocketBase)) =
      some (20, 39) := by decide

/-- 09, R138: a run of seats past 40. -/
theorem test_loadSeats_structure :
    answers (after (.loadSeats .a) (asked 4 [1, 0, 40, 2, 1, 0, 2, 1] State.reset)) = [.refused .structureError] := by
  decide

/-- 09, R138: the part's min above its max. -/
theorem test_loadPlan_structure :
    answers (after (.loadPlan .a) (asked 4 [2, 0, 1, 1, 3, 2, 0, 0, 0] State.reset)) = [.refused .structureError] := by
  decide

/-- 09, R139: a thickness below 6. -/
theorem test_loadGrade_clamped :
    let t := after (.loadGrade .a) (asked 4 [3, 7, 5] State.reset)
    answers t = [.clamped] ∧ t.tables.grades[7]?.bind (·.pending) = some 6 := by decide

/-- 09, R137: a capacity of 3000, low 7 bits first. -/
theorem test_loadPocket :
    let t := after (.loadPocket .a) (asked 4 [4, 39, 56, 23, 0] State.reset)
    answers t = [.done] ∧ t.tables.pockets[39]?.bind (·.pending) = some { capacity := 3000, enabled := false } := by
  decide

/-- 09, R139: a speed of 455 is rounded down to 450. -/
theorem test_loadTransport_grid :
    let t := after (.loadTransport .a) (asked 4 [5, 71, 3, 104, 7, 8, 1] State.reset)
    answers t = [.clamped] ∧ t.tables.transport.pending =
      some { speed := 450, feedWindow := 1000, stall := 8, noticeLink := .b } := by decide

/-- 09, R141: a COMMIT of a staged transport entry outside STANDBY. -/
theorem test_commit_notStandby :
    answers (after (.commit .a Pins.reset.pockets)
      (asked 5 [5] { running with tables := { running.tables with
        transport := { running.tables.transport with pending := some Transport.default } } })) =
      [.refused .notStandby] := by decide

/-- 09, R141, R144: a COMMIT with nothing draining applies at once. -/
theorem test_commit_applies :
    let t := after (.commit .a Pins.reset.pockets) (asked 5 [2] (after (.loadGrade .a) (asked 4 [3, 7, 14] State.reset)))
    (t.tables.grades[7]?.map (fun e => (e.active, e.pending, e.marked))) = some (14, none, false) ∧
      notices t = [.commitDone 1] := by decide

/-- 08, R126: a session for a seat of job 24, the tower taken at once. -/
theorem test_insert :
    let t := after (.insert .a) (asked 11 [24, 12, 0, 2] (withJob running))
    answers t = [.accepted] ∧ t.tower.phase = .held ∧
      t.session.map (fun z => (z.target, z.towerTaken)) = some (14, true) := by decide

/-- 12, R162: RUN from STANDBY starts the warm-up timer of 3 s. -/
theorem test_run :
    let t := after (.run .a) (asked 6 [] State.reset)
    t.run = .warming ∧ t.timers.warmup = some 30000 ∧ answers t = [.accepted] := by decide

/-- 12, R162: STANDBY with nothing in hand goes through HALTING at once. -/
theorem test_standby :
    let t := after (.standby .a) (asked 7 [] running)
    t.run = .standby ∧ answers t = [.done] ∧
      notices t = [.stateChange .running .halting, .stateChange .halting .standby] := by decide

/-- 12, R167: CLEAR with the elevator away, and with every sensor clear. -/
theorem test_clear :
    answers (after (.clear .a { Pins.reset with elevatorHome := false }) (asked 8 [] faulted)) = [.refused .badState] ∧
    (after (.clear .a Pins.reset) (asked 8 [] faulted)).run = .standby := by decide

/-- 12, R168: CLEAR loses the tray's set. -/
theorem test_clear_loses :
    (after (.clear .a Pins.reset) (asked 8 [] (compiling (withJob faulted)))).jobs.map
      (fun j => (j.lost, j.reprint, j.seats[4]?)) = [(1, [5], some .lost)] := by decide

/-- 12, R170. -/
theorem test_markRetained : (after (.markRetained .a) (asked 9 [] State.reset)).retentionValid = true := by decide

/-- 12, R170. -/
theorem test_retLow :
    (after .retLow { State.reset with retentionValid := true }).retentionValid = false := by decide

/-- 10, R151. -/
theorem test_clearCounts :
    (after (.clearCounts .a) (asked 10 [] (changePort State.reset .b (fun k => { k with dropped := 9 })))).links.b.dropped
      = 0 := by decide

/-- 11, R160: JOB of a number in no record. -/
theorem test_askJob : answers (after (.askJob .a) (asked 12 [1, 25] (withJob State.reset))) = [.refused .unknownJob] := by
  decide

/-- 11, R160, R161: parameters past the last. -/
theorem test_ask_range :
    answers (after (.askPocket .a) (asked 12 [2, 40] State.reset)) = [.refused .range] ∧
    answers (after (.askQueue .a) (asked 12 [3, 0, 12] State.reset)) = [.refused .range] ∧
    answers (after (.askCapture .a) (asked 12 [4, 2] State.reset)) = [.refused .range] ∧
    answers (after (.askEntry .a) (asked 12 [5, 2, 8] State.reset)) = [.refused .range] := by decide

/-- 11, R159: STATUS and SET are answered in every run state. -/
theorem test_ask_done :
    answers (after (.askStatus .a) (asked 12 [0] faulted)) = [.done] ∧
    answers (after (.askSet .a) (asked 12 [6] faulted)) = [.done] := by decide

/-- 11, R159, with R156's numbering from 0: a stopped stall timer, and one with 8 s left. -/
theorem test_askSet_stall : encStall none = data [1] ∧ encStall (some 80000) = data [0, 64, 62, 0] := by decide

/-- 10, R153: the lane goes before the queue. -/
theorem test_transmitComplete_lane :
    let s := changePort State.reset .a (fun k =>
      { k with sending := some (.withdraw 1), lane := some (.withdraw 2),
               queue := [.answer { kind := 3, result := .done, body := [] }] })
    (after (.transmitComplete .a) s).links.a.sending = some (.withdraw 2) := by decide

/-- 10, R154: a faulty head is granted for the purge bin, but not while a WITHDRAW waits in its link's lane; when the
transmitter starts that WITHDRAW, the GRANT is put in the lane. -/
theorem test_withdraw_holds_grant :
    let s := { changePort running .a (fun k => { k with sending := some (.withdraw 1), lane := some (.withdraw 2) }) with
      feeds := { running.feeds with a := { running.feeds.a with
        entries := [{ queued (sheet 60 5 2 2) with faulty := some .unknownJob }] } } }
    (after .binEmptied s).grant = none ∧
    (let t := after (.transmitComplete .a) s
     t.links.a.sending = some (.withdraw 2) ∧ t.links.a.lane = some (.grant 60 .purge)) := by decide

/-- 03, R42: a faulty head is granted at once though the GRANT of an ended grant still waits in its link's lane, and takes
its place. -/
theorem test_stale_grant_gives_way :
    let s := { changePort running .a (fun k => { k with sending := some (.withdraw 1), lane := some (.grant 2 .tray) }) with
      feeds := { running.feeds with a := { running.feeds.a with
        entries := [{ queued (sheet 60 5 2 2) with faulty := some .unknownJob }] } } }
    let t := after .binEmptied s
    t.grant = some { link := .a, tag := 60, purpose := .purgeFaulty, stage := .inLane } ∧
    t.links.a.lane = some (.grant 60 .purge) := by decide

/-- 05, the worked example: tag 60's lead at 63000 has its compare point at 8089. -/
theorem test_leadCapture :
    let t := after (.leadCapture .a 63000) (granted .sent (compiling (withJob running)))
    t.path.entries.map (fun e => (e.compare, e.state, e.desc.map (·.tag))) = [(8089, .preGate, some 60)] ∧
      t.grant = none := by decide

/-- 05, R50, R74: a stray makes a merge conflict with a sheet at the gate. -/
theorem test_leadCapture_conflict :
    (after (.leadCapture .b 1000) (withPath [inPath .preGate (some (sheet 60 5 2 2))] (compiling (withJob running)))
      ).path.entries.map (·.conflict) = [true, true] := by decide

/-- 05, the worked example: the trail of tag 60, 210 mm. -/
theorem test_trailCapture :
    (after (.trailCapture .a 5250) (withPath [inPath .preGate (some (sheet 60 5 2 2))] (compiling (withJob running)))
      ).path.entries.map (fun e => (e.measured, e.length)) = [(some 210, some .good)] := by decide

/-- 05, R79: no trail by the compare point. -/
theorem test_gateDecision_untrailed :
    let t := after .gateDecision (withPath [inPath .preGate (some (sheet 60 5 2 2))] (compiling (withJob running)))
    t.path.entries.map (fun e => (e.state, e.deadline)) = [(.toPurge, some 17657)] ∧ t.path.gate = .purgeSide := by decide

/-- 05, R87. -/
theorem test_arrivalDeadline :
    let s := withPath [{ inPath .toTray (some (sheet 60 5 2 2)) with deadline := some 20746 }] (compiling (withJob running))
    ((after (.arrivalDeadline 0) s).fault.first.map (fun f => (f.cause, f.sensor, f.tag))) =
      some (.pathJam, some .st, some 60) := by decide

/-- 05, R83, R92: a page of grade 0 in the tray. -/
theorem test_stLeadEdge :
    let s := withPath [inPath .toTray (some (sheet 60 5 2 2))] (compiling (withJob running))
    ((after .stLeadEdge s).tray.held.map (fun r => (r.traySheets, r.trayHeight))) = some (3, 39) := by decide

/-- 05, R84, R88. -/
theorem test_spLeadEdge :
    (after .spLeadEdge (withPath [inPath .toPurge none] running)).path.purgeCount = 1 := by decide

/-- 05, R72. -/
theorem test_stSpTrailEdge : (after (.stSpTrailEdge .sp) running).path = running.path := by decide

/-- 05, R89. -/
theorem test_binEmptied :
    let t := after .binEmptied { State.reset with path := { State.reset.path with purgeCount := 251 } }
    t.path.purgeCount = 0 ∧ notices t = [.purgeEmptied] := by decide

/-- 03, R49. -/
theorem test_feedWindowExpiry :
    let s := granted .sent (compiling (withJob running))
    let t := after .feedWindowExpiry { s with timers := { s.timers with feedWindow := some 0 } }
    t.feeds.a.entries.map (·.desc.tag) = [61] ∧ t.tray.held.map (·.flags.incomplete) = some true := by decide

/-- The grant of the last sheet of a CLOSE-PENDING set, a late sheet of the same seat standing behind it. -/
def lastGrant : State :=
  let s := granted .sent (withJob running)
  { s with
    tray := { phase := .compiling, held := some { set24 5 with assembly := .closePending, part := 3 }, close := none }
    feeds := s.feeds.set .a { s.feeds.a with
      entries := [{ queued (sheet 60 5 2 2) with standing := .granted .tray },
        { queued (sheet 61 5 2 3) with standing := .queued, checked := false }] }
    timers := { s.timers with feedWindow := some 0 } }

/-- 02, R27: the set is handed to the tray before the late sheet is checked, so it does not fail ORDER. -/
theorem test_feedWindowExpiry_hands_over :
    let t := after .feedWindowExpiry lastGrant
    t.tray.close.map (·.kind) = some .final ∧ t.feeds.a.entries.map (·.faulty) = [none] ∧ t.feeds.a.capture.count = 0 := by
  decide

/-- 03, R53: the second part ends without its lost sheets. -/
theorem test_stallTimerExpiry :
    let s := compiling (withJob running)
    ((after .stallTimerExpiry { s with timers := { s.timers with stall := some 0 } }).tray.held.map (·.part)) =
      some 3 := by decide

/-- 04, R62. -/
theorem test_shelfUp :
    let s := { compiling (withJob State.reset) with shelf := { motion := .lifting, stack := [] } }
    let t := after .shelfUp s
    t.shelf.stack.map (·.seat) = [5] ∧ t.tray.phase = .empty := by decide

/-- 04, R63. -/
theorem test_shelfDown :
    let s := { withJob State.reset with
      tray := { phase := .unparking, held := none, close := none }, shelf := { motion := .lowering, stack := [set24 5] } }
    let t := after .shelfDown s
    t.shelf.stack = [] ∧ t.tray.held.map (·.origin) = some .shelf := by decide

/-- 04, R62, R63; 06, R104; 07, R114; 12, R163. -/
theorem test_timer_faults :
    let s := { running with timers := { Timers.stopped with
      motion := some 0, eject := some 0, delivery := some 0, warmup := some 0 } }
    [Instr.motionTimerExpiry, .ejectTimerExpiry, .deliveryTimerExpiry, .warmupTimerExpiry].map
      (fun c => (after c s).fault.first.map (·.cause)) =
      [some .shelfJam, some .towerJam, some .towerJam, some .warmup] := by decide

/-- 06, R99, R101: a completed fire. -/
theorem test_staplerCompletion :
    let s := { State.reset with stapler := { phase := .firing, requestWaiting := false, owner := none, cartridge := 500 } }
    let t := after .staplerCompletion s
    t.stapler.phase = .recovering ∧ t.stapler.cartridge = 499 ∧ t.timers.recovery = some 3000 := by decide

/-- 06, R100. -/
theorem test_completionTimerExpiry :
    let s := { State.reset with
      stapler := { phase := .firing, requestWaiting := false,
                   owner := some { job := 24, seat := 5, segment := 1, lost := true }, cartridge := 500 }
      timers := { Timers.stopped with completion := some 0 } }
    let t := after .completionTimerExpiry s
    t.stapler.phase = .jammed ∧ notices t = [.staplerJam 5 1] := by decide

/-- 06, R99: the waiting request is fired at the end of the window. -/
theorem test_recoveryWindowEnd :
    let s := { State.reset with
      stapler := { phase := .recovering, requestWaiting := true, owner := none, cartridge := 499 }
      timers := { Timers.stopped with recovery := some 0 } }
    let t := after .recoveryWindowEnd s
    t.stapler.phase = .firing ∧ t.timers.completion = some 4000 := by decide

/-- 06, R100, R101. -/
theorem test_stapler_tended :
    let s := { State.reset with stapler := { phase := .jammed, requestWaiting := false, owner := none, cartridge := 0 } }
    (after .staplerHome s).stapler.phase = .ready ∧ (after .cartridgeInserted s).stapler.cartridge = 5000 := by decide

/-- 07, the worked example of an overflow: pocket 14 at 2870 of 3000 cannot take 138 tu. -/
theorem test_setReceived :
    let t := after .setReceived (ejecting (withPocket 14 { Pocket.fresh with fill := 2870 } (withJob running)))
    t.tower.charge = some 138 ∧ t.tower.target = some { dest := .pocket 30, place := .overflow } ∧
      (pocketOf t 14).state = .full := by decide

/-- 07, R115, R116. -/
theorem test_depositComplete :
    let t := after .depositComplete (carrying { dest := .pocket 30, place := .overflow } (withJob running))
    ((pocketOf t 30).fill, (pocketOf t 30).setCount, (pocketOf t 30).side) = (138, 1, .left) ∧
      t.jobs.map (fun j => (j.diverted, j.seats[5]?)) = [(1, some .diverted)] := by decide

/-- 07, R119, R120: a drawer opened, and closed over an empty and over another floor. -/
theorem test_drawer :
    let s := withPocket 14 { Pocket.fresh with state := .full, fill := 2870, setCount := 21 } State.reset
    let t := after (.drawerOpen 14) s
    (pocketOf t 14).remembered = some .full ∧
    (pocketOf (after (.drawerClose 14 true) t) 14) = Pocket.fresh ∧
    ((pocketOf (after (.drawerClose 14 false) t) 14).state, (pocketOf (after (.drawerClose 14 false) t) 14).fill) =
      (.full, 2870) := by decide

/-- 07, R121. -/
theorem test_floorEmpty :
    (pocketOf (after (.floorEmpty 39) (withPocket 39 { Pocket.fresh with state := .unverified } State.reset)) 39).state =
      .available := by decide

/-- 07, R111. -/
theorem test_stackerEmptied :
    (after .stackerEmptied { State.reset with stacker := { fill := 30000, side := .left } }).stacker =
      { fill := 0, side := .right } := by decide

/-- 08, R129. -/
theorem test_insertPosition :
    let t := after .insertPosition (withSession (session24 .waiting true (some (.positioning, 60000))) (withJob State.reset))
    t.session.map (·.timer) = some (some (.firstSheet, 600000)) ∧
      notices t = [.insertReady 12 14 .seat 0 2] := by decide

/-- 08, R129. -/
theorem test_positioningTimerExpiry :
    ((after .positioningTimerExpiry
      (withSession (session24 .waiting true (some (.positioning, 0))) (withJob running))).fault.first.map (·.cause)) =
      some .towerJam := by decide

/-- 08, R131: the worked example's second sheet brings the pocket from 278 to 288 tu and ends the session. -/
theorem test_siEvent :
    let z := { session24 .active true (some (.betweenSheets, 200000)) with inserted := 1 }
    let t := after .siEvent (withPocket 14 { Pocket.fresh with fill := 278 } (withSession z (withJob State.reset)))
    (pocketOf t 14).fill = 288 ∧ t.session = none ∧ t.jobs.map (fun j => j.seats[11]?) = [some .late] := by decide

/-- 08, R132. -/
theorem test_session_ends :
    let s (t : SessionTimer) := withSession (session24 .active true (some (t, 0))) (withJob State.reset)
    notices (after .insDone (s .firstSheet)) = [.insertDone 12 14 .seat 2 0 .insDone 0] ∧
    notices (after .firstSheetTimerExpiry (s .firstSheet)) = [.insertDone 12 14 .seat 2 0 .noFirstSheet 0] ∧
    notices (after .betweenSheetsTimerExpiry (s .betweenSheets)) = [.insertDone 12 14 .seat 2 0 .sheetGap 0] := by decide

/-- 08, R133. -/
theorem test_homeEvent :
    (after .homeEvent { State.reset with tower := { State.reset.tower with phase := .held } }).tower.phase = .idle := by
  decide

/-- 12, R163. -/
theorem test_atSpeed :
    (after .atSpeed { State.reset with run := .warming }).run = .running := by decide

/-- 12, R169, R123: a drawer out over an empty floor, and one in over another. -/
theorem test_powerOn :
    let pins := { Pins.reset with
      pockets := { drawersIn := BitVec.allOnes 40 ^^^ 1#40, floorsEmpty := BitVec.allOnes 40 ^^^ 2#40 } }
    let t := after (.powerOn pins) (withJob running)
    t.jobs = [] ∧ ((pocketOf t 0).state, (pocketOf t 0).remembered, (pocketOf t 1).state) =
      (.withdrawn, some .available, .unverified) := by decide

/-- 12, R169: a tray that reads occupied at a reset. -/
theorem test_resetLine_occupied :
    let t := after (.resetLine { Pins.reset with trayOccupied := true }) (withJob running)
    t.run = .faulted ∧ t.fault.first.map (·.cause) = some .trayOccupied ∧ t.jobs.length = 1 := by decide

/-- The queue is first in, first out (notes/assumptions/2.md). -/
theorem test_step_front :
    (match step { State.reset with pending := [.retLow, .binEmptied] } with
      | .next t => t.pending
      | .fault _ => []
      | .refused _ => []) = [.binEmptied] := by decide

/-- 11, R161, and 10, R148: twelve noted FAULTY descriptors are twelve in the count, and seven of 15 characters in the answer. -/
theorem test_askQueue_cut :
    let e : QueueEntry := { queued { sheet 60 5 2 2 with note := some 3 } with faulty := some .range }
    let s : State := { running with feeds := { running.feeds with a := { running.feeds.a with entries := List.replicate 12 e } } }
    (queueBody s .a 0).take 2 = data [12, 7] ∧ (queueBody s .a 0).length = 2 + 7 * 15 ∧
      (queueBody s .a 6).take 2 = data [12, 6] := by decide

/-! ## States that meet the statements' hypotheses -/

theorem witness_StepTakesTheFrontCommand :
    ({ State.reset with pending := [.retLow, .binEmptied] } : State).pending = .retLow :: [.binEmptied] := rfl

theorem witness_IdleStepLetsOneTickPass :
    (State.reset.pending = [] ∧ due State.reset = []) ∧ (compiling (withJob running)).pending = [] ∧
      due (compiling (withJob running)) = [] := by decide

theorem witness_CommandsCompleteOrStop :
    (Instr.drawerOpen 39).wellFormed = true ∧ (Instr.setReceived).wellFormed = true ∧ 40 ≤ 40 := by decide

theorem witness_SettlingKeepsItsFrame : State.reset.still ∧ faulted.still := ⟨⟨rfl, rfl⟩, ⟨rfl, rfl⟩⟩

/-- The needed sheet at the head, another seat's sheet there, and no head; a CLOSE-PENDING set; a READY tray under an IDLE
tower; and a part whose halting is done. -/
theorem witness_SettlingKeepsItsFrame_steps :
    let on (es : List QueueEntry) : State := { compiling (withJob running) with
      feeds := { running.feeds with a := { running.feeds.a with entries := es } } }
    let s := on [queued (sheet 60 6 2 1)]
    let ready : State := { running with tray := { phase := .ready, held := some (set24 5), close := none } }
    let halted : State := { State.reset with run := .halting }
    (s.tray.phase = .compiling ∧ s.tray.held = some (set24 5) ∧ s.tray.close = none ∧
      (set24 5).assembly = .assembling ∧ active s = true ∧ active State.reset = false) ∧
    (planOf s 5).parts[(set24 5).part - 1]? = some { source := .a, minCount := 1, maxCount := 20 } ∧
    (planOf s 5).parts.length = 3 ∧ headOf s .a = some (queued (sheet 60 6 2 1)) ∧
    (queued (sheet 60 6 2 1)).standing ≠ .granted .tray ∧ headClass s .a = some .orphan ∧
    headClass (on [queued (sheet 60 5 2 2)]) .a = some .partOfOpen ∧ headOf (on []) .a = none ∧
    State.reset.tray.held = none ∧ ({ set24 5 with assembly := .closePending } : SetRec).assembly = .closePending ∧
    s.grant = none ∧ s.path.entries = [] ∧ (ready.tray.phase = .ready ∧ ready.tower.phase = .idle ∧ active ready = true) ∧
    (halted.run = .halting ∧ halted.tray.phase = .empty ∧ halted.path.entries = [] ∧ halted.tower.phase = .idle ∧
      halted.grant = none) := by decide

/-- A working part with a command waiting: one job, an assembling set, a grant, a sheet at the gate. -/
def working : State :=
  { granted .sent (compiling (withJob running)) with
    pending := [.retLow]
    path := { running.path with entries := [inPath .toTray (some (sheet 59 5 2 1))] } }

theorem working_steps : ∃ t, step working = .next t := ⟨_, rfl⟩

theorem witness_EveryStepKeepsTheBounds : working.Bounded ∧ ∃ t, step working = .next t := by
  refine ⟨?_, working_steps⟩
  constructor
  case links => intro l; cases l <;> constructor <;> decide
  case feeds => intro l; cases l <;> constructor <;> decide
  case jobRecords =>
    refine ⟨by decide, fun j hj => ?_⟩
    obtain rfl : j = job24 := List.mem_singleton.mp hj
    constructor <;> decide
  all_goals decide

theorem witness_EveryStepKeepsTheCapacityLaw : working.CapacityLaw ∧ ∃ t, step working = .next t := by
  refine ⟨?_, working_steps⟩
  constructor
  case carried => intro _ _ h; cases h
  all_goals decide

theorem witness_EveryStepKeepsTheGrantSingle : working.GrantCoherent ∧ ∃ t, step working = .next t := by
  refine ⟨?_, working_steps⟩
  constructor
  · intro h; cases h
  · intro g h
    cases h
    exact ⟨⟨_, _, rfl, rfl, rfl, by decide⟩, by decide⟩

theorem witness_EveryStepKeepsTheFaultCoherent :
    ({ faulted with pending := [.retLow] } : State).FaultCoherent ∧
      ∃ t, step { faulted with pending := [.retLow] } = .next t := by
  refine ⟨?_, _, rfl⟩
  constructor <;> decide

/-! Links. -/

theorem witness_ReceiverOutsideAFrame :
    linkPresent { State.reset with straps := { State.reset.straps with linkBPresent := false } } .b = false ∧
    linkPresent State.reset .b = true ∧ (State.reset.links.get .b).rx = .hunt ∧
    ((changePort State.reset .b (fun k => { k with rx := .idle })).links.get .b).rx = .idle ∧
    ((changePort State.reset .b (fun k => { k with rx := .skipping })).links.get .b).rx = .skipping := by decide

/-- Every position inside a frame: the address, the kind, the length, the payload and its end. -/
theorem witness_ReceiverInsideAFrame (taken : List Nat) :
    linkPresent (inFrame taken State.reset) .a = true ∧
      ((inFrame taken State.reset).links.get .a).rx = .receiving false (data taken) := ⟨rfl, rfl⟩

/-- The positions and characters where its clauses meet. -/
theorem witness_ReceiverInsideAFrame_bounds :
    (data []).length = 0 ∧ (data [0]).length = 1 ∧ (data [0, 4]).length = 2 ∧ 3 ≤ (data [0, 4, 0]).length ∧
      (data [0, 4, 0]).length < 4 + field (data [0, 4, 0]) 2 ∧
      ¬ (data [0, 4, 0, 4]).length < 4 + field (data [0, 4, 0, 4]) 2 ∧
      (data [0, 4, 1, 9]).length ≠ 4 + field (data [0, 4, 1, 9]) 2 ∧
      (0x7F : Chr).toNat < 128 ∧ 128 ≤ (0x80 : Chr).toNat := by decide

theorem witness_CompletedFrameIsOffered :
    let s := inFrame [0, 3, 1, 12, 16] State.reset
    linkPresent s .a = true ∧ (data [12]).length = (1 : Data).toNat ∧
      (s.links.get .a).rx = .receiving false (0 :: 3 :: 1 :: (data [12] ++ [16])) := by decide

theorem witness_SentFrameLayout : (Outbound.withdraw 60).payload.length ≤ 120 := by decide

theorem witness_QueueingAFrame :
    linkPresent State.reset .a = true ∧ (State.reset.links.get .a).sending = none ∧
      (State.reset.links.get .a).lane = none ∧ (State.reset.links.get .a).queue = [] ∧
      ((changePort State.reset .a (fun k => { k with sending := some (.withdraw 1) })).links.get .a).sending.isSome
        = true := by decide

theorem witness_QueueingAFrame_links :
    ({ frame 3 [12] with broadcast := true } : Frame).broadcast = true ∧ (frame 3 [12]).broadcast = false ∧
      findJob (withJob running) 24 = some job24 ∧ findJob running 24 = none := by decide

theorem witness_FinishedFrameStartsTheNext :
    let s (lane : Option Outbound) (q : List Outbound) := changePort State.reset .a (fun k =>
      { k with sending := some (.withdraw 1), lane := lane, queue := q })
    linkPresent (s none []) .a = true ∧ ((s (some (.withdraw 2)) []).links.get .a).sending = some (.withdraw 1) ∧
    ((s (some (.withdraw 2)) []).links.get .a).lane = some (.withdraw 2) ∧
    (∀ tag, ((s (some (.grant 2 .tray)) []).links.get .a).lane ≠ some (.withdraw tag)) ∧
    (∀ tag, ((s none []).links.get .a).lane ≠ some (.withdraw tag)) ∧
    ((s none [.withdraw 3]).links.get .a).queue = .withdraw 3 :: [] ∧
    ((s none []).links.get .a).sending = some (.withdraw 1) ∧
    ((s none []).links.get .a).lane = none ∧ ((s none []).links.get .a).queue = [] := by
  refine ⟨by decide, by decide, by decide, fun _ h => ?_, fun _ h => ?_, by decide, by decide, by decide, by decide⟩ <;>
    cases h

/-- A frame of kind 0, of kind 13, and each request of a wrong length. -/
theorem witness_FramesTheHandlerRefuses :
    oldestFrame (asked 13 [] State.reset) .a = some (frame 13 []) ∧ 12 < (frame 13 []).kind ∧
    oldestFrame (asked 0 [] State.reset) .a = some (frame 0 []) ∧
    lengthOk (frame 1 [1, 2]) = false ∧ lengthOk (frame 2 []) = false ∧ lengthOk (frame 3 []) = false ∧
    (∀ code ∈ [0, 1, 2, 3, 4, 5], lengthOk (frame 4 [code, 1, 1, 1, 1, 1, 1, 1]) = false) ∧
    lengthOk (frame 4 []) = false ∧ lengthOk (frame 5 []) = false ∧
    (∀ kind ∈ [6, 7, 8, 9, 10], lengthOk (frame kind [1]) = false) ∧ lengthOk (frame 11 [1]) = false ∧
    lengthOk (frame 12 []) = false ∧
    (∀ subject ∈ [0, 1, 2, 3, 4, 5, 6], lengthOk (frame 12 [subject, 0, 1, 1, 1]) = false) := by decide

/-- A request in link A's FIFO, of every kind a statement names. -/
theorem asked_requests (kind : Nat) (p : List Nat) (s : State) (h : lengthOk (frame kind p) = true) :
    (asked kind p s).requests .a (frame kind p) kind := ⟨rfl, rfl, h⟩

/-- The lengths that fit, at the bounds of the counts they depend on. -/
theorem witness_FramesTheHandlerRefuses_lengths :
    lengthOk (frame 1 [0, 0, 0, 0, 0, 1, 0]) = true ∧ lengthOk (frame 1 [0, 0, 0, 0, 0, 2, 0, 0]) = true ∧
    lengthOk (frame 2 [0, 0, 0, 0, 0, 2, 0]) = false ∧ lengthOk (frame 4 [1, 0, 1, 0]) = true ∧
    lengthOk (frame 4 [2, 0, 0, 0, 0, 0]) = true ∧ lengthOk (frame 4 [6]) = true ∧ lengthOk (frame 12 [5, 5]) = true ∧
    lengthOk (frame 12 [5]) = false ∧ lengthOk (frame 12 [7]) = true ∧ lengthOk (frame 6 []) = true := by decide

theorem witness_ClearCountsZeroesAllCounts : (asked 0x0A [] State.reset).requests .a (frame 0x0A []) 0x0A :=
  asked_requests _ _ _ (by decide)

/-! Requests. -/

/-- An empty queue whose new head passes, and one whose new head fails. -/
theorem witness_AnnouncedSheetsQueueUp :
    (asked 1 [60, 24, 5, 2, 2, 0, 8] (compiling (withJob running))).requests .a (frame 1 [60, 24, 5, 2, 2, 0, 8]) 1 ∧
    checkHead (compiling (withJob running)) .a (announcedDesc (data [60, 24, 5, 2, 2, 0, 8])) = none ∧
    (asked 1 [9, 64, 5, 2, 1, 0, 8] State.reset).requests .a (frame 1 [9, 64, 5, 2, 1, 0, 8]) 1 ∧
    ¬ (announcedDesc (data [9, 64, 5, 2, 1, 0, 8])).job ≤ 63 :=
  ⟨asked_requests _ _ _ (by decide), by decide, asked_requests _ _ _ (by decide), by decide⟩

/-- A queue of 12, of 11 and of none. -/
theorem witness_AnnouncedSheetsQueueUp_queues :
    let on (n : Nat) : State := { asked 1 [60, 24, 5, 2, 2, 0, 8] State.reset with
      feeds := { State.reset.feeds with a := { State.reset.feeds.a with entries := List.replicate n (queued (sheet 61 5 2 1)) } } }
    (∀ n, (on n).requests .a (frame 1 [60, 24, 5, 2, 2, 0, 8]) 1) ∧ 12 ≤ ((on 12).descs .a).length ∧
    (1 ≤ ((on 11).descs .a).length ∧ ((on 11).descs .a).length < 12) ∧ (on 0).descs .a = [] :=
  ⟨fun _ => asked_requests _ _ _ (by decide), by decide, by decide, rfl⟩

/-- Each check at the head (R30), the last at the index it fails on and the one it passes. -/
theorem witness_AnnouncedSheetsQueueUp_checks :
    let s := compiling (withJob running)
    findJob s 25 = none ∧ findJob s 24 = some job24 ∧ job24.seats.length < 21 ∧ (classOf s 11).seatCount < 21 ∧
    20 ≤ (classOf s 11).seatCount ∧ (planOf s 5).parts[3]? = none ∧
    (planOf s 5).parts[1]? = some { source := .a, minCount := 1, maxCount := 20 } ∧ Link.a ≠ .b ∧
    (s.tray.held = some (set24 5) ∧ s.tray.close = none ∧ (set24 5).seat = 5 ∧ (set24 5).part = 2 ∧
      ((set24 5).parts[1]?).map (·.lastIndex) = some 1) := by decide

/-- A FAULTY descriptor that becomes the head, one checked before, and two that are checked now. -/
theorem witness_AnnouncedSheetsQueueUp_heads :
    let on (e : QueueEntry) : State := { compiling (withJob running) with
      feeds := { running.feeds with a := { running.feeds.a with entries := [e] } } }
    let fresh (d : Desc) : QueueEntry := { desc := d, standing := .queued, checked := false, faulty := none }
    ((on (queued (sheet 60 5 2 2))).feeds.get .a).entries = queued (sheet 60 5 2 2) :: [] ∧
    (running.feeds.get .a).entries = [] ∧ (queued (sheet 60 5 2 2)).checked = true ∧
    ({ fresh (sheet 60 5 2 2) with faulty := some .range } : QueueEntry).faulty = some .range ∧
    (fresh (sheet 60 5 2 2)).faulty = none ∧ (fresh (sheet 60 5 2 2)).checked = false ∧
    checkHead (on (fresh (sheet 60 5 2 2))) .a (sheet 60 5 2 2) = none ∧
    checkHead (on (fresh (sheet 60 5 2 1))) .a (sheet 60 5 2 1) = some .order := by decide

theorem witness_OpenJobIsJudgedInOrder :
    (asked 2 [25, 5, 11, 1, 3, 0, 70] (withJob State.reset)).requests .a (frame 2 [25, 5, 11, 1, 3, 0, 70]) 2 ∧
    (asked 2 [25, 5, 11, 1, 3, 1, 30, 70] State.reset).requests .a (frame 2 [25, 5, 11, 1, 3, 1, 30, 70]) 2 :=
  ⟨asked_requests _ _ _ (by decide), asked_requests _ _ _ (by decide)⟩

theorem witness_CloseJobRemovesOrWaits :
    (∀ n, (asked 3 [n] State.reset).requests .a (frame 3 [n]) 3) ∧ field (data [0]) 0 = 0 ∧ 63 < field (data [64]) 0 ∧
    findJob (withJob State.reset) 63 = none ∧ findJob (withJob State.reset) 24 = some job24 ∧
    holdsClose (withJob State.reset) 24 = false ∧ holdsClose (compiling (withJob State.reset)) 24 = true ∧
    ((findJob { withJob State.reset with jobs := [{ job24 with phase := .closing }] } 24).map (·.phase)) = some .closing :=
  ⟨fun _ => asked_requests _ _ _ rfl, by decide, by decide, by decide, by decide, by decide, by decide, by decide⟩

/-- A CLOSING job that goes alone, beside an OPEN one and a CLOSING one that holds its close; and none that goes. -/
theorem witness_CloseJobRemovesOrWaits_removal :
    let s : State := { compiling (withJob State.reset) with
      jobs := [{ job24 with phase := .closing }, { job24 with number := 1 }, { job24 with number := 63, phase := .closing }] }
    (s.jobs.map (·.number)).Nodup ∧ (∀ j ∈ s.jobs, 1 ≤ j.number ∧ j.number ≤ 63) ∧
    { job24 with number := 63, phase := .closing } ∈ s.jobs ∧ holdsClose s 63 = false ∧ holdsClose s 24 = true ∧
    (∀ j ∈ (withJob State.reset).jobs, j.phase ≠ .closing) := by decide

theorem witness_ClassLoadsWriteThePendingPart :
    (asked 4 [0, 23, 40, 39] State.reset).requests .a (frame 4 [0, 23, 40, 39]) 4 ∧
    State.reset.tables.classes[23]? = some (Entry.fresh ClassBody.default) ∧
    (asked 4 [1, 0, 39, 2, 5, 0, 39, 1] State.reset).requests .a (frame 4 [1, 0, 39, 2, 5, 0, 39, 1]) 4 ∧
    (∀ k, k < 2 → field (data [1, 0, 39, 2, 5, 0, 39, 1]) (5 + 2 * k) ≤ 1) ∧ ClassBody.default.seats.length = 40 ∧
    (asked 4 [1, 0, 40, 2, 5, 0, 39, 1] State.reset).requests .a (frame 4 [1, 0, 40, 2, 5, 0, 39, 1]) 4 ∧
    (asked 4 [1, 0, 1, 1, 5, 2] State.reset).requests .a (frame 4 [1, 0, 1, 1, 5, 2]) 4 ∧
    1 < field (data [1, 0, 1, 1, 5, 2]) (5 + 2 * 0) :=
  ⟨asked_requests _ _ _ (by decide), by decide, asked_requests _ _ _ (by decide), by decide, by decide,
    asked_requests _ _ _ (by decide), asked_requests _ _ _ (by decide), by decide⟩

theorem witness_PlanLoadsWriteThePendingPart :
    (asked 4 [2, 15, 1, 1, 2, 2, 2, 1, 1] State.reset).requests .a (frame 4 [2, 15, 1, 1, 2, 2, 2, 1, 1]) 4 ∧
    State.reset.tables.plans[15]? = some (Entry.fresh PlanBody.default) ∧
    (let at' (k : Nat) := field (data [2, 15, 1, 1, 2, 2, 2, 1, 1]) k
     at' 2 ≤ 6 ∧ at' 3 ≤ 1 ∧ min 99 (at' 4) ≤ min 99 (max 1 (at' 5)) ∧ at' 6 ≤ 2 ∧ at' 7 ≤ 1 ∧ at' 8 ≤ 1) ∧
    (asked 4 [2, 15, 1, 1, 3, 2, 2, 1, 1] State.reset).requests .a (frame 4 [2, 15, 1, 1, 3, 2, 2, 1, 1]) 4 ∧
    (asked 4 [2, 15, 0, 3, 0, 0] State.reset).requests .a (frame 4 [2, 15, 0, 3, 0, 0]) 4 :=
  ⟨asked_requests _ _ _ (by decide), by decide, by decide, asked_requests _ _ _ (by decide),
    asked_requests _ _ _ (by decide)⟩

theorem witness_GradePocketAndTransportLoads :
    (asked 4 [3, 7, 31] State.reset).requests .a (frame 4 [3, 7, 31]) 4 ∧
    State.reset.tables.grades[7]? = some (Entry.fresh 10) ∧
    (asked 4 [4, 39, 112, 46, 1] State.reset).requests .a (frame 4 [4, 39, 112, 46, 1]) 4 ∧
    State.reset.tables.pockets[39]? = some (Entry.fresh { capacity := 3000, enabled := true }) ∧
    (asked 4 [5, 72, 1, 72, 1, 30, 1] State.reset).requests .a (frame 4 [5, 72, 1, 72, 1, 30, 1]) 4 :=
  ⟨asked_requests _ _ _ (by decide), by decide, asked_requests _ _ _ (by decide), by decide,
    asked_requests _ _ _ (by decide)⟩

/-- LOADs of the first number out of range, of a code that names nothing, and of a kind code that names nothing. -/
theorem witness_refused_loads :
    (∀ p ∈ [[0, 24, 1, 1], [1, 24, 1, 1, 5, 0], [2, 16, 0, 0, 0, 0], [3, 8, 10], [4, 40, 0, 2, 1], [4, 39, 0, 2, 2],
        [5, 72, 1, 72, 1, 30, 2], [6]],
      (asked 4 p State.reset).requests .a (frame 4 p) 4) ∧
    State.reset.tables.classes[24]? = none ∧ State.reset.tables.plans[16]? = none ∧
    State.reset.tables.grades[8]? = none ∧ State.reset.tables.pockets[40]? = none :=
  ⟨fun p hp => asked_requests _ _ _ (by revert p; decide), by decide, by decide, by decide, by decide⟩

/-- Scope 6; a staged transport entry in RUNNING; and each of the ways to be accepted in a still part. -/
theorem witness_CommitMarksAndApplies :
    let staged (s : State) : State := { s with tables := { s.tables with
      transport := { s.tables.transport with pending := some Transport.default } } }
    (∀ n, (asked 5 [n] State.reset).requests .a (frame 5 [n]) 5) ∧ 5 < field (data [6]) 0 ∧
    (staged running).tables.transport.pending.isSome = true ∧ (staged running).run ≠ .standby ∧
    (staged State.reset).run = .standby ∧ (staged State.reset).still ∧ faulted.tables.transport.pending = none ∧
    faulted.still :=
  ⟨fun _ => asked_requests _ _ _ rfl, by decide, by decide, by decide, by decide, ⟨rfl, rfl⟩, by decide, ⟨rfl, rfl⟩⟩

/-- A release that applies one entry and leaves none marked, one that leaves another marked, and one that applies none; and
an accepted COMMIT in RUNNING. -/
theorem witness_CommitMarksAndApplies_release :
    let marked (refs : Nat) : Entry PlanBody :=
      { Entry.fresh coverPlan with pending := some coverPlan, marked := true, refs := refs }
    let s (es : List (Entry PlanBody)) : State := { running with tables :=
      { classes := [], plans := es, grades := [], pockets := [], transport := Entry.fresh Transport.default } }
    let goes (e : Entry PlanBody) : Bool := e.marked && e.refs == 0
    (s [marked 0]).tables.plans.countP goes = 1 ∧ (s [marked 1]).tables.plans.countP goes = 0 ∧
    (s [Entry.committed false (marked 0)]).tables.anyMarked = false ∧
    (s [Entry.committed false (marked 0), Entry.committed false (marked 1)]).tables.anyMarked = true ∧
    (asked 5 [5] running).requests .a (frame 5 [5]) 5 ∧ field (data [5]) 0 ≤ 5 ∧
    running.tables.transport.pending = none :=
  ⟨by decide, by decide, by decide, by decide, asked_requests _ _ _ (by decide), by decide, by decide⟩

theorem witness_PocketReactsToItsConfiguration :
    State.reset.pockets[39]? = some Pocket.fresh ∧
      (State.reset.tables.pockets[39]?).map (·.active) = some { capacity := 3000, enabled := true } ∧
      (withPocket 39 { Pocket.fresh with state := .disabled } State.reset).pockets[39]? =
        some { Pocket.fresh with state := .disabled } := by decide

/-- A WITHDRAWN pocket that remembers AVAILABLE, whose capacity falls to its fill and to one above it; an AVAILABLE one; and
a DISABLED one that is enabled. -/
theorem witness_PocketReactsToItsConfiguration_capacity :
    let k : Pocket := { Pocket.fresh with state := .withdrawn, remembered := some .available, fill := 3000 }
    let off : PocketConfig := { capacity := 3000, enabled := false }
    let now (s : State) := (s.tables.pockets[39]?).map (·.active)
    (withPocket 39 k State.reset).pockets[39]? = some k ∧ now (withPocket 39 k State.reset) = some { off with enabled := true } ∧
    ({ off with capacity := 6000, enabled := true } : PocketConfig).capacity ≠ 3000 ∧ 3000 ≤ k.fill ∧
    ({ k with fill := 2999 } : Pocket).fill < 3000 ∧ ({ k with remembered := some .full } : Pocket).remembered = some .full ∧
    ({ k with state := .available } : Pocket).state = .available ∧ off.enabled = false ∧
    ({ k with state := .disabled } : Pocket).state = .disabled ∧ 1 ≤ ({ off with enabled := true } : PocketConfig).capacity := by
  decide

theorem witness_InsertIsJudgedInOrder :
    (asked 11 [24, 12, 0, 2] (withJob running)).requests .a (frame 11 [24, 12, 0, 2]) 0x0B ∧
    (asked 11 [63, 40, 7, 20] faulted).requests .a (frame 11 [63, 40, 7, 20]) 0x0B :=
  ⟨asked_requests _ _ _ (by decide), asked_requests _ _ _ (by decide)⟩

/-- The seat's pocket, the exception pocket, and neither. -/
theorem witness_InsertIsJudgedInOrder_target :
    let full (p : Nat) (s : State) := withPocket p { Pocket.fresh with state := .full } s
    let takes (s : State) (p : Nat) : Prop :=
      p < towerSize s ∧ (pocketOf s p).state = .available ∧ (pocketOf s p).fill + thickness s 0 ≤ capacityOf s p
    let s := withJob running
    (classOf s 11).pocketBase + ((classOf s 11).seatEntry 12).offset = 14 ∧ takes s 14 ∧
    (¬takes (full 14 s) 14 ∧ takes (full 14 s) 3) ∧ ¬takes (full 3 (full 14 s)) 14 ∧ ¬takes (full 3 (full 14 s)) 3 ∧
    takes (withPocket 14 { Pocket.fresh with fill := 2990 } s) 14 ∧
    ¬takes (withPocket 14 { Pocket.fresh with fill := 2991 } s) 14 := by decide

theorem witness_RunStateCommands :
    (∀ s, (asked 6 [] s).requests .a (frame 6 []) 6) ∧ (∀ s, (asked 7 [] s).requests .a (frame 7 []) 7) ∧
    ({ State.reset with run := .warming, timers := { Timers.stopped with warmup := some 0 } } : State).timers.warmup
      ≠ none ∧
    (running.tray.phase = .empty ∧ running.path.entries = [] ∧ running.tower.phase = .idle ∧ running.grant = none) ∧
    (compiling running).tray.phase ≠ .empty :=
  ⟨fun _ => asked_requests _ _ _ rfl, fun _ => asked_requests _ _ _ rfl, by decide, by decide, by decide⟩

/-- CLEAR in RUNNING, with the elevator away, and with all sensors clear, the shelf empty and occupied. -/
theorem witness_ClearIsJudgedAndEmptiesThePart :
    (∀ s, (asked 8 [] s).requests .a (frame 8 []) 8) ∧ running.run ≠ .faulted ∧ faulted.run = .faulted ∧
    ({ Pins.reset with elevatorHome := false } : Pins).elevatorHome = false ∧
    (Pins.reset.saCovered = false ∧ Pins.reset.sbCovered = false ∧ Pins.reset.stCovered = false ∧
      Pins.reset.spCovered = false ∧ Pins.reset.trayOccupied = false ∧ Pins.reset.elevatorHome = true ∧
      Pins.reset.shelfOccupied = false) ∧
    ({ Pins.reset with shelfOccupied := true } : Pins).shelfOccupied = true :=
  ⟨fun _ => asked_requests _ _ _ rfl, by decide, by decide, by decide, by decide, by decide⟩

/-- An OPEN job with its first seat's set in the tray and its last seat's final segment in the elevator; and one whose
earlier segment is in the elevator and whose set is on the shelf. -/
theorem witness_ClearIsJudgedAndEmptiesThePart_losses :
    let job : Job := { job24 with lost := 65535 }
    let s : State := { faulted with
      jobs := [job]
      tray := { phase := .compiling, held := some (set24 1), close := none }
      tower := { phase := .carrying, carried := some { segment24 with seat := 20 }, charge := some 138, chain := [], target := none } }
    let split : State := { faulted with
      jobs := [job]
      shelf := { motion := .idle, stack := [set24 6] }
      tower := { phase := .carrying, carried := some { segment24 with final := false }, charge := some 138, chain := [], target := none } }
    s.run = .faulted ∧ job ∈ s.jobs ∧ job.phase = .opened ∧ (s.jobs.map (·.number)).Nodup ∧ job.lost ≤ 65535 ∧
    s.tray.held.map (fun r => (r.job, r.seat)) = some (24, 1) ∧
    s.tower.carried.map (fun g => (g.job, g.seat, g.final)) = some (24, 20, true) ∧ 20 ≤ job.seats.length ∧
    split.run = .faulted ∧ split.tower.carried.map (fun g => (g.job, g.seat, g.final)) = some (24, 6, false) ∧
    split.shelf.stack.map (fun r => (r.job, r.seat)) = [(24, 6)] := by decide

/-- The job list, the job and its first and last seat. -/
theorem witness_LostSetsAreAccounted :
    ((withJob State.reset).jobs.map (·.number)).Nodup ∧ job24 ∈ (withJob State.reset).jobs ∧ 1 ≤ 1 ∧
      20 ≤ job24.seats.length := by decide

theorem witness_RetentionFlagIsClearedAndSet :
    (asked 9 [] State.reset).requests .a (frame 9 []) 9 ∧ State.reset.retentionValid = false ∧
    (asked 0x0C [0] State.reset).requests .a (frame 0x0C [0]) 0x0C ∧ field (data [0]) 0 = 0 ∧
    Instr.atSpeed ≠ .retLow ∧ (∀ l, Instr.atSpeed ≠ .markRetained l) ∧ exec .atSpeed State.reset = .next State.reset :=
  ⟨asked_requests _ _ _ (by decide), rfl, asked_requests _ _ _ (by decide), by decide, by decide, fun l => by simp, rfl⟩

/-- Every subject, at the ends of its parameters. -/
theorem witness_AsksAreAnswered :
    (∀ p ∈ [[0], [1, 24], [1, 63], [1, 0], [1, 64], [2, 39], [2, 40], [3, 1, 11], [3, 2, 0], [3, 0, 12], [4, 1], [4, 2],
        [5, 0, 23, 1], [5, 1, 15], [5, 1, 16], [5, 5], [6]],
      (asked 0x0C p (withJob State.reset)).requests .a (frame 0x0C p) 0x0C) ∧
    findJob (withJob State.reset) 24 = some job24 ∧ findJob (withJob State.reset) 63 = none ∧
    (entryBody State.reset 1 15 0).isSome = true ∧ entryBody State.reset 1 16 0 = none ∧
    Link.code .a = 0 ∧ Link.code .b = 1 :=
  ⟨fun p hp => asked_requests _ _ _ (by revert p; decide), by decide, by decide, by decide, by decide, rfl, rfl⟩

/-! The sheet path. -/

theorem witness_UntakenEdgesChangeNothing :
    active State.reset = false ∧
    linkPresent { running with straps := { running.straps with linkBPresent := false } } .b = false ∧
    State.reset.run = .standby ∧ faulted.run = .faulted := by decide

/-- With three sheets in the path: all decided, and a stray among them still before the gate. -/
theorem witness_GrantedSheetEntersThePath :
    let s := withPath (List.replicate 3 (inPath .toTray none)) (granted .sent (compiling (withJob running)))
    let met := withPath (inPath .preGate none :: List.replicate 2 (inPath .toTray none))
      (granted .sent (compiling (withJob running)))
    active s = true ∧ linkPresent s .a = true ∧ s.path.entries.length < 4 ∧
    s.path.entries.any (fun x => x.state == .preGate) = false ∧
    (met.path.entries.length < 4 ∧ met.path.entries.any (fun x => x.state == .preGate) = true ∧ met.grant = s.grant ∧
      met.feeds = s.feeds) ∧ s.grant.map (·.link) = some .a ∧
    (s.feeds.get .a).entries = { queued (sheet 60 5 2 2) with standing := .granted .tray } :: [queued (sheet 61 5 2 3)] ∧
    1 ≤ s.tables.transport.active.speed := by decide

/-- With 3 entries, on a link without the grant, and with 4. -/
theorem witness_UngrantedSheetsAtTheEntry :
    active running = true ∧ linkPresent running .b = true ∧ (granted .sent running).grant.map (·.link) = some .a ∧
    (withPath (List.replicate 3 (inPath .preGate none)) running).path.entries.length < 4 ∧
    4 ≤ (withPath (List.replicate 4 (inPath .preGate none)) running).path.entries.length := by decide

/-- A new stray that meets a stray, and one that meets a sheet with a descriptor behind a stray. -/
theorem witness_UngrantedSheetsAtTheEntry_conflict :
    let s := withPath [inPath .preGate none, inPath .preGate (some (sheet 60 5 2 2))] running
    (inPath .preGate none).state = .preGate ∧
    (∃ x ∈ (withPath [inPath .preGate none] running).path.entries, x.state = .preGate) ∧
    (∀ x ∈ [inPath .preGate none, inPath .preGate none], x.desc = none) ∧
    (s.path.entries ++ [inPath .preGate none]).filter (fun x => x.state == .preGate) =
      [inPath .preGate none] ++ inPath .preGate (some (sheet 60 5 2 2)) :: [inPath .preGate none] ∧
    (inPath .preGate (some (sheet 60 5 2 2))).desc = some (sheet 60 5 2 2) := by decide

/-- A trail edge of a link whose one entry has its trail already. -/
theorem witness_TrailCaptureMeasuresTheSheet_noEntry :
    let s := withPath [{ inPath .preGate none with trail := some 5250 }] running
    active s = true ∧ linkPresent s .a = true ∧ ∀ x ∈ s.path.entries, x.link ≠ .a ∨ x.trail ≠ none := by decide

/-- An entry at the gate with a descriptor, one without, and one already decided, behind another's entry. -/
theorem witness_TrailCaptureMeasuresTheSheet :
    let before : List PathEntry := [{ inPath .toTray none with trail := some 1 }]
    let s (e : PathEntry) := withPath (before ++ e :: []) running
    active running = true ∧ linkPresent running .a = true ∧ (∀ x ∈ before, x.link ≠ .a ∨ x.trail ≠ none) ∧
    (s (inPath .preGate (some (sheet 60 5 2 2)))).path.entries =
      before ++ inPath .preGate (some (sheet 60 5 2 2)) :: [] ∧
    (inPath .preGate (some (sheet 60 5 2 2))).trail = none ∧ (inPath .preGate none).desc = none ∧
    (inPath .toTray none).state ≠ .preGate := by decide

/-- A sheet for the tray, a stray for the purge bin, and TRAY sheets for it with a conflict and for their length. -/
theorem witness_GateDecisionSteersTheSheet :
    let good := { inPath .preGate (some (sheet 60 5 2 2)) with trail := some 5250, length := some .good }
    let s (e : PathEntry) := withPath ([inPath .toTray none] ++ e :: []) running
    active running = true ∧ (s good).path.entries = [inPath .toTray none] ++ good :: [] ∧
    (∀ x ∈ [inPath .toTray none], x.state ≠ .preGate) ∧ good.state = .preGate ∧
    (good.desc ≠ none ∧ good.faulty = none ∧ good.purpose = .tray ∧ good.conflict = false ∧ good.trail ≠ none ∧
      good.length = some .good) ∧ (inPath .preGate none).desc = none ∧
    ({ good with conflict := true } : PathEntry).conflict = true ∧
    ((inPath .preGate (some (sheet 60 5 2 2))).purpose = .tray ∧ (inPath .preGate (some (sheet 60 5 2 2))).trail = none ∧
      (inPath .preGate (some (sheet 60 5 2 2))).conflict = false) ∧
    1 ≤ running.tables.transport.active.speed := by decide

theorem witness_PathFaults :
    let e := { inPath .toTray (some (sheet 60 5 2 2)) with deadline := some 20746 }
    active running = true ∧ (withPath [e] running).path.entries[0]? = some e ∧ e.overdue = false ∧ e.state ≠ .preGate ∧
    ({ State.reset with run := .warming } : State).run = .warming ∧
    (∀ x ∈ (withPath [inPath .toPurge none] running).path.entries, x.state ≠ .toTray) ∧
    (∀ x ∈ (withPath [inPath .toTray none] running).path.entries, x.state ≠ .toPurge) := by decide

theorem witness_SheetsArrive :
    let e := inPath .toTray (some (sheet 60 5 2 2))
    let s := withPath ([inPath .toPurge none] ++ e :: []) (compiling (withJob running))
    active s = true ∧ s.path.entries = [inPath .toPurge none] ++ e :: [] ∧ e.state = .toTray ∧
    (∀ x ∈ [inPath .toPurge none], x.state ≠ .toTray) ∧ s.tray.phase ≠ .empty ∧ s.tray.held = some (set24 5) ∧
    e.desc = some (sheet 60 5 2 2) ∧ (inPath .toPurge none).state = .toPurge := by decide

/-- The sheet a split waited for; the sheet that fills the purge bin, and an orphan. -/
theorem witness_SheetsArrive_ends :
    let e := inPath .toTray (some (sheet 60 5 2 2))
    let s : State := { withPath [e] (withJob running) with
      tray := { phase := .stapling, held := some (set24 5)
                close := some { kind := .split, asked := 0, fired := 0, jamMark := false, unstapled := false, route := none } } }
    (active s = true ∧ s.path.entries = [] ++ e :: [] ∧ s.tray.phase = .stapling ∧
      s.tray.close.map (·.kind) = some .split) ∧
    ({ running.path with purgeCount := 249 } : Path).purgeCount = 249 ∧
    ({ inPath .toPurge (some (sheet 60 5 2 2)) with purpose := .purgeOrphan } : PathEntry).purpose = .purgeOrphan ∧
    (sheet 60 5 2 2).seat ∉ job24.reprint ∧ (inPath .toPurge none).desc = none := by decide

theorem witness_EmptiedBinAndStacker : State.reset.still := ⟨rfl, rfl⟩

/-! Faults. -/

theorem witness_RaisedFaultFreezesThePart :
    faulted.run = .faulted ∧ (granted .sent running).run ≠ .faulted ∧
    ({ running with tower := { running.tower with phase := .held } } : State).tower.phase = .held ∧
    running.session = none ∧ running.tower.phase ≠ .held ∧ (granted .sent running).grant.map (·.link) = some .a ∧
    ((granted .sent running).feeds.get .a).entries.length = 2 ∧ running.grant = none := by decide

/-- A GRANT in the lane, one sent, a busy transmitter and an idle one; a PURGE grant; and a session. -/
theorem witness_RaisedFaultFreezesThePart_grants :
    (granted .inLane running).grant.map (·.stage) = some .inLane ∧
    (granted .sent running).grant.map (fun g => (g.stage, g.purpose)) = some (.sent, .tray) ∧
    (running.links.get .a).sending.isSome = false ∧ linkPresent running .a = true ∧
    ((changePort running .a (fun k => { k with sending := some (.withdraw 1) })).links.get .a).sending.isSome = true ∧
    ({ link := .a, tag := 60, purpose := .purgeOrphan, stage := .sent } : Grant).purpose ≠ .tray ∧
    (withSession (session24 .waiting false none) running).session = some (session24 .waiting false none) ∧
    (withSession (session24 .waiting false none) running).tower.phase ≠ .held := by decide

theorem witness_TimerExpiriesRaiseFaults :
    let s : State := { running with timers := { Timers.stopped with
      motion := some 0, eject := some 0, delivery := some 0, warmup := some 0 } }
    s.run ≠ .faulted ∧ s.timers.motion ≠ none ∧ s.timers.eject ≠ none ∧ s.timers.delivery ≠ none ∧
    s.timers.warmup ≠ none ∧
    (withSession (session24 .waiting true (some (.positioning, 0))) running).session =
      some (session24 .waiting true (some (.positioning, 0))) := by decide

/-! Sequencer and shelf. -/

theorem witness_MissedFeedEndsTheGrant :
    let s := granted .sent (compiling (withJob running))
    ({ s with timers := { s.timers with feedWindow := some 0 } } : State).timers.feedWindow = some 0 ∧
    s.grant = some { link := .a, tag := 60, purpose := .tray, stage := .sent } ∧
    ({ link := .a, tag := 60, purpose := .purgeFaulty, stage := .sent } : Grant).purpose ≠ .tray ∧
    findJob s 24 = some job24 ∧
    (s.feeds.get .a).entries = { queued (sheet 60 5 2 2) with standing := .granted .tray } :: [queued (sheet 61 5 2 3)] ∧
    s.tray.held = some (set24 5) ∧ (set24 5).assembly ≠ .closePending := by decide

/-- The missed sheet of a CLOSE-PENDING set with nothing in the path. -/
theorem witness_MissedFeedEndsTheGrant_handedOver :
    lastGrant.timers.feedWindow = some 0 ∧
    lastGrant.grant = some { link := .a, tag := 60, purpose := .tray, stage := .sent } ∧
    lastGrant.tray.phase = .compiling ∧
    lastGrant.tray.held = some { set24 5 with assembly := .closePending, part := 3 } ∧ lastGrant.tray.close = none ∧
    active lastGrant = true ∧ lastGrant.path.entries = [] := by decide

/-- A part that is not the last, and the last one. -/
theorem witness_StallExpiryEndsThePart :
    let s := compiling (withJob running)
    ({ s with timers := { s.timers with stall := some 0 } } : State).timers.stall = some 0 ∧
    s.tray.held = some (set24 5) ∧ s.tray.phase = .compiling ∧ s.tray.close = none ∧
    (set24 5).assembly = .assembling ∧ active s = true ∧
    (set24 5).part < (planOf s (set24 5).plan).parts.length ∧
    (planOf s (set24 5).plan).parts.length ≤ ({ set24 5 with part := 3 } : SetRec).part := by decide

theorem witness_ShelfMovesTheSet :
    let up : State := { compiling State.reset with shelf := { motion := .lifting, stack := [] } }
    let down : State := { State.reset with
      tray := { phase := .unparking, held := none, close := none }, shelf := { motion := .lowering, stack := [set24 5] } }
    (up.shelf.motion = .lifting ∧ up.tray.held = some (set24 5)) ∧
    (down.shelf.motion = .lowering ∧ down.shelf.stack = set24 5 :: []) ∧
    State.reset.shelf.motion ≠ .lifting ∧ State.reset.shelf.motion ≠ .lowering := by decide

/-- An assembling set at a sheet boundary that the opening sheet of a job of priority 2 outranks, and the same set with a
PURGE grant outstanding, with a tray height above 600, and with a sheet for the tray in the path. -/
theorem witness_ShelfMovesTheSet_preemption :
    let urgent : Job := { job24 with number := 25, priority := 2 }
    let s : State := { compiling (withJob running) with
      jobs := [job24, urgent]
      feeds := { running.feeds with b := { running.feeds.b with entries := [queued { sheet 70 1 1 1 with job := 25 }] } } }
    s.tray.phase = .compiling ∧ s.tray.held = some (set24 5) ∧ s.tray.close = none ∧ (set24 5).assembly = .assembling ∧
    active s = true ∧ s.grant = none ∧ s.path.entries = [] ∧ (planOf s (set24 5).plan).parkPermitted = true ∧
    s.shelf.stack.length < 2 ∧ (set24 5).trayHeight ≤ 600 ∧ openingPriority s .b = some 2 ∧ (set24 5).priority < 2 ∧
    ({ s with grant := some { link := .a, tag := 1, purpose := .purgeFaulty, stage := .sent } } : State).grant ≠ none ∧
    ¬ ({ set24 5 with trayHeight := 601 } : SetRec).trayHeight ≤ 600 ∧
    (inPath .toTray (some (sheet 60 5 2 2))).purpose = .tray ∧ State.reset.tray.phase ≠ .compiling := by decide

theorem witness_StartSelectionTakesTheHighest :
    best (candidates { withJob running with shelf := { motion := .idle, stack := [set24 5] } }) = some (1, .shelfTop) := by
  decide

/-- Each class of a head (R34). -/
theorem witness_StartSelectionTakesTheHighest_classes :
    let s := compiling (withJob running)
    let draining : State := { s with tables := { s.tables with
      plans := s.tables.plans.set 5 { Entry.fresh coverPlan with pending := some coverPlan, marked := true, refs := 1 } } }
    let parked : State := { withJob running with shelf := { motion := .idle, stack := [set24 5] } }
    findJob s 25 = none ∧ findJob s 24 = some job24 ∧
    classify s .a (sheet 60 21 2 1) = .noLongerValid ∧ classify s .a (sheet 60 5 2 2) = .partOfOpen ∧
    classify parked .a (sheet 60 5 2 2) = .parkedOwned ∧ classify s .b (sheet 60 6 1 1) = .setOpening ∧
    classify draining .b (sheet 60 6 1 1) = .heldForCommit ∧ classify s .a (sheet 60 6 2 1) = .orphan := by decide

/-- A needed sheet that is granted, one that splits the segment of 99 sheets, and one behind a WITHDRAW. -/
theorem witness_StartSelectionTakesTheHighest_needed :
    let s : State := { compiling (withJob running) with
      feeds := { running.feeds with a := { running.feeds.a with entries := [queued (sheet 60 5 2 2)] } } }
    active s = true ∧ s.grant = none ∧ s.path.entries = [] ∧ s.path.purgeCount < 250 ∧ s.tray.phase = .compiling ∧
    s.tray.held = some (set24 5) ∧ s.tray.close = none ∧ (set24 5).assembly = .assembling ∧ 1 ≤ (set24 5).part ∧
    (planOf s (set24 5).plan).parts[(set24 5).part - 1]? = some { source := .a, minCount := 1, maxCount := 20 } ∧
    (s.feeds.get .a).entries = queued (sheet 60 5 2 2) :: [] ∧ headClass s .a = some .partOfOpen ∧
    ¬ 99 < (set24 5).traySheets + 0 + 1 ∧ ¬ 1200 < (set24 5).trayHeight + 0 + thickness s 0 ∧
    99 < ({ set24 5 with traySheets := 99 } : SetRec).traySheets + 0 + 1 ∧ (s.links.get .a).lane = none ∧
    ((changePort s .a (fun k => { k with lane := some (.withdraw 1) })).links.get .a).lane = some (.withdraw 1) ∧
    ((changePort s .a (fun k => { k with lane := some (.grant 2 .tray) })).links.get .a).lane ≠ some (.withdraw 2) := by
  decide

/-- No needed sheet: FAULTY heads on both links, on link B alone, a shelf top, an opening head, and no candidate. -/
theorem witness_StartSelectionTakesTheHighest_others :
    let faulty : QueueEntry := { queued (sheet 60 5 2 2) with faulty := some .unknownJob }
    let on (a b : List QueueEntry) : State := { withJob running with
      feeds := { a := { running.feeds.a with entries := a }, b := { running.feeds.b with entries := b } } }
    assemblingSet (on [] []) = none ∧ purgesServed (on [] []) = true ∧
    purgePurpose (on [faulty] [faulty]) .a = some .purgeFaulty ∧
    (purgePurpose (on [] [faulty]) .a = none ∧ purgePurpose (on [] [faulty]) .b = some .purgeFaulty) ∧
    candidates (on [] []) = [] ∧
    best (candidates { on [] [] with shelf := { motion := .idle, stack := [set24 5] } }) = some (1, .shelfTop) ∧
    best (candidates (on [] [queued (sheet 60 6 1 1)])) = some (1, .head .b) ∧
    purgePurpose (on [] [queued (sheet 60 6 1 1)]) .b = none ∧
    (on [] []).tray.phase = .empty ∧ (compiling running).tray.phase ≠ .empty := by decide

/-- A candidate of each kind; a grant under a busy transmitter and under an idle one; and a sheet that ends its part by
its flag, by the part's max, and not at all. -/
theorem witness_StartSelectionTakesTheHighest_grants :
    let s : State := { withJob running with
      shelf := { motion := .idle, stack := [set24 5] }
      feeds := { running.feeds with b := { running.feeds.b with entries := [queued (sheet 70 6 1 1)] } } }
    let busy := changePort s .b (fun k => { k with sending := some (.withdraw 1) })
    let w := compiling (withJob running)
    (s.shelf.stack.head?.map (·.priority) = some 1 ∧ headOf s .b = some (queued (sheet 70 6 1 1)) ∧
      headClass s .b = some .setOpening ∧ findJob s 24 = some job24 ∧ job24.priority = 1) ∧
    ((s.feeds.get .b).entries = queued (sheet 70 6 1 1) :: [] ∧ (s.links.get .b).sending = none ∧
      linkPresent s .b = true ∧ (busy.links.get .b).sending ≠ none) ∧
    (w.tray.held = some (set24 5) ∧ w.tray.close = none ∧ (sheet 60 5 2 2).last = false ∧
      ({ sheet 60 5 2 2 with last := true } : Desc).last = true) ∧
    (planOf w 5).parts[1]? = some { source := .a, minCount := 1, maxCount := 20 } ∧
    ((set24 5).partCount 2).taken < 20 ∧ 1 ≤ ((set24 5).partCount 1).taken := by decide

/-- No head, a head that is granted, and one of another class (R45). -/
theorem witness_StartSelectionTakesTheHighest_unpurged :
    let s : State := { compiling (withJob running) with
      feeds := { running.feeds with a := { running.feeds.a with entries := [queued (sheet 60 5 2 2)] } } }
    headOf s .b = none ∧ headOf s .a = some (queued (sheet 60 5 2 2)) ∧ headClass s .a = some .partOfOpen ∧
    ({ queued (sheet 60 5 2 2) with standing := .granted .tray } : QueueEntry).standing ≠ .waiting := by decide

/-- HALTING with an open set, and without one (R56). -/
theorem witness_StartSelectionTakesTheHighest_halting :
    let s : State := { compiling (withJob running) with run := .halting }
    active s = true ∧ s.tray.held = some (set24 5) ∧ s.tray.close = none ∧ ({ s with tray := Tray.empty } : State).tray.held = none := by
  decide

/-- An orphan that is deferred, and one that is not (R45). -/
theorem witness_StartSelectionTakesTheHighest_orphans :
    let on (a b : List QueueEntry) : State := { withJob running with
      feeds := { a := { running.feeds.a with entries := a }, b := { running.feeds.b with entries := b } } }
    let s := on [queued (sheet 60 6 2 1)] [queued (sheet 70 6 1 1)]
    headClass s .a = some .orphan ∧ headClass s .b = some .setOpening ∧ headOf s .b = some (queued (sheet 70 6 1 1)) ∧
    headClass (on [queued (sheet 60 6 2 1)] []) .a = some .orphan ∧
    headClass (on [queued (sheet 60 21 2 1)] []) .a = some .noLongerValid := by decide

theorem witness_StartedSetIsNew : 1 ≤ (sheet 60 5 1 1).part ∧
    (sheet 60 5 3 1).part ≤ (planOf (withJob State.reset) job24.plan).parts.length := by decide

/-! Stapler. -/

theorem witness_FiresCompleteOrJam :
    let owner : FireOwner := { job := 24, seat := 5, segment := 1, lost := true }
    let s : State := { State.reset with
      stapler := { phase := .firing, requestWaiting := false, owner := some owner, cartridge := 500 }
      timers := { Timers.stopped with completion := some 0 } }
    s.stapler.phase = .firing ∧ s.timers.completion = some 0 ∧ s.stapler.owner = some owner ∧ owner.lost = true ∧
    State.reset.stapler.phase ≠ .firing := by decide

/-- A fire that is reported: the first of two, and the last; and one whose jam is reported. -/
theorem witness_FiresCompleteOrJam_reports :
    let owner : FireOwner := { job := 24, seat := 5, segment := 1, lost := false }
    let s : State := { compiling (withJob running) with
      stapler := { phase := .firing, requestWaiting := false, owner := some owner, cartridge := 2 }
      timers := { Timers.stopped with completion := some 0 }
      tray := { phase := .stapling, held := some (set24 5)
                close := some { kind := .final, asked := 2, fired := 0, jamMark := false, unstapled := false, route := none } } }
    s.stapler.phase = .firing ∧ s.stapler.owner = some owner ∧ owner.lost = false ∧ s.run ≠ .faulted ∧
    s.tray.phase = .stapling ∧ s.tray.held = some (set24 5) ∧ (s.tray.close.map (fun c => (c.fired, c.asked))) = some (0, 2) ∧
    0 + 1 < 2 ∧ 2 ≤ 1 + 1 ∧ s.timers.completion = some 0 := by decide

/-- A close with a READY, a RECOVERING and a JAMMED stapler, at the greatest height that is stapled and above it; with and
without a sheet on its way; empty, with and without its earlier segment in the elevator; and nothing asked. -/
theorem witness_FiresCompleteOrJam_close :
    let s : State := { withJob running with
      stapler := { State.reset.stapler with cartridge := 1 }
      tray := { phase := .stapling, held := some { set24 5 with trayHeight := 520 }
                close := some { kind := .final, asked := 0, fired := 0, jamMark := false, unstapled := false, route := none } } }
    s.tray.held = some { set24 5 with trayHeight := 520 } ∧ s.tray.close.isSome = true ∧
    (planOf s (set24 5).plan).stapleMode = .corner ∧ PlanBody.default.stapleMode = .none ∧ s.stapler.phase = .ready ∧
    1 ≤ s.stapler.cartridge ∧ ¬ ({ set24 5 with trayHeight := 521 } : SetRec).trayHeight ≤ 520 ∧
    ({ s.stapler with phase := .recovering } : Stapler).phase = .recovering ∧ active s = true ∧ s.tower.phase = .idle ∧
    (inPath .toTray (some (sheet 60 5 2 2))).purpose = .tray ∧ 1 ≤ (set24 5).traySheets ∧
    ({ segment24 with seat := 5, final := false } : Segment).final = false ∧
    ((s.jobs.map (·.number)).Nodup ∧ job24 ∈ s.jobs ∧ job24.number = (set24 5).job ∧ 1 ≤ (set24 5).seat ∧
      (set24 5).seat ≤ job24.seats.length) := by decide

theorem witness_StaplerRecoversAndRefills :
    ({ State.reset with timers := { Timers.stopped with recovery := some 0 } } : State).timers.recovery = some 0 ∧
    ({ State.reset with stapler := { State.reset.stapler with phase := .jammed } } : State).stapler.phase = .jammed ∧
    State.reset.stapler.phase ≠ .jammed := by decide

/-! Tower, pockets and insert session. -/

/-- The example's chain: the seat pocket cannot take 138 tu, the overflow pocket can. -/
theorem witness_AdmissionTakesTheFirstEligibleOption :
    let s := withPocket 14 { Pocket.fresh with fill := 2870 } (withJob running)
    ¬ (pocketOf s 14).fill + 138 ≤ capacityOf s 14 ∧
    (30 < towerSize s ∧ (pocketOf s 30).state = .available ∧ (pocketOf s 30).fill + 138 ≤ capacityOf s 30) ∧
    s.pockets[14]? = some { Pocket.fresh with fill := 2870 } := by decide

/-- A pocket passed over on its capacity alone, as the first option. -/
theorem witness_AdmissionTakesTheFirstEligibleOption_passed :
    let s := withPocket 14 { Pocket.fresh with fill := 2870 } (withJob running)
    let o : ChainOption := { dest := .pocket 14, place := .seat }
    [o, { dest := .stacker, place := .stacker }] = [] ++ o :: [{ dest := .stacker, place := .stacker }] ∧
    (14 < towerSize s ∧ (pocketOf s 14).state = .available ∧ capacityOf s 14 < 2870 + 138) := by decide

/-- A carried segment that is aimed, a BLOCKED tower, and a target in its chain. -/
theorem witness_AdmissionTakesTheFirstEligibleOption_aim :
    let o : ChainOption := { dest := .pocket 14, place := .seat }
    let s := carrying o (withJob running)
    let full : State := { s with stacker := { fill := 30000, side := .left } }
    let last : ChainOption := { dest := .stacker, place := .stacker }
    s.tower.carried = some segment24 ∧ s.tower.charge = some 138 ∧ (judgeOptions s segment24 138 [o]).2 = some o ∧
    (judgeOptions full segment24 138 [last]).2 = none ∧ s.tower.phase ≠ .blocked ∧
    ({ s.tower with phase := .blocked } : Tower).phase = .blocked ∧ active s = true ∧ active State.reset = false ∧
    s.tower.target = some o ∧ s.tower.chain = [] ++ o :: [] ∧ s.tower.phase = .carrying := by decide

/-- (A split's receipt has the same hypotheses, with close kind SPLIT.) -/
theorem witness_ReceivedSegmentIsCarried :
    let s := ejecting (withJob running)
    active s = true ∧ s.tower.phase = .receiving ∧ s.tray.phase = .ejecting ∧ s.tray.held.isSome = true ∧
    s.tray.close.isSome = true ∧
    chainOf s segment24 = { dest := .pocket 14, place := .seat } :: [{ dest := .pocket 30, place := .overflow },
      { dest := .stacker, place := .stacker }] ∧
    14 < towerSize s ∧ (pocketOf s 14).state = .available ∧ (pocketOf s 14).fill + 138 ≤ capacityOf s 14 := by decide

/-- A segment with two staples on each route, over a job whose overflow pocket is another, is the first already, or is
absent, and with no job. -/
theorem witness_ReceivedSegmentIsCarried_chain :
    let s := ejecting (withJob running)
    (s.tray.held.map (fun r => (r.job, r.cls, r.seat, r.trayHeight)) = some (24, 11, 6, 123)) ∧
    (s.tray.close.map (fun c => (c.kind, c.fired, c.route)) = some (.final, 1, some .normal)) ∧
    (classOf s 11).pocketBase + ((classOf s 11).seatEntry 6).offset = 14 ∧ findJob s 24 = some job24 ∧
    job24.overflowPocket = some 30 ∧ ({ job24 with overflowPocket := some 14 } : Job).overflowPocket = some 14 ∧
    ({ job24 with overflowPocket := none } : Job).overflowPocket = none ∧ findJob (ejecting running) 24 = none := by decide

theorem witness_DepositFillsTheTarget :
    let s (d : Dest) := carrying { dest := d, place := .seat } (withJob running)
    active (s (.pocket 39)) = true ∧ (s (.pocket 39)).tower.phase = .carrying ∧
    (s (.pocket 39)).tower.carried = some segment24 ∧ (s (.pocket 39)).tower.charge = some 138 ∧
    (s (.pocket 39)).tower.target = some { dest := .pocket 39, place := .seat } ∧
    (s (.pocket 39)).pockets[39]? = some Pocket.fresh ∧
    (s .stacker).tower.target = some { dest := .stacker, place := .seat } := by decide

/-- A final segment, and an earlier one that an empty final segment in the tray waits for. -/
theorem witness_DepositFillsTheTarget_final :
    let r := { set24 6 with traySheets := 0, segment := 2 }
    let s : State := { carrying { dest := .stacker, place := .stacker } (withJob running) with
      tray := { phase := .stapling, held := some r
                close := some { kind := .final, asked := 0, fired := 0, jamMark := false, unstapled := false, route := none } } }
    segment24.final = true ∧ ({ segment24 with final := false } : Segment).final = false ∧
    (s.tray.phase = .stapling ∧ s.tray.held = some r ∧ s.tray.close.map (·.kind) = some .final ∧ r.traySheets = 0 ∧
      r.job = segment24.job ∧ r.seat = segment24.seat) ∧ running.tray.phase ≠ .stapling := by decide

theorem witness_DepositIsAccounted :
    ((withJob State.reset).jobs.map (·.number)).Nodup ∧ job24 ∈ (withJob State.reset).jobs ∧
    segment24.job = job24.number ∧ 1 ≤ segment24.seat ∧ segment24.seat ≤ job24.seats.length := by decide

theorem witness_DrawerOpenWithdraws :
    let small : State := { State.reset with straps := { State.reset.straps with tower40 := false } }
    State.reset.pockets.length = 40 ∧ State.reset.pockets[39]? = some Pocket.fresh ∧ 39 < towerSize State.reset ∧
    Pocket.fresh.state = .available ∧ State.reset.still ∧ small.pockets[24]? = some Pocket.fresh ∧ towerSize small ≤ 24 :=
  ⟨by decide, by decide, by decide, by decide, ⟨rfl, rfl⟩, by decide, by decide⟩

/-- A carry to the pocket with an eligible option after it, and with none. -/
theorem witness_DrawerOpenWithdraws_retarget :
    let o : ChainOption := { dest := .pocket 14, place := .seat }
    let last : ChainOption := { dest := .stacker, place := .stacker }
    let s (fill : Nat) : State := { withJob running with
      stacker := { fill := fill, side := .left }
      tower := { phase := .carrying, carried := some segment24, charge := some 138, chain := [o, last], target := some o } }
    (s 0).tower.chain = [] ++ o :: [last] ∧ o ∉ ([] : List ChainOption) ∧ (s 0).tower.phase = .carrying ∧
    (s 0).tower.carried = some segment24 ∧ (s 0).tower.charge = some 138 ∧ (s 0).tower.target = some o ∧
    active (s 0) = true ∧ (s 0).session = none ∧ 14 < towerSize (s 0) ∧ (s 0).pockets[14]? = some Pocket.fresh ∧
    [last] = [] ++ last :: [] ∧ (s 29862).stacker.fill + 138 ≤ 30000 ∧ ¬ (s 29863).stacker.fill + 138 ≤ 30000 := by decide

/-- A drawer of the session's fixed target, under a BLOCKED tower and under another. -/
theorem witness_DrawerOpenWithdraws_session :
    let s := withSession (session24 .active true none) running
    (s.session = some (session24 .active true none) ∧ (session24 .active true none).towerTaken = true ∧
      (session24 .active true none).target = 14) ∧ (session24 .waiting false none).towerTaken = false ∧
    ({ s.tower with phase := .blocked } : Tower).phase = .blocked ∧ s.tower.phase ≠ .blocked := by decide

theorem witness_DrawerCloseAndFloorEmpty :
    let s (st : PocketState) := withPocket 39 { Pocket.fresh with state := st, remembered := some .full } State.reset
    (∀ st, (s st).pockets.length = 40 ∧
      (s st).pockets[39]? = some { Pocket.fresh with state := st, remembered := some .full } ∧ 39 < towerSize (s st) ∧
      (s st).still) ∧
    towerSize { State.reset with straps := { State.reset.straps with tower40 := false } } ≤ 24 :=
  ⟨fun _ => ⟨rfl, rfl, Nat.lt_succ_self 39, ⟨rfl, rfl⟩⟩, by decide⟩

theorem witness_SessionTakesAndFreesTheTower :
    let waiting := withSession (session24 .waiting false none) (withJob running)
    let full := withPocket 14 { Pocket.fresh with state := .full } (withPocket 3 { Pocket.fresh with state := .full } waiting)
    (waiting.session = some (session24 .waiting false none) ∧ findJob waiting 24 = some job24 ∧
      waiting.tower.phase = .idle ∧ insertTarget waiting job24 12 0 = some (14, .seat)) ∧
    (full.tower.phase = .idle ∧ insertTarget full job24 12 0 = none) ∧
    (withSession (session24 .waiting true none) running).session = some (session24 .waiting true none) ∧
    (withSession (session24 .active true none) running).session.map (·.phase) = some .active ∧
    ({ State.reset with tower := { State.reset.tower with phase := .held } } : State).tower.phase = .held := by decide

/-- A sheet that is not the expected last one, and the last one. -/
theorem witness_InsertedSheetIsCounted :
    let s := withSession (session24 .active true none) (withJob running)
    s.session = some (session24 .active true none) ∧ s.pockets[14]? = some Pocket.fresh ∧
    (session24 .active true none).inserted + 1 ≠ (session24 .active true none).expected ∧
    ({ session24 .active true none with inserted := 1 } : Session).inserted + 1 = 2 ∧ State.reset.session = none := by
  decide

theorem witness_SessionsEnd :
    let s (t : SessionTimer) := withSession (session24 .active true (some (t, 0))) (withJob State.reset)
    (s .firstSheet).session = some (session24 .active true (some (.firstSheet, 0))) ∧
    (s .betweenSheets).session = some (session24 .active true (some (.betweenSheets, 0))) ∧
    (s .firstSheet).tower.phase = .held ∧ active (s .firstSheet) = false := by decide

/-- INSDONE in a WAITING session and in none; and a session whose other timer runs. -/
theorem witness_SessionsEnd_ignored :
    (withSession (session24 .waiting true (some (.positioning, 9))) running).session.map (·.phase) = some .waiting ∧
    running.session = none ∧ (session24 .waiting true (some (.positioning, 9))).timer.map (·.1) ≠ some .firstSheet := by decide

theorem witness_EndedSessionIsAccounted :
    ((withJob State.reset).jobs.map (·.number)).Nodup ∧ job24 ∈ (withJob State.reset).jobs ∧ 1 ≤ 12 ∧
    20 ≤ job24.seats.length ∧ 1 ≤ 1 := by decide

/-! Power. -/

theorem witness_PowerOnWithoutRetention :
    running.retentionValid = false ∧ Pins.reset.trayOccupied = false ∧ Pins.reset.shelfOccupied = false ∧
    ({ Pins.reset with trayOccupied := true, shelfOccupied := true } : Pins).shelfOccupied = true := by decide

/-- A power-on in the middle of a set, with the flag set. -/
theorem witness_KeptStarts :
    working.Bounded ∧ ({ working with retentionValid := true } : State).retentionValid = true ∧
    Pins.reset.trayOccupied = false ∧ Pins.reset.shelfOccupied = false ∧
    ({ Pins.reset with shelfOccupied := true } : Pins).shelfOccupied = true :=
  ⟨witness_EveryStepKeepsTheBounds.1, rfl, rfl, rfl, rfl⟩

/-- OPEN jobs alone and no marked entry. -/
theorem witness_KeptStarts_quiet :
    (∀ j ∈ working.jobs, j.phase = .opened) ∧ working.tables.anyMarked = false := by decide

end Sys2Proof.Tests
end

section
/-!
PROOFS. Set assembly: what decides the parts of `settle`, each said once: the open set, its assembling phase, the
tray-bound sheets and the judgement of the head.
-/
namespace Sys2Proof.Machine.SetAssembly

variable {s t : State}

/-! ## The run state -/

theorem active_congr (h : t.run = s.run) : active t = active s := by simp [active, h]

theorem run_ne_faulted_of_active (h : active s = true) : s.run ≠ .faulted := by
  intro hr
  simp [active, hr] at h

/-! ## The open set and its phase (R39, R51) -/

theorem openSet_eq_some_iff {r : SetRec} :
    openSet s = some r ↔ s.tray.held = some r ∧ ∀ c, s.tray.close = some c → c.kind ≠ .final := by
  unfold openSet
  split
  next c hc => cases hk : c.kind <;> simp [hc, hk]
  next hc => simp [hc]

theorem assemblingSet_eq_some_iff {r : SetRec} :
    assemblingSet s = some r ↔ s.tray.phase = .compiling ∧ s.tray.held = some r ∧
      (∀ c, s.tray.close = some c → c.kind ≠ .final) ∧ r.assembly = .assembling ∧ active s = true := by
  constructor
  · intro h
    obtain ⟨hp, ho, hh, ha, hr⟩ := assemblingSet_some h
    exact ⟨hp, hh, (openSet_eq_some_iff.1 ho).2, ha, hr⟩
  · rintro ⟨hp, hh, hc, ha, hr⟩
    have ho : openSet s = some r := openSet_eq_some_iff.2 ⟨hh, hc⟩
    simp [assemblingSet, hp, ho, ha, hr]

/-! ## Tray-bound sheets (R73) -/

theorem trayBound_isEmpty_iff :
    (trayBound s).isEmpty = true ↔ ∀ x ∈ s.path.entries, x.purpose = .tray → x.state = .toPurge := by
  have bound_iff (x : PathEntry) : x.trayBound = false ↔ (x.purpose = .tray → x.state = .toPurge) := by
    unfold PathEntry.trayBound
    split
    next hp => cases hs : x.state <;> simp [hp]
    all_goals simp_all
  simp [trayBound, bound_iff]

theorem trayGrantOut_eq_false_iff : trayGrantOut s = false ↔ ∀ g, s.grant = some g → g.purpose ≠ .tray := by
  cases h : s.grant <;> simp [trayGrantOut, h]

/-! ## The judgement of the head (R51, R52) -/

theorem PlanBody_part_eq (b : PlanBody) {p : Nat} (h : 1 ≤ p) : b.part p = b.parts[p - 1]? := by
  simp [PlanBody.part, Nat.ne_of_gt h]

/-- A granted head has no class: R34 classifies WAITING heads. -/
theorem headClass_granted {l : Link} {e : QueueEntry} {g : Route} (h : headOf s l = some e)
    (hs : e.standing = .granted g) : headClass s l = none := by
  simp [headClass, h, hs]

/-- R51: an ungranted head ends the part unless it is the needed sheet. -/
theorem headEndsPart_ungranted {r : SetRec} {p : PlanPart} {e : QueueEntry}
    (hp : (planOf s r.plan).part r.part = some p) (he : headOf s p.source = some e)
    (hs : ∀ g, e.standing ≠ .granted g) :
    headEndsPart s r = true ↔ ¬(headClass s p.source = some .partOfOpen ∧ e.desc.part = r.part) := by
  simp only [headEndsPart, hp, he]
  cases hst : e.standing with
  | granted g => exact absurd hst (hs g)
  | queued => dsimp only; split <;> simp_all
  | waiting => dsimp only; split <;> simp_all

theorem headEndsPart_iff {r : SetRec} {p : PlanPart} (hp : (planOf s r.plan).part r.part = some p) :
    headEndsPart s r = true ↔ ∃ e, headOf s p.source = some e ∧ e.standing ≠ .granted .tray ∧
      ¬(headClass s p.source = some .partOfOpen ∧ e.desc.part = r.part) := by
  cases he : headOf s p.source with
  | none => simp [headEndsPart, hp, he]
  | some e =>
    cases hs : e.standing with
    | granted g => cases g <;> simp [headEndsPart, hp, he, hs, headClass_granted he hs]
    | queued | waiting => simp [headEndsPart_ungranted hp he (by simp [hs]), hs]

/-- R52, R53: the record of the tray's set with its current part ended. -/
theorem endPart_eq {r : SetRec} (hh : s.tray.held = some r) :
    endPart s r = { s with
      timers := { s.timers with stall := none }
      tray := { s.tray with held := some (r.endPart (planOf s r.plan)) } } := by
  simp [endPart, changeHeld, hh]

theorem SetRec_endPart_eq (r : SetRec) (b : PlanBody) (ha : r.assembly = .assembling) :
    r.endPart b = { r with
      flags := { r.flags with
        short := r.flags.short || decide ((r.partCount r.part).taken < ((b.part r.part).map (·.minCount)).getD 0) }
      assembly := if decide (b.parts.length ≤ r.part) then .closePending else .assembling
      part := if decide (b.parts.length ≤ r.part) then r.part else r.part + 1 } := by
  by_cases h : b.parts.length ≤ r.part <;> simp [SetRec.endPart, SetFlags.judgeShort, h, ha]

/-- R52: a set still ASSEMBLING after its part has ended has gone on to a further part of the same plan. -/
theorem assemblingSet_endPart {r r' : SetRec} (h : assemblingSet s = some r)
    (h' : assemblingSet (endPart s r) = some r') :
    r.part < (planOf s r.plan).parts.length ∧ r'.plan = r.plan ∧ r'.part = r.part + 1 := by
  obtain ⟨-, hh, -, ha, -⟩ := assemblingSet_eq_some_iff.1 h
  obtain ⟨-, hh', -, ha', -⟩ := assemblingSet_eq_some_iff.1 h'
  rw [endPart_eq hh, SetRec_endPart_eq r _ ha] at hh'
  simp only [Option.some.injEq] at hh'
  subst hh'
  by_cases hl : (planOf s r.plan).parts.length ≤ r.part
  · simp [hl] at ha'
  · simp [hl]
    omega

/-- R51: once the fuel exceeds the parts that are left, more fuel changes nothing. -/
theorem advanceParts_succ (n : Nat) :
    ∀ s, (∀ r, assemblingSet s = some r → (planOf s r.plan).parts.length - r.part < n) →
      advanceParts (n + 1) s = advanceParts n s := by
  induction n with
  | zero =>
    intro s h
    cases ha : assemblingSet s with
    | none => simp [advanceParts, ha]
    | some r => exact absurd (h r ha) (by omega)
  | succ n ih =>
    intro s h
    rw [advanceParts, advanceParts]
    cases ha : assemblingSet s with
    | none => rfl
    | some r =>
      have hstep : advanceParts (n + 1) (endPart s r) = advanceParts n (endPart s r) := by
        refine ih _ fun r' hr' => ?_
        obtain ⟨hlt, hplan, hpart⟩ := assemblingSet_endPart ha hr'
        have hfuel := h r ha
        have hsame : planOf (endPart s r) r'.plan = planOf s r.plan := by simp [planOf, hplan]
        rw [hsame, hpart]
        omega
      simp only [hstep]

theorem advance_of_not_assembling (h : assemblingSet s = none) : advance s = s := by
  simp [advance, advanceParts, h]

theorem advance_of_head_stays {r : SetRec} (h : assemblingSet s = some r) (he : headEndsPart s r = false) :
    advance s = s := by
  simp [advance, advanceParts, h, he]

/-- R51: ending a part and judging the next one is the judgement itself, for the parts a plan can have (R3). -/
theorem advance_of_head_ends {r : SetRec} (h : assemblingSet s = some r) (he : headEndsPart s r = true)
    (h1 : 1 ≤ r.part) (h6 : (planOf s r.plan).parts.length ≤ 6) : advance s = advance (endPart s r) := by
  have hnext : advanceParts 7 (endPart s r) = advanceParts 6 (endPart s r) := by
    refine advanceParts_succ 6 _ fun r' hr' => ?_
    obtain ⟨hlt, hplan, hpart⟩ := assemblingSet_endPart h hr'
    have hsame : planOf (endPart s r) r'.plan = planOf s r.plan := by simp [planOf, hplan]
    rw [hsame, hpart]
    omega
  rw [advance, advance, hnext, advanceParts]
  simp [h, he]

/-! ## The stall timer (R53) -/

theorem stalls_of_assembling {r : SetRec} {p : PlanPart} (h : assemblingSet s = some r)
    (hp : (planOf s r.plan).part r.part = some p) : stalls s = (headOf s p.source).isNone := by
  simp [stalls, h, hp]

theorem stallUpdate_of_stalls (h : stalls s = true) : stallUpdate s = { s with timers := { s.timers with
    stall := some (s.timers.stall.getD (10000 * s.tables.transport.active.stall)) } } := by
  have full : msTicks (1000 * s.tables.transport.active.stall) = 10000 * s.tables.transport.active.stall := by
    simp only [msTicks, Config.ticksPerMs]
    omega
  simp [stallUpdate, h, full]

theorem stallUpdate_of_not_stalls (h : stalls s = false) :
    stallUpdate s = { s with timers := { s.timers with stall := none } } := by
  simp [stallUpdate, h]

/-! ## The hand-over (R55), the eject (R102) and the end of halting (R164) -/

theorem handOver_of_closes {r : SetRec} (ho : openSet s = some r) (hp : s.tray.phase = .compiling)
    (ha : r.assembly = .closePending) (hr : active s = true) (hg : trayGrantOut s = false)
    (hb : (trayBound s).isEmpty = true) : handOver s = closeFinal s r := by
  simp [handOver, ho, hp, ha, hr, hg, hb]

theorem handOver_cases : handOver s = s ∨ ∃ r, openSet s = some r ∧ s.tray.phase = .compiling ∧
    r.assembly = .closePending ∧ active s = true ∧ trayGrantOut s = false ∧ (trayBound s).isEmpty = true := by
  unfold handOver
  split
  next r hp ho =>
    split
    next h =>
      simp only [Bool.and_eq_true, beq_iff_eq, Bool.not_eq_true'] at h
      obtain ⟨⟨⟨ha, hr⟩, hg⟩, hb⟩ := h
      exact .inr ⟨r, ho, hp, ha, hr, hg, hb⟩
    next => exact .inl rfl
  next => exact .inl rfl

theorem tryEject_of_idle (hp : s.tray.phase = .ready) (ht : s.tower.phase = .idle) (hr : active s = true) :
    tryEject s = { s with
      tray := { s.tray with phase := .ejecting }
      tower := { s.tower with phase := .receiving }
      timers := { s.timers with eject := some 30000 } } := by
  simp [tryEject, hp, ht, hr, msTicks, Config.ejectMs, Config.ticksPerMs]

theorem tryEject_of_not (h : s.tray.phase ≠ .ready ∨ s.tower.phase ≠ .idle ∨ active s = false) : tryEject s = s := by
  unfold tryEject
  split
  next hp ht =>
    split
    next hr => simp [hp, ht, hr] at h
    next => rfl
  next => rfl

theorem haltDone_iff : haltDone s = true ↔ s.run = .halting ∧ s.tray.phase = .empty ∧ s.path.entries = [] ∧
    (s.tower.phase = .idle ∨ s.tower.phase = .held) ∧ s.grant = none := by
  simp [haltDone, and_assoc]

/-! ## `settle` as a whole -/

theorem settle_of_active (h : active s = true) : settle s =
    haltCheck (stallUpdate (advance (serve (handOver (advance (preempt (tryEject (sessionTakesTower s)))))))) := by
  have hr : active (tryEject (sessionTakesTower s)) = active s := active_congr (by simp)
  simp [settle, hr, h]

theorem settle_of_stopped (h : active s = false) : settle s = sessionTakesTower s := by
  have hs : active (sessionTakesTower s) = active s := active_congr (by simp)
  have ht : tryEject (sessionTakesTower s) = sessionTakesTower s := tryEject_of_not (.inr (.inr (hs.trans h)))
  simp [settle, ht, hs, h]

theorem settle_of_still (h : s.still) : settle s = s := by
  obtain ⟨hr, hz⟩ := h
  rw [settle_of_stopped hr, sessionTakesTower_eq s (.inl hz)]

theorem sameBesides_settle : s.SameBesides (settle s) := by
  constructor <;> simp

end Sys2Proof.Machine.SetAssembly
end

section
/-!
PROOFS. What the part does of itself (R51 to R55, R102, R164), and the stall timer's expiry (R53).
-/
namespace Sys2Proof.Machine.SetAssembly

/-- R52: the record after the end of part `r.part`, in the words of the plan's part `p`. -/
theorem endPart_eq_of_part {s : State} {r : SetRec} {p : PlanPart} (h : assemblingSet s = some r)
    (hp : (planOf s r.plan).part r.part = some p) :
    endPart s r = { s with
      timers := { s.timers with stall := none }
      tray := { s.tray with held := some { r with
        flags := { r.flags with short := r.flags.short || decide ((r.partCount r.part).taken < p.minCount) }
        assembly := if decide ((planOf s r.plan).parts.length ≤ r.part) then .closePending else .assembling
        part := if decide ((planOf s r.plan).parts.length ≤ r.part) then r.part else r.part + 1 } } } := by
  obtain ⟨-, hh, -, ha, -⟩ := assemblingSet_eq_some_iff.1 h
  rw [endPart_eq hh, SetRec_endPart_eq r _ ha, hp]
  rfl

/-- Settles O4: each part of `settle` from the lemma that says what decides it. -/
theorem settlingKeepsItsFrame : Obligations.SettlingKeepsItsFrame := by
  unfold Obligations.SettlingKeepsItsFrame
  refine ⟨fun s => ⟨sameBesides_settle, settle_of_still, settle_of_stopped, settle_of_active⟩, fun s => ?_⟩
  refine ⟨tryEject_of_idle, tryEject_of_not, ?_, ?_, ⟨?_, ?_⟩, ?_, ?_⟩
  · -- R51 to R53, with a set assembling
    intro r p hr h1 hparts h6
    have ha : assemblingSet s = some r := assemblingSet_eq_some_iff.2 hr
    have hp : (planOf s r.plan).part r.part = some p := by rw [PlanBody_part_eq _ h1, hparts]
    have hends := headEndsPart_iff hp
    have hstalls := stalls_of_assembling ha hp
    refine ⟨fun hn => ?_, fun he => ?_, fun hn => ?_, fun hn => ?_⟩
    · exact advance_of_head_stays ha (Bool.eq_false_iff.2 fun h => hn (hends.1 h))
    · rw [advance_of_head_ends ha (hends.2 he) h1 h6, endPart_eq_of_part ha hp]
    · exact stallUpdate_of_stalls (by simp [hstalls, hn])
    · exact stallUpdate_of_not_stalls (by simpa [hstalls, Option.isSome_iff_ne_none] using hn)
  · -- R51 to R53, with none
    intro hnone
    have ha : assemblingSet s = none := Option.eq_none_iff_forall_ne_some.2 fun r h =>
      hnone r (assemblingSet_eq_some_iff.1 h)
    exact ⟨advance_of_not_assembling ha, stallUpdate_of_not_stalls (by simp [stalls, ha])⟩
  · -- R55
    rintro r ⟨hp, hh, hc, ha, hr, hg, hb⟩
    exact handOver_of_closes (openSet_eq_some_iff.2 ⟨hh, hc⟩) hp ha hr (trayGrantOut_eq_false_iff.2 hg)
      (trayBound_isEmpty_iff.2 hb)
  · -- R55, where nothing closes
    intro hnone
    rcases handOver_cases (s := s) with h | ⟨r, ho, hp, ha, hr, hg, hb⟩
    · exact h
    · obtain ⟨hh, hc⟩ := openSet_eq_some_iff.1 ho
      exact absurd ⟨hp, hh, hc, ha, hr, trayGrantOut_eq_false_iff.1 hg, trayBound_isEmpty_iff.1 hb⟩ (hnone r)
  · -- R164
    intro hdone
    have hd : haltDone s = true := haltDone_iff.2 hdone
    simp [haltCheck, hd, changeRun, hdone.1]
  · -- R164, not done
    intro hdone
    have hd : ¬haltDone s = true := fun h => hdone (haltDone_iff.1 h)
    simp [haltCheck, hd]

/-- R53: the expiry of the running timer, with a set assembling, ends that set's current part. -/
theorem exec_stallTimerExpiry {s : State} {r : SetRec} {n : Nat} (hn : s.timers.stall = some n)
    (hset : assemblingSet s = some r) : exec .stallTimerExpiry s = .next (settle (endPart s r)) := by
  have harm : exec .stallTimerExpiry s = execStallTimerExpiry s := rfl
  simp [harm, execStallTimerExpiry, hn, hset]

/-- Settles O43: the expiry ends the assembling set's part, which is `SetRec.endPart`. -/
theorem stallExpiryEndsThePart : Obligations.StallExpiryEndsThePart := by
  unfold Obligations.StallExpiryEndsThePart
  intro s r n hn hh hp hc ha hr
  have hset : assemblingSet s = some r := assemblingSet_eq_some_iff.2 ⟨hp, hh, by simp [hc], ha, hr⟩
  dsimp only
  rw [exec_stallTimerExpiry hn hset, endPart_eq hh, SetRec_endPart_eq r _ ha]

end Sys2Proof.Machine.SetAssembly
end

section
/-!
PROOFS. The end of a frame on a link (R47, R153, R154): the port, the grant's stage and the feed window.
-/
namespace Sys2Proof.Machine.SetAssembly

section Lemmas
variable {s : State} {l : Link}

theorem linkPresent_congr {t : State} (l : Link) (h : t.straps = s.straps) : linkPresent t l = linkPresent s l := by
  cases l <;> simp [linkPresent, h]

/-- R153: the port of a link once its frame has been sent and the next one, if any, has been started. -/
def finishedPort (address : BitVec 3) (k : LinkPort) : LinkPort :=
  LinkPort.startNext address { k with sending := none, line := [] }

theorem finishedPort_of_lane (address : BitVec 3) {k : LinkPort} {x : Outbound} (h : k.lane = some x) :
    finishedPort address k = { k with sending := some x, line := frameChars address x, lane := none } := by
  simp [finishedPort, LinkPort.startNext, LinkPort.begin, h]

theorem finishedPort_of_queue (address : BitVec 3) {k : LinkPort} {x : Outbound} {rest : List Outbound}
    (h : k.lane = none) (hq : k.queue = x :: rest) :
    finishedPort address k = { k with sending := some x, line := frameChars address x, queue := rest } := by
  simp [finishedPort, LinkPort.startNext, LinkPort.begin, h, hq]

theorem finishedPort_of_idle (address : BitVec 3) {k : LinkPort} (h : k.lane = none) (hq : k.queue = []) :
    finishedPort address k = { k with sending := none, line := [] } := by
  simp [finishedPort, LinkPort.startNext, h, hq]

/-- R153: the lane is emptied first, so it is empty after the start of the next frame. -/
theorem finishedPort_lane (address : BitVec 3) (k : LinkPort) : (finishedPort address k).lane = none := by
  cases h : k.lane with
  | some x => simp [finishedPort_of_lane address h]
  | none =>
    cases hq : k.queue with
    | nil => simp [finishedPort_of_idle address h hq, h]
    | cons x rest => simp [finishedPort_of_queue address h hq, h]

/-- R47: the stage a grant of the link comes to when the link's frame ends. -/
def Grant.afterFrame (l : Link) (g : Grant) : Grant :=
  if g.link = l then { g with stage := if g.stage = .inLane then .sending else .sent } else g

/-- R47: the feed window's time left after the end of a frame of link `l`. -/
def feedWindowAfterFrame (s : State) (l : Link) : Option Nat :=
  if (s.grant.any (fun g => g.link == l && g.stage == .sending)) = true
  then some (10 * s.tables.transport.active.feedWindow) else s.timers.feedWindow

/-- R153: the port part of a frame's end, whatever has been done to the grant before. -/
theorem noteGrantSending_pump (h : linkPresent s l = true) :
    noteGrantSending (pump (changePort s l (fun k => { k with sending := none, line := [] })) l) l = { s with
      links := s.links.set l (finishedPort s.straps.address (s.links.get l))
      grant := s.grant.map (fun g =>
        if g.link == l && g.stage == .inLane then { g with stage := .sending } else g) } := by
  have hp : linkPresent (changePort s l (fun k => { k with sending := none, line := [] })) l = true :=
    (linkPresent_congr l (by simp)).trans h
  have hport : pump (changePort s l (fun k => { k with sending := none, line := [] })) l =
      { s with links := s.links.set l (finishedPort s.straps.address (s.links.get l)) } := by
    rw [pump, if_pos hp]
    simp [changePort, finishedPort]
  simp [hport, noteGrantSending, finishedPort_lane]

theorem finishFrame_eq {o : Outbound} (h : linkPresent s l = true) (hs : (s.links.get l).sending = some o) :
    finishFrame s l = { s with
      links := s.links.set l (finishedPort s.straps.address (s.links.get l))
      grant := s.grant.map (Grant.afterFrame l)
      timers := { s.timers with feedWindow := feedWindowAfterFrame s l } } := by
  unfold finishFrame
  simp only [hs]
  cases hg : s.grant with
  | none => simp [noteGrantSending_pump h, hg, feedWindowAfterFrame]
  | some g =>
    obtain ⟨link, tag, purpose, stage⟩ := g
    by_cases hl : link = l
    · cases stage with
      | inLane | sent => simp [noteGrantSending_pump h, hg, hl, Grant.afterFrame, feedWindowAfterFrame]
      | sending =>
        have hw : linkPresent { setGrantStage s l .sent with timers := { s.timers with
            feedWindow := some (msTicks s.tables.transport.active.feedWindow) } } l = true :=
          (linkPresent_congr l (by simp)).trans h
        simp only [hl, beq_self_eq_true, Bool.and_self, if_true]
        rw [noteGrantSending_pump hw]
        simp [hg, hl, Grant.afterFrame, feedWindowAfterFrame, setGrantStage, msTicks, Config.ticksPerMs, Nat.mul_comm]
    · simp [noteGrantSending_pump h, hg, hl, Grant.afterFrame, feedWindowAfterFrame]

theorem withdrawWaits_iff : withdrawWaits s l = true ↔ ∃ tag, (s.links.get l).lane = some (.withdraw tag) := by
  unfold withdrawWaits
  split <;> simp_all

end Lemmas

/-- Settles O15: the end of the frame, and the look again where a WITHDRAW has left the lane. -/
theorem finishedFrameStartsTheNext : Obligations.FinishedFrameStartsTheNext := by
  unfold Obligations.FinishedFrameStartsTheNext
  intro s l o hp hs
  have harm : exec (.transmitComplete l) s = execTransmitComplete l s := rfl
  have hfinish := finishFrame_eq hp hs
  refine ⟨finishFrame s l, fun hw => ?_, fun tag hw => ?_, ?_⟩
  · have hno : withdrawWaits s l = false :=
      Bool.eq_false_iff.2 fun h => by obtain ⟨tag, ht⟩ := withdrawWaits_iff.1 h; exact hw tag ht
    simp [harm, execTransmitComplete, hno]
  · simp [harm, execTransmitComplete, withdrawWaits_iff.2 ⟨tag, hw⟩]
  · rw [hfinish]
    refine ⟨rfl, fun m hm => Pair.get_set_other _ _ hm, rfl, fun x hx => ?_, fun x rest hn hq => ?_,
      fun hn hq => ?_, rfl⟩
    · simp [finishedPort_of_lane _ hx]
    · simp [finishedPort_of_queue _ hn hq]
    · simp [finishedPort_of_idle _ hn hq]

end Sys2Proof.Machine.SetAssembly
end

section
/-!
PROOFS. The gate decision (R79 to R82): the side, the deadline, the report to the sequencer.
-/
namespace Sys2Proof.Machine.SetAssembly

section Lemmas
variable {s : State}

/-! ## Numbers and lists -/

/-- The ceiling is the least number whose product with the divisor reaches the dividend. -/
theorem ceilDiv_bounds {n d : Nat} (hn : 0 < n) (hd : 0 < d) : n ≤ ceilDiv n d * d ∧ (ceilDiv n d - 1) * d < n := by
  have hdiv := Nat.div_add_mod (n + d - 1) d
  have hmod := Nat.mod_lt (n + d - 1) hd
  have hcomm : d * ((n + d - 1) / d) = ceilDiv n d * d := Nat.mul_comm _ _
  rw [Nat.sub_mul, Nat.one_mul]
  omega

theorem changeAt_eq_modify {α : Type} (f : α → α) : ∀ (i : Nat) (xs : List α), changeAt i f xs = xs.modify i f := by
  intro i xs
  induction xs generalizing i with
  | nil => simp [changeAt]
  | cons x xs ih => cases i <;> simp [changeAt, ih]

theorem find?_append_cons {α : Type} {p : α → Bool} {before after : List α} {e : α}
    (hb : ∀ x ∈ before, p x = false) (he : p e = true) : (before ++ e :: after).find? p = some e := by
  have hnone : before.find? p = none := by simpa using hb
  simp [List.find?_append, hnone, he]

/-! ## The clock (R71) -/

/-- R71: while the part works, the ticks up to `t` pass on the timers and the session's timer. -/
theorem advanceTo_eq (t : Tick) (h : active s = true) : advanceTo t s = { s with
    path := { s.path with timer := t }
    timers := s.timers.elapse (t - s.path.timer).toNat
    session := s.session.map (fun z =>
      { z with timer := z.timer.map (fun x => (x.1, x.2 - (t - s.path.timer).toNat)) }) } := by
  rw [← advanceTo_path s t h]
  rfl

/-! ## The decision (R79, R81, R82) -/

theorem decision_eq_toTray_iff (e : PathEntry) : e.decision = .toTray ↔
    e.desc ≠ none ∧ e.faulty = none ∧ e.purpose = .tray ∧ e.conflict = false ∧ e.trail ≠ none ∧
      e.length = some .good := by
  simp [PathEntry.decision, Option.isSome_iff_ne_none, and_assoc]

theorem decision_eq_toPurge_iff (e : PathEntry) : e.decision = .toPurge ↔ e.decision ≠ .toTray := by
  unfold PathEntry.decision
  split <;> simp

/-- R82: the wait for an entry decided to `st`, in ticks. -/
theorem arrivalTicks_bounds (st : PathState) {speed : Nat} (h : 1 ≤ speed) :
    arrivalDistance st * 50000 ≤ arrivalTicks (arrivalDistance st) speed * (4 * speed) ∧
      (arrivalTicks (arrivalDistance st) speed - 1) * (4 * speed) < arrivalDistance st * 50000 := by
  have hdist : 0 < arrivalDistance st := by cases st <;> simp [arrivalDistance]
  exact ceilDiv_bounds (by omega) (by omega)

/-- R79 to R82: the path list, the gate and the timer after the decision of `e`. -/
def decidedPath (s : State) (before after : List PathEntry) (e : PathEntry) : Path :=
  { s.path with
    timer := e.compare
    gate := gateOf e.decision
    entries := before ++ e.decide s.tables.transport.active.speed :: after }

/-- R79: the state with the entry decided and nothing reported yet. -/
def decidedState (s : State) (before after : List PathEntry) (e : PathEntry) : State :=
  { s with
    path := decidedPath s before after e
    timers := s.timers.elapse (e.compare - s.path.timer).toNat
    session := s.session.map (fun z =>
      { z with timer := z.timer.map (fun x => (x.1, x.2 - (e.compare - s.path.timer).toNat)) }) }

section
variable {before after : List PathEntry} {e : PathEntry}

theorem decideEntry_eq (h : active s = true) (hs : s.path.entries = before ++ e :: after)
    (hb : ∀ x ∈ before, x.state ≠ .preGate) (he : e.state = .preGate) :
    decideEntry (advanceTo e.compare s) e = reportDecision (decidedState s before after e) e := by
  have hfirst := changeFirst_append (fun x => x.state == .preGate) (PathEntry.decide s.tables.transport.active.speed)
    e after (by simp [he]) before (by simpa using hb)
  simp only [decideEntry, advanceTo_eq _ h, speedOf, hs, hfirst]
  rfl

theorem exec_gateDecision (h : active s = true) (hs : s.path.entries = before ++ e :: after)
    (hb : ∀ x ∈ before, x.state ≠ .preGate) (he : e.state = .preGate) :
    exec .gateDecision s = .next (settle (reportDecision (decidedState s before after e) e)) := by
  have harm : exec .gateDecision s = execGateDecision s := rfl
  have hfind : s.path.entries.find? (fun x => x.state == .preGate) = some e := by
    rw [hs]
    exact find?_append_cons (by simpa using hb) (by simp [he])
  simp [harm, execGateDecision, hfind, h, decideEntry_eq h hs hb he]

end

/-! ## The report (R41, R50, R80) -/

theorem reportDecision_silent {e : PathEntry} (h : e.decision = .toTray ∨ e.purpose ≠ .tray ∨ e.desc = none) :
    reportDecision s e = s := by
  unfold reportDecision
  split
  next hp hd hdesc => simp [hp, hd, hdesc] at h
  next => rfl

theorem reportDecision_lost {e : PathEntry} {d : Desc} (h : e.decision = .toPurge) (hp : e.purpose = .tray)
    (hd : e.desc = some d) :
    reportDecision s e = notifyRejected (changeHeld s (fun r => r.loseSheet d.part)) e d := by
  simp [reportDecision, h, hp, hd]

theorem SetRec_loseSheet_eq (r : SetRec) (p : Nat) : r.loseSheet p = { r with
    flags := { r.flags with incomplete := true }
    parts := r.parts.modify (p - 1) (fun c => { c with taken := c.taken - 1 }) } := by
  simp [SetRec.loseSheet, SetRec.giveBack, SetFlags.withIncomplete, changeAt_eq_modify]

theorem feedLength_eq (size : Nat) :
    feedLength size = if size = 0 then 148 else if size = 1 then 210 else if size = 2 then 297 else 420 := by
  match size with
  | 0 | 1 | 2 => rfl
  | n + 3 => simp [feedLength]

end Lemmas

/-- Settles O36: the state decided for `e`, and the report of its decision. -/
theorem gateDecisionSteersTheSheet : Obligations.GateDecisionSteersTheSheet := by
  unfold Obligations.GateDecisionSteersTheSheet
  intro s before after e ha hs hb he hspeed toTray speed passed
  have htray : e.decision = .toTray ↔ toTray := decision_eq_toTray_iff e
  have hpurge : e.decision = .toPurge ↔ ¬toTray := (decision_eq_toPurge_iff e).trans (not_congr htray)
  have hbounds := arrivalTicks_bounds e.decision hspeed
  have hpath : (reportDecision (decidedState s before after e) e).path = decidedPath s before after e := by
    simp [decidedState]
  refine ⟨reportDecision (decidedState s before after e) e, arrivalTicks (arrivalDistance e.decision) speed,
    exec_gateDecision ha hs hb he, by simp, ?_, fun h => ?_, fun h => ?_, ?_⟩
  · rw [hpath]
    by_cases h : toTray
    · simp [decidedPath, PathEntry.decide, htray.2 h, h, gateOf, speed]
    · simp [decidedPath, PathEntry.decide, hpurge.2 h, h, gateOf, speed]
  · simpa [htray.2 h, arrivalDistance] using hbounds
  · simpa [hpurge.2 h, arrivalDistance] using hbounds
  · rw [hpath]
    refine ⟨fun h => reportDecision_silent (h.imp_left htray.2), fun d hn hp hd => ?_⟩
    rw [reportDecision_lost (hpurge.2 hn) hp hd]
    simp only [changeHeld, SetRec_loseSheet_eq, notifyRejected, ← feedLength_eq, Option.isNone_iff_eq_none]
    exact ⟨fun hc => if_pos hc, fun hc => if_neg (by simp [hc])⟩

end Sys2Proof.Machine.SetAssembly
end

section
/-!
PROOFS. Lead captures without a grant (R50, R74, R75, R165): the stray, the conflict and the fifth sheet.
-/
namespace Sys2Proof.Machine.SetAssembly

section Lemmas
variable {s t : State}

/-! ## What `settle` leaves after an event at the entry -/

theorem descs_congr (l : Link) (h : t.feeds = s.feeds) : t.descs l = s.descs l := by simp [State.descs, h]

theorem settle_descs (l : Link) : (settle s).descs l = s.descs l :=
  ((settle_onward s).descs l).trans (descs_congr l (by simp))

theorem settle_path : (settle s).path = s.path := by simp

theorem anyPreGate_congr (h : t.path = s.path) : anyPreGate t = anyPreGate s := by simp [anyPreGate, h]

/-- R42: no grant is made while a sheet is before the gate. -/
theorem serve_of_preGate (h : anyPreGate s = true) : serve s = s := by simp [serve, grantable, h]

theorem settle_grant_of_preGate (h : anyPreGate s = true) : (settle s).grant = s.grant := by
  cases hr : active s with
  | false => simp [settle_of_stopped hr]
  | true =>
    have hpre : anyPreGate (handOver (advance (preempt (tryEject (sessionTakesTower s))))) = true :=
      (anyPreGate_congr (by simp)).trans h
    simp [settle_of_active hr, serve_of_preGate hpre]

/-! ## The entry into FAULTED (R165) -/

theorem withdrawGrant_grant : (withdrawGrant s).grant = none := by
  cases h : s.grant <;> simp [withdrawGrant, h]

/-- R29: a withdrawn head stays in its queue. -/
theorem withdrawGrant_descs (l : Link) : (withdrawGrant s).descs l = s.descs l := by
  unfold withdrawGrant
  split
  next => rfl
  next g _ =>
    have hfeeds := changeHead_descs (takeBackGrant s g) g.link l (fun e => { e with standing := .waiting }) fun _ => rfl
    simpa [State.descs] using hfeeds

theorem faultSession_session : (faultSession s).session = none := by
  cases h : s.session <;> simp [faultSession, h, endSession]

/-- R165: what a fault raised in a working part comes to, beside its frame. -/
theorem raiseFault_working (d : FaultDetail) (h : s.run ≠ .faulted) :
    (raiseFault s d).run = .faulted ∧ (raiseFault s d).fault = { s.fault with first := some d } ∧
    (raiseFault s d).grant = none ∧ (raiseFault s d).session = none ∧
    ∀ l, (raiseFault s d).descs l = s.descs l := by
  refine ⟨?_, ?_, ?_, ?_, fun l => ?_⟩
  · simp [raiseFault, h, enterFaulted]
  · simp [raiseFault, h, enterFaulted]
  · simp [raiseFault, h, enterFaulted, withdrawGrant_grant]
  · simp [raiseFault, h, enterFaulted, faultSession_session]
  · refine Eq.trans (descs_congr l ?_) (withdrawGrant_descs l)
    simp [raiseFault, h, enterFaulted]

/-- A part that a fault has just stopped has nothing to look at: no session waits. -/
theorem settle_raiseFault (d : FaultDetail) (h : s.run ≠ .faulted) : settle (raiseFault s d) = raiseFault s d := by
  obtain ⟨hrun, -, -, hsession, -⟩ := raiseFault_working d h
  exact settle_of_still ⟨by simp [active, hrun], hsession⟩

/-! ## The path list (R74, R75) -/

theorem joinPath_path (e : PathEntry) : (joinPath s e).path = { s.path with
    entries := (s.path.entries ++ [e]).map (fun x =>
      if anyPreGate s && x.state == .preGate then { x with conflict := true } else x) } := by
  cases h : anyPreGate s <;> simp [joinPath, h, markConflicts]

theorem anyPreGate_joinPath {e : PathEntry} (he : e.state = .preGate) : anyPreGate (joinPath s e) = true := by
  rw [anyPreGate, joinPath_path]
  generalize anyPreGate s = b
  cases b <;> simp [he]

/-! ## The lead capture (R72, R74) -/

/-- The part with link `l`'s entry sensor covered and its clock brought to the captured tick. -/
def atLead (s : State) (l : Link) (tick : Tick) : State := advanceTo tick (senseEntry s l true)

theorem exec_leadCapture {l : Link} (tick : Tick) (ha : active s = true) (hl : linkPresent s l = true) :
    exec (.leadCapture l tick) s = .next (settle (captureLead (atLead s l tick) l tick)) := by
  have harm : exec (.leadCapture l tick) s = execLeadCapture l tick s := rfl
  have hactive : active (senseEntry s l true) = true := (active_congr (by simp)).trans ha
  have hpresent : linkPresent (senseEntry s l true) l = true := by
    rw [← hl]
    cases l <;> simp [linkPresent]
  simp [harm, execLeadCapture, entryTaken, hactive, hpresent, atLead]

theorem atLead_path {l : Link} (tick : Tick) (ha : active s = true) :
    (atLead s l tick).path = { s.path with timer := tick } := by
  have hactive : active (senseEntry s l true) = true := (active_congr (by simp)).trans ha
  rw [atLead, advanceTo_path _ _ hactive]
  simp

@[simp] theorem atLead_frame (l : Link) (tick : Tick) :
    (atLead s l tick).run = s.run ∧ (atLead s l tick).fault = s.fault ∧ (atLead s l tick).links = s.links ∧
    (atLead s l tick).feeds = s.feeds ∧ (atLead s l tick).grant = s.grant ∧ (atLead s l tick).tray = s.tray ∧
    (atLead s l tick).jobs = s.jobs ∧ (atLead s l tick).tables = s.tables := by
  simp [atLead, advanceTo]

/-- R74: without the link's grant the sheet is a stray. -/
theorem captureLead_stray {l : Link} (tick : Tick) (h4 : s.path.entries.length < 4)
    (hg : ∀ g, s.grant = some g → g.link ≠ l) :
    captureLead s l tick = joinPath s (newEntry s l tick none) := by
  have hroom : ¬Config.maxPath ≤ s.path.entries.length := Nat.not_le.2 h4
  have hgrant : grantedOn s l = none := by
    unfold grantedOn
    split
    next g e hs _ => simp [hg g hs]
    next => rfl
  simp [captureLead, hroom, hgrant]

/-- R74: a fifth sheet makes no entry. -/
theorem captureLead_full {l : Link} (tick : Tick) (h4 : 4 ≤ s.path.entries.length) :
    captureLead s l tick =
      raiseFault s { cause := .pathJam, sensor := some (entrySensor l), link := some l, tag := none } := by
  have hfull : Config.maxPath ≤ s.path.entries.length := h4
  simp [captureLead, hfull]

/-! ## MERGE-CONFLICT (R75) -/

/-- The entries concerned, before and after the conflict mark, in list order. -/
theorem markConflicts_filter (es : List PathEntry) :
    (markConflicts es).filter (fun x => x.state == .preGate) =
      (es.filter (fun x => x.state == .preGate)).map (fun x => { x with conflict := true }) := by
  induction es with
  | nil => rfl
  | cons x xs ih =>
    have hcons : markConflicts (x :: xs) =
        (if x.state == .preGate then { x with conflict := true } else x) :: markConflicts xs := rfl
    rw [hcons]
    by_cases hx : x.state = .preGate <;> simp [hx, ih]

/-- R75: the state with the new entry in the list and every PRE-GATE entry marked. -/
def conflicted (s : State) (e : PathEntry) : State :=
  { s with path := { s.path with entries := markConflicts (s.path.entries ++ [e]) } }

/-- R75: the entries that a conflict with `e` concerns. -/
def concerned (s : State) (e : PathEntry) : List PathEntry :=
  (s.path.entries ++ [e]).filter (fun x => x.state == .preGate)

theorem joinPath_conflict (e : PathEntry) (h : anyPreGate s = true) :
    joinPath s e =
      notifyConflict (conflicted s e) ((concerned s e).map (fun x => { x with conflict := true })) := by
  simp [joinPath, h, conflicted, concerned, markConflicts_filter]

theorem notifyConflict_strays {es : List PathEntry} (h : ∀ x ∈ es, x.desc = none) :
    notifyConflict s (es.map (fun x => { x with conflict := true })) =
      notify s 0 0 (.mergeConflict (es.map (fun x => (x.link, x.lead))) none) := by
  have hnone : es.filterMap (fun x => x.desc.map (fun d => (d, x.purpose))) = [] := by
    simpa [List.filterMap_eq_nil_iff] using h
  simp [notifyConflict, List.filterMap_map, Function.comp_def, hnone, notifyPlain]

theorem notifyConflict_granted {before after : List PathEntry} {x : PathEntry} {d : Desc}
    (hb : ∀ y ∈ before, y.desc = none) (hx : x.desc = some d) :
    notifyConflict s ((before ++ x :: after).map (fun x => { x with conflict := true })) =
      notifyAnnounced s d.job
        (.mergeConflict ((before ++ x :: after).map (fun x => (x.link, x.lead))) (some (d, x.purpose))) := by
  have hnone : before.filterMap (fun x => x.desc.map (fun d => (d, x.purpose))) = [] := by
    simpa [List.filterMap_eq_nil_iff] using hb
  simp [notifyConflict, List.filterMap_map, Function.comp_def, hnone, hx]

end Lemmas

/-- Settles O34: the stray and the fifth sheet of a lead capture, then the notice of a conflict. -/
theorem ungrantedSheetsAtTheEntry : Obligations.UngrantedSheetsAtTheEntry := by
  unfold Obligations.UngrantedSheetsAtTheEntry
  refine ⟨fun s l tick ha hl => ⟨fun h4 hg => ?_, fun h4 => ?_⟩, fun s e he hpre => ⟨fun hnone => ?_, ?_⟩⟩
  · have hpath := atLead_path (l := l) tick ha
    have hstray := captureLead_stray (s := atLead s l tick) tick (by simpa [hpath] using h4) (by simpa using hg)
    have hpre : anyPreGate (joinPath (atLead s l tick) (newEntry (atLead s l tick) l tick none)) = true :=
      anyPreGate_joinPath rfl
    have hany : anyPreGate (atLead s l tick) = s.path.entries.any (fun x => x.state == .preGate) := by
      simp [anyPreGate, hpath]
    refine ⟨_, atLead s l tick, exec_leadCapture tick ha hl, ?_, hpath, by simp, by simp, by simp, ?_, ?_, ?_, ?_⟩
    · simp [hstray, newEntry, speedOf]
    · rw [hstray, settle_grant_of_preGate hpre]
      simp
    · rw [hstray, settle_descs]
      exact descs_congr _ (by simp)
    · rw [hstray, settle_descs]
      exact descs_congr _ (by simp)
    · rw [hstray, settle_path, joinPath_path, hany, hpath]
      simp [newEntry, speedOf]
  · have hpath := atLead_path (l := l) tick ha
    have hrun : (atLead s l tick).run ≠ .faulted := by simpa using run_ne_faulted_of_active ha
    have hfull := captureLead_full (s := atLead s l tick) (l := l) tick (by simpa [hpath] using h4)
    obtain ⟨hfaulted, hfault, hgrant, hsession, hdescs⟩ := raiseFault_working
      { cause := .pathJam, sensor := some (entrySensor l), link := some l, tag := none } hrun
    refine ⟨_, (exec_leadCapture tick ha hl).trans (by rw [hfull, settle_raiseFault _ hrun]), hfaulted, ?_, ?_, ?_,
      hgrant, hsession, ?_, ?_⟩
    · rw [hfault]
      cases l <;> rfl
    · simp [hfault]
    · simp [hpath]
    · exact (hdescs _).trans (descs_congr _ (by simp))
    · exact (hdescs _).trans (descs_congr _ (by simp))
  · have hany : anyPreGate s = true := by simpa [anyPreGate] using hpre
    rw [joinPath_conflict e hany]
    exact notifyConflict_strays hnone
  · intro before x after d hconcerned hb hx
    have hany : anyPreGate s = true := by simpa [anyPreGate] using hpre
    have hlist : concerned s e = before ++ x :: after := hconcerned
    rw [joinPath_conflict e hany, hconcerned, hlist, notifyConflict_granted hb hx]
    rfl

end Sys2Proof.Machine.SetAssembly
end

section
/-!
PROOFS. The stapler's reports (R96, R99 to R101) and the tray's close (R93 to R98).
-/
namespace Sys2Proof.Machine.SetAssembly

variable {s t : State} {r : SetRec} {c : SegClose} {o : FireOwner}

/-! ## The stapler through `settle` -/

/-- `t` has the stapler's state, cartridge count and two timers of `s`; a waiting request and its owner may differ. -/
structure StaplerKept (s t : State) : Prop where
  phase : t.stapler.phase = s.stapler.phase
  cartridge : t.stapler.cartridge = s.stapler.cartridge
  completion : t.timers.completion = s.timers.completion
  recovery : t.timers.recovery = s.timers.recovery

theorem StaplerKept.trans {u : State} (h : StaplerKept s t) (g : StaplerKept t u) : StaplerKept s u :=
  ⟨g.phase.trans h.phase, g.cartridge.trans h.cartridge, g.completion.trans h.completion, g.recovery.trans h.recovery⟩

/-- R99: only a READY stapler takes a fire of itself. -/
theorem StaplerKept.of_onward (h : Onward s t) (hp : s.stapler.phase ≠ .ready) : StaplerKept s t :=
  ⟨h.stapler.resolve_right fun x => hp x.1, h.cartridge, h.completion.resolve_right fun x => hp x.1, h.recovery⟩

/-- R129: a session that has not taken the tower leaves no timer running when it ends. -/
theorem sessionTakesTower_timers : (sessionTakesTower s).timers = s.timers := by
  unfold sessionTakesTower
  split
  next z _ _ =>
    split
    next hz =>
      simp only [Bool.and_eq_true, Bool.not_eq_true'] at hz
      split
      · simp [endSession, hz.2]
      · rfl
    next => rfl
  next => rfl

theorem staplerKept_settle (hp : s.stapler.phase ≠ .ready) : StaplerKept s (settle s) := by
  have hsession : StaplerKept s (sessionTakesTower s) := by constructor <;> simp [sessionTakesTower_timers]
  exact hsession.trans (.of_onward (settle_onward s) (by simpa using hp))

theorem reportFired_onward (h : s.tray.phase ≠ .empty) : Onward s (reportFired s) := by
  unfold reportFired
  split
  next r c _ _ =>
    have hcount : Onward s { s with tray := { s.tray with close := some { c with fired := c.fired + 1 } } } := by
      constructor <;> simp_all [State.descs]
    dsimp only
    split
    · exact hcount.trans (toReady_onward _ h)
    · exact hcount.trans (requestFire_onward _ _)
  next => exact Onward.refl s

theorem reportJam_onward (h : s.tray.phase ≠ .empty) : Onward s (reportJam s) := by
  refine Onward.trans ?_ (toReady_onward _ h)
  constructor <;> simp_all [State.descs, markUnstapled, SetRec.numbers]

/-! ## Whether the tray is told (R96, R99, R105) -/

/-- R99, R105: the segment of the fire has not been lost, the part is not FAULTED and the tray is STAPLING. -/
def Told (s : State) (o : FireOwner) : Prop := o.lost = false ∧ s.run ≠ .faulted ∧ s.tray.phase = .stapling

theorem reportTaken_iff : reportTaken s = true ↔ ∃ o, s.stapler.owner = some o ∧ Told s o := by
  cases h : s.stapler.owner <;> simp [reportTaken, Told, h, and_assoc]

theorem reportTaken_of_told (ho : s.stapler.owner = some o) (h : Told s o) : reportTaken s = true :=
  reportTaken_iff.2 ⟨o, ho, h⟩

theorem reportTaken_of_not_told (h : ∀ o, s.stapler.owner = some o → ¬Told s o) : reportTaken s = false :=
  Bool.eq_false_iff.2 fun hr => by
    obtain ⟨o, ho, ht⟩ := reportTaken_iff.1 hr
    exact h o ho ht

theorem tray_ne_empty_of_told (h : reportTaken s = true) : s.tray.phase ≠ .empty := by
  obtain ⟨o, -, -, -, hp⟩ := reportTaken_iff.1 h
  simp [hp]

/-! ## A completion (R96, R99, R101) -/

/-- R99, R101: the state a completion leaves before the tray is told. -/
def firedState (s : State) : State := staplesLowTest (finishFire s) s.stapler.cartridge

theorem firedState_stapler : (firedState s).stapler =
    { phase := .recovering, requestWaiting := false, owner := none, cartridge := s.stapler.cartridge - 1 } := by
  simp [firedState, finishFire]

theorem firedState_timers : (firedState s).timers = { s.timers with completion := none, recovery := some 3000 } := by
  simp [firedState, finishFire, msTicks, Config.recoveryMs, Config.ticksPerMs]

theorem firedState_tray : (firedState s).tray = s.tray := by simp [firedState]

theorem exec_staplerCompletion_firing (h : s.stapler.phase = .firing) : exec .staplerCompletion s =
    .next (if reportTaken s then settle (reportFired (firedState s)) else firedState s) := by
  have harm : exec .staplerCompletion s = execStaplerCompletion s := rfl
  simp [harm, execStaplerCompletion, h, firedState]

theorem exec_staplerCompletion_ignored (h : s.stapler.phase ≠ .firing) : exec .staplerCompletion s = .next s := by
  have harm : exec .staplerCompletion s = execStaplerCompletion s := rfl
  cases hp : s.stapler.phase <;> simp_all [execStaplerCompletion]

theorem sameBesides_firedState : s.SameBesides (firedState s) := by constructor <;> simp [firedState]

/-- R99, R101: what every completion taken while FIRING comes to. -/
theorem completion_outcome (h : s.stapler.phase = .firing) : ∃ t, exec .staplerCompletion s = .next t ∧
    s.SameBesides t ∧ t.stapler.phase = .recovering ∧ t.stapler.cartridge = s.stapler.cartridge - 1 ∧
    t.timers.completion = none ∧ t.timers.recovery = some 3000 := by
  rw [exec_staplerCompletion_firing h]
  cases ht : reportTaken s with
  | false =>
    refine ⟨firedState s, rfl, sameBesides_firedState, ?_⟩
    simp [firedState_stapler, firedState_timers]
  | true =>
    have hphase : (firedState s).stapler.phase = .recovering := by simp [firedState_stapler]
    have hreport : StaplerKept (firedState s) (reportFired (firedState s)) :=
      .of_onward (reportFired_onward (by simpa [firedState_tray] using tray_ne_empty_of_told ht)) (by simp [hphase])
    have hkept := hreport.trans (staplerKept_settle (by simp [hreport.phase, hphase]))
    refine ⟨settle (reportFired (firedState s)), rfl, ?_, hkept.phase.trans hphase, ?_, ?_, ?_⟩
    · constructor <;> simp [firedState]
    · simp [hkept.cartridge, firedState_stapler]
    · simp [hkept.completion, firedState_timers]
    · simp [hkept.recovery, firedState_timers]

/-- R96: the fire is counted, and the segment is READY or asks for its next fire. -/
theorem reportFired_eq (hh : s.tray.held = some r) (hc : s.tray.close = some c) : reportFired s =
    let u : State := { s with tray := { s.tray with close := some { c with fired := c.fired + 1 } } }
    if c.asked ≤ c.fired + 1 then toReady u else requestFire u r := by
  simp [reportFired, hh, hc]

/-- R99: the fire's owner is the segment the tray holds. -/
def ownerOf (r : SetRec) : FireOwner := { job := r.job, seat := r.seat, segment := r.segment, lost := false }

theorem requestFire_recovering (h : s.stapler.phase = .recovering) : requestFire s r =
    { s with stapler := { s.stapler with requestWaiting := true, owner := some (ownerOf r) } } := by
  simp [requestFire, h, ownerOf]

theorem requestFire_ready (h : s.stapler.phase = .ready) : requestFire s r = { s with
    stapler := { s.stapler with phase := .firing, requestWaiting := false, owner := some (ownerOf r) }
    timers := { s.timers with completion := some 4000 } } := by
  simp [requestFire, h, ownerOf, msTicks, Config.completionMs, Config.ticksPerMs]

/-! ## A jam (R96, R100) -/

theorem exec_completionTimerExpiry {n : Nat} (hn : s.timers.completion = some n) (ho : s.stapler.owner = some o) :
    exec .completionTimerExpiry s =
      .next (if reportTaken s then settle (reportJam (jamStapler s o)) else jamStapler s o) := by
  have harm : exec .completionTimerExpiry s = execCompletionTimerExpiry s := rfl
  simp [harm, execCompletionTimerExpiry, hn, ho]

theorem jamStapler_stapler : (jamStapler s o).stapler = { s.stapler with phase := .jammed, owner := none } := by
  simp [jamStapler]

theorem jamStapler_timers : (jamStapler s o).timers = { s.timers with completion := none } := by
  simp [jamStapler]

/-- R100: what every expiry of the completion timer of a fire comes to. -/
theorem jam_outcome {n : Nat} (hn : s.timers.completion = some n) (ho : s.stapler.owner = some o) :
    ∃ t, exec .completionTimerExpiry s = .next t ∧ s.SameBesides t ∧ t.stapler.phase = .jammed ∧
      t.stapler.cartridge = s.stapler.cartridge ∧ t.timers.completion = none := by
  rw [exec_completionTimerExpiry hn ho]
  cases ht : reportTaken s with
  | false =>
    refine ⟨jamStapler s o, rfl, ?_, ?_⟩
    · constructor <;> simp
    · simp [jamStapler_stapler, jamStapler_timers]
  | true =>
    have hphase : (jamStapler s o).stapler.phase = .jammed := by simp [jamStapler_stapler]
    have hreport : StaplerKept (jamStapler s o) (reportJam (jamStapler s o)) :=
      .of_onward (reportJam_onward (by simpa using tray_ne_empty_of_told ht)) (by simp [hphase])
    have hkept := hreport.trans (staplerKept_settle (by simp [hreport.phase, hphase]))
    refine ⟨settle (reportJam (jamStapler s o)), rfl, ?_, hkept.phase.trans hphase, ?_, ?_⟩
    · constructor <;> simp
    · simp [hkept.cartridge, jamStapler_stapler]
    · simp [hkept.completion, jamStapler_timers]

/-- R95, R96: the marks of an unstapled segment. -/
theorem markUnstapled_eq (j : Bool) (hh : s.tray.held = some r) (hc : s.tray.close = some c) :
    markUnstapled s j = { s with tray := { s.tray with
      held := some { r with flags := { r.flags with unstapled := true } }
      close := some { c with unstapled := true, jamMark := c.jamMark || j } } } := by
  simp [markUnstapled, hh, hc, SetFlags.withUnstapled]

/-! ## READY and the route (R97, R102) -/

theorem segmentRoute_eq (required : Bool) : segmentRoute r c required =
    if r.exceptionMark = true ∨ r.flags.short = true ∨ r.flags.incomplete = true ∨ r.flags.withheld = true ∨
      r.flags.routeException = true ∨ (c.unstapled = true ∧ required = true) ∨ c.jamMark = true
    then .exception else .normal := by
  simp [segmentRoute, SetFlags.takesException, or_assoc]

/-- R97: the state with the segment READY and its route fixed, before the eject. -/
def readied (s : State) (r : SetRec) (c : SegClose) : State :=
  let route := segmentRoute r c (planOf s r.plan).stapleRequired
  { s with tray :=
    { phase := .ready
      held := some { r with exceptionMark := r.exceptionMark || route == .exception }
      close := some { c with route := some route } } }

theorem toReady_eq (hh : s.tray.held = some r) (hc : s.tray.close = some c) : toReady s = tryEject (readied s r c) := by
  simp [toReady, hh, hc, readied]

theorem toReady_waits (hh : s.tray.held = some r) (hc : s.tray.close = some c)
    (h : active s = false ∨ s.tower.phase ≠ .idle) : toReady s = readied s r c := by
  rw [toReady_eq hh hc]
  exact tryEject_of_not (.inr h.symm)

theorem toReady_ejects (hh : s.tray.held = some r) (hc : s.tray.close = some c) (ha : active s = true)
    (ht : s.tower.phase = .idle) : toReady s = { readied s r c with
      tray := { (readied s r c).tray with phase := .ejecting }
      tower := { s.tower with phase := .receiving }
      timers := { s.timers with eject := some 30000 } } := by
  rw [toReady_eq hh hc]
  exact tryEject_of_idle rfl ht ha

/-! ## The staple decision (R95) -/

theorem staplerServes_iff (asked height : Nat) : staplerServes s asked height = true ↔
    (s.stapler.phase = .ready ∨ s.stapler.phase = .recovering) ∧ asked ≤ s.stapler.cartridge ∧ height ≤ 520 := by
  have hmax : Config.maxStapleHeight = 520 := rfl
  rw [← hmax]
  cases h : s.stapler.phase <;> simp [staplerServes, h]

/-- R95: the state with the staples asked of the segment. -/
def askedState (s : State) (c : SegClose) (asked : Nat) : State :=
  { s with tray := { s.tray with close := some { c with asked := asked } } }

/-- R5: the staples the plan of the set asks for. -/
def staplesAsked (s : State) (r : SetRec) : Nat := (planOf s r.plan).stapleMode.count

theorem stapleDecision_eq (hh : s.tray.held = some r) (hc : s.tray.close = some c) : stapleDecision s =
    if staplesAsked s r = 0 then toReady (askedState s c (staplesAsked s r))
    else if staplerServes s (staplesAsked s r) r.trayHeight then requestFire (askedState s c (staplesAsked s r)) r
    else toReady (markUnstapled (askedState s c (staplesAsked s r)) false) := by
  simp only [stapleDecision, staplesAsked, askedState, hh, hc, Option.map_some]
  rfl

theorem markUnstapled_askedState (asked : Nat) (hh : s.tray.held = some r) :
    markUnstapled (askedState s c asked) false = { askedState s c asked with tray := { s.tray with
      held := some { r with flags := { r.flags with unstapled := true } }
      close := some { c with asked := asked, unstapled := true } } } := by
  have hclose : (askedState s c asked).tray.close = some { c with asked := asked } := rfl
  rw [markUnstapled_eq (s := askedState s c asked) false hh hclose, Bool.or_false]
  rfl

theorem stapleDecision_unasked (hh : s.tray.held = some r) (hc : s.tray.close = some c) (h0 : staplesAsked s r = 0) :
    stapleDecision s = toReady (askedState s c (staplesAsked s r)) := by
  rw [stapleDecision_eq hh hc, if_pos h0]

theorem stapleDecision_served (hh : s.tray.held = some r) (hc : s.tray.close = some c) (h1 : 1 ≤ staplesAsked s r)
    (hs : staplerServes s (staplesAsked s r) r.trayHeight = true) :
    stapleDecision s = requestFire (askedState s c (staplesAsked s r)) r := by
  rw [stapleDecision_eq hh hc, if_neg (Nat.ne_of_gt h1), if_pos hs]

theorem stapleDecision_unserved (hh : s.tray.held = some r) (hc : s.tray.close = some c) (h1 : 1 ≤ staplesAsked s r)
    (hs : ¬staplerServes s (staplesAsked s r) r.trayHeight = true) :
    stapleDecision s = toReady (markUnstapled (askedState s c (staplesAsked s r)) false) := by
  rw [stapleDecision_eq hh hc, if_neg (Nat.ne_of_gt h1), if_neg hs]

/-! ## The split and the hand-over (R93, R94, R98) -/

/-- R91: the state at the start of a close of the kind. -/
def closing (s : State) (kind : CloseKind) : State :=
  { s with tray := { s.tray with phase := .stapling, close := some (SegClose.start kind) } }

theorem trayBound_isEmpty_eq_false_iff :
    (trayBound s).isEmpty = false ↔ ∃ x ∈ s.path.entries, x.purpose = .tray ∧ x.state ≠ .toPurge := by
  rw [← Bool.not_eq_true, trayBound_isEmpty_iff]
  simp

theorem beginSplit_eq :
    beginSplit s = if (trayBound s).isEmpty then stapleDecision (closing s .split) else closing s .split := rfl

theorem elevatorHoldsEarlier_iff (job seat : Nat) : elevatorHoldsEarlier s job seat = true ↔
    ∃ g, s.tower.carried = some g ∧ g.final = false ∧ g.job = job ∧ g.seat = seat := by
  cases h : s.tower.carried <;> simp [elevatorHoldsEarlier, h, and_assoc]

theorem closeFinal_eq : closeFinal s r =
    if r.traySheets = 0 then
      if elevatorHoldsEarlier s r.job r.seat then closing s .final else emptyOutcome s r
    else stapleDecision (closing s .final) := rfl

/-! ## The empty outcome (R14, R17, R98) -/

/-- R98: the state with the tray EMPTY and the outcome accounted. -/
def emptied (s : State) (r : SetRec) : State := accountEmpty { s with tray := Tray.empty } r.job r.seat r.flags

theorem emptyOutcome_eq : emptyOutcome s r = applyReleased (dropRefs (removeClosed
    (notify (emptied s r) r.replyTag r.job (.setEmpty r.seat r.segment r.totalSheets r.flags))) r.plan r.cls) := rfl

theorem emptied_eq : emptied s r = { s with tray := Tray.empty, jobs := (emptied s r).jobs } := by
  unfold emptied accountEmpty accountOutcome addReprint
  dsimp only
  split <;> rfl

theorem findJob_changeJob {n : Nat} {f : Job → Job} (hf : ∀ j, (f j).number = j.number) :
    findJob (changeJob s n f) n = (findJob s n).map f := by
  simp only [findJob, changeJob]
  induction s.jobs with
  | nil => rfl
  | cons j js ih => by_cases hj : j.number = n <;> simp_all

theorem Job_withSeat_eq (j : Job) {seat : Nat} (st : SeatStatus) (h1 : 1 ≤ seat) :
    j.withSeat seat st = { j with seats := j.seats.set (seat - 1) st } := by
  simp [Job.withSeat, Nat.ne_of_gt h1, changeAt_eq_modify, List.set_eq_modify]

theorem Job_addReprint_eq (j : Job) {seat : Nat} (h1 : 1 ≤ seat) (h : seat ≤ j.seats.length) :
    j.addReprint seat = { j with reprint := if seat ∈ j.reprint then j.reprint else j.reprint ++ [seat] } := by
  by_cases hm : seat ∈ j.reprint <;> simp [Job.addReprint, hm, Nat.ne_of_gt h1, Nat.not_lt.2 h]


theorem seatLive_emptied (job seat : Nat) :
    seatLive (emptied s r) job seat = seatLive { s with tray := Tray.empty } job seat := by
  rw [emptied_eq]
  rfl

/-- R14: the record of the job after the outcome of one of its sets, the seat being one of the job's. -/
theorem findJob_accountOutcome {j : Job} {n seat : Nat} (hj : findJob s n = some j) (h1 : 1 ≤ seat)
    (st : SeatStatus) : findJob (accountOutcome s n seat st .exception) n = some { j with
      exceptions := min 65535 (j.exceptions + 1)
      seats := if seatLive s n seat then j.seats else j.seats.set (seat - 1) st } := by
  have hnumber (x : Job) :
      (if seatLive s n seat then x.raise .exception else (x.raise .exception).withSeat seat st).number = x.number := by
    split <;> simp [Job.raise, Job_withSeat_eq _ _ h1]
  rw [accountOutcome, findJob_changeJob hnumber, hj]
  cases seatLive s n seat <;> simp [Job.raise, Job_withSeat_eq _ _ h1, satSucc, Config.countTop]

theorem Job_addReprint_number (j : Job) (seat : Nat) : (j.addReprint seat).number = j.number := by
  unfold Job.addReprint
  split <;> rfl

/-- R14, R17, R98: the record of the job after the empty outcome of one of its sets. -/
theorem findJob_emptied {j : Job} (hj : findJob s r.job = some j) (h1 : 1 ≤ r.seat) (hs : r.seat ≤ j.seats.length) :
    findJob (emptied s r) r.job = some { j with
      exceptions := min 65535 (j.exceptions + 1)
      seats := if seatLive (emptied s r) r.job r.seat = true then j.seats else j.seats.set (r.seat - 1) .exception
      reprint := if r.flags.incomplete = true ∧ r.seat ∉ j.reprint then j.reprint ++ [r.seat] else j.reprint } := by
  have hout := findJob_accountOutcome (s := { s with tray := Tray.empty }) hj h1 .exception
  rw [seatLive_emptied, emptied, accountEmpty]
  cases hi : r.flags.incomplete with
  | false => simpa [hi] using hout
  | true =>
    simp only [if_true]
    rw [addReprint, findJob_changeJob (fun x => Job_addReprint_number x r.seat), hout, Option.map_some, Job_addReprint_eq _ h1 (by dsimp only; split <;> simpa using hs)]
    by_cases hm : r.seat ∈ j.reprint <;> simp [hm]

end Sys2Proof.Machine.SetAssembly
end

section
/-!
PROOFS. Fires, jams and the tray's close together.
-/
namespace Sys2Proof.Machine.SetAssembly

/-- Settles O47: the stapler's reports, and then the tray's close step by step. -/
theorem firesCompleteOrJam : Obligations.FiresCompleteOrJam := by
  unfold Obligations.FiresCompleteOrJam
  intro s staplesLow fired jammed told owner
  refine ⟨completion_outcome, fun hp hno => ?_, fun o r c hp ho ht hh hc => ?_, exec_staplerCompletion_ignored,
    fun n o hn ho => ⟨jam_outcome hn ho, fun hno => ?_, fun r c ht hh hc => ?_⟩, fun r hh => ?_⟩
  · -- R99: the tray is not told
    rw [exec_staplerCompletion_firing hp, reportTaken_of_not_told hno]
    rfl
  · -- R96: the tray is told of a fire
    rw [exec_staplerCompletion_firing hp, reportTaken_of_told ho ht, if_pos rfl,
      reportFired_eq (by simpa [firedState_tray] using hh) (by simpa [firedState_tray] using hc), firedState_tray]
    refine ⟨fun h => ?_, fun h => ?_⟩
    · rw [if_pos h]
      rfl
    · rw [if_neg (Nat.not_le.2 h), requestFire_recovering (by simp [firedState_stapler])]
      rfl
  · -- R100: the tray is not told
    have hnone : ∀ x, s.stapler.owner = some x → ¬Told s x := fun x hx =>
      Option.some.inj (ho.symm.trans hx) ▸ hno
    rw [exec_completionTimerExpiry hn ho, reportTaken_of_not_told hnone]
    rfl
  · -- R96: the tray is told of a jam
    rw [exec_completionTimerExpiry hn ho, reportTaken_of_told ho ht, if_pos rfl, reportJam,
      markUnstapled_eq true (by simpa using hh) (by simpa using hc)]
    simp [jammed, jamStapler, replyTagOf]
  intro plan asked serves _
  have hserves : staplerServes s (staplesAsked s r) r.trayHeight = true ↔ serves := staplerServes_iff _ _
  refine ⟨fun c hc => ⟨fun h => ?_, fun ha ht => ?_, stapleDecision_unasked hh hc, fun h1 hs hp => ?_,
    fun h1 hs hp => ?_, fun h1 hs => ?_⟩, ?_, fun h1 => ?_, fun h0 he => ?_, fun h0 he => ?_⟩
  · -- R97
    rw [toReady_waits hh hc h, readied, segmentRoute_eq]
  · -- R97, R102
    rw [toReady_ejects hh hc ha ht, readied, segmentRoute_eq]
  · -- R95: a fire at once
    rw [stapleDecision_served hh hc h1 (hserves.2 hs)]
    exact requestFire_ready hp
  · -- R95: a fire after the recovery window
    rw [stapleDecision_served hh hc h1 (hserves.2 hs)]
    exact requestFire_recovering hp
  · -- R95: no staples
    rw [stapleDecision_unserved hh hc h1 (mt hserves.1 hs), markUnstapled_askedState _ hh]
    rfl
  · -- R93, R94
    refine ⟨fun hb => ?_, fun hb => ?_⟩
    · rw [beginSplit_eq, trayBound_isEmpty_eq_false_iff.2 hb]
      rfl
    · rw [beginSplit_eq, if_pos (by simpa using mt trayBound_isEmpty_eq_false_iff.1 hb)]
      rfl
  · -- R55
    rw [closeFinal_eq, if_neg (Nat.ne_of_gt h1)]
    rfl
  · -- R98: an earlier segment is still in the elevator
    rw [closeFinal_eq, if_pos h0, if_pos ((elevatorHoldsEarlier_iff _ _).2 he)]
    rfl
  · -- R98: the empty outcome
    have hclose : closeFinal s r = emptyOutcome s r := by
      rw [closeFinal_eq, if_pos h0, if_neg (mt (elevatorHoldsEarlier_iff _ _).1 he)]
    refine ⟨hclose, emptied s r, hclose.trans emptyOutcome_eq, emptied_eq, fun hnodup j hj hn h1 hs => ?_⟩
    exact findJob_emptied (hn ▸ findJob_mem hnodup hj) h1 hs

end Sys2Proof.Machine.SetAssembly
end

section
/-!
PROOFS. The parking shelf: the preemption check (R59, R60, R62), the shelf's two motions (R62, R63, R68) and the timers
whose expiry raises a fault.
-/
namespace Sys2Proof.Machine.ParkingShelf

open SetAssembly

section Lemmas
variable {s t : State} {r : SetRec}

/-! ## The preemption check (R59, R60) -/

theorem openingPriority_eq_some_iff {l : Link} {p : Nat} : openingPriority s l = some p ↔
    ∃ e j, headOf s l = some e ∧ headClass s l = some .setOpening ∧ findJob s e.desc.job = some j ∧ j.priority = p := by
  unfold openingPriority
  split
  next e hc he => simp [hc, he]
  next hno =>
    have hnot : ∀ e, headOf s l = some e → headClass s l ≠ some .setOpening := fun e he hc => hno e hc he
    constructor
    · simp
    · rintro ⟨e, j, he, hc, -⟩
      exact absurd hc (hnot e he)

/-- R60: a head outranks a priority by the priority of its job. -/
theorem outranks_iff {l : Link} {p : Nat} : outranks s l p = true ↔
    ∃ e j, headOf s l = some e ∧ headClass s l = some .setOpening ∧ findJob s e.desc.job = some j ∧ p < j.priority := by
  have hpriority : outranks s l p = true ↔ ∃ q, openingPriority s l = some q ∧ p < q := by
    unfold outranks
    split <;> simp_all
  rw [hpriority]
  constructor
  · rintro ⟨q, hq, hlt⟩
    obtain ⟨e, j, he, hc, hj, rfl⟩ := openingPriority_eq_some_iff.1 hq
    exact ⟨e, j, he, hc, hj, hlt⟩
  · rintro ⟨e, j, he, hc, hj, hlt⟩
    exact ⟨j.priority, openingPriority_eq_some_iff.2 ⟨e, j, he, hc, hj, rfl⟩, hlt⟩

theorem exists_link_iff {P : Link → Prop} : (∃ l, P l) ↔ P .a ∨ P .b :=
  ⟨fun ⟨l, h⟩ => by cases l with | a => exact .inl h | b => exact .inr h, fun h => h.elim (⟨_, ·⟩) (⟨_, ·⟩)⟩

theorem preempts_iff : preempts s r = true ↔
    (planOf s r.plan).parkPermitted = true ∧ s.shelf.stack.length < 2 ∧ r.trayHeight ≤ 600 ∧
      ∃ l, outranks s l r.priority = true := by
  simp only [preempts, Bool.and_eq_true, Bool.or_eq_true, decide_eq_true_eq, exists_link_iff, and_assoc]
  rfl

/-- R59: an assembling set is at a sheet boundary with no grant outstanding and no tray-bound sheet. -/
theorem boundarySet_eq_some_iff (h : assemblingSet s = some r) :
    boundarySet s = some r ↔ s.grant = none ∧ (trayBound s).isEmpty = true := by
  simp [boundarySet, h]

theorem assemblingSet_of_boundarySet (h : boundarySet s = some r) : assemblingSet s = some r := by
  unfold boundarySet at h
  split at h <;> simp_all

theorem preempt_of_parks (hb : boundarySet s = some r) (hp : preempts s r = true) : preempt s = beginPark s := by
  simp [preempt, hb, hp]

/-- R59: the check parks a set only at its sheet boundary and with R60's conditions. -/
theorem preempt_cases : preempt s = s ∨ ∃ r, boundarySet s = some r ∧ preempts s r = true := by
  unfold preempt
  split
  next r hb =>
    split
    next hp => exact .inr ⟨r, hb, hp⟩
    next => exact .inl rfl
  next => exact .inl rfl

theorem preempt_of_not_assembling (h : assemblingSet s = none) : preempt s = s :=
  preempt_cases.resolve_right fun ⟨_, hb, _⟩ => by simp [assemblingSet_of_boundarySet hb] at h

theorem preempt_of_stays (h : assemblingSet s = some r)
    (hno : ¬(s.grant = none ∧ (trayBound s).isEmpty = true ∧ preempts s r = true)) : preempt s = s := by
  refine preempt_cases.resolve_right fun ⟨r', hb, hp⟩ => hno ?_
  obtain rfl : r = r' := Option.some.inj (h.symm.trans (assemblingSet_of_boundarySet hb))
  obtain ⟨hg, ht⟩ := (boundarySet_eq_some_iff h).1 hb
  exact ⟨hg, ht, hp⟩

/-! ## Shelf-up and shelf-down (R62, R63, R68) -/

/-- Whatever else the part looks at, the stack stays as the event has left it. -/
theorem settle_stack : (settle s).shelf.stack = s.shelf.stack :=
  (settle_onward s).stack.trans (by simp)

theorem sameBesides_trans {u : State} (h : s.SameBesides t) (g : t.SameBesides u) : s.SameBesides u :=
  ⟨g.fault.trans h.fault, g.retentionValid.trans h.retentionValid, g.straps.trans h.straps, g.pins.trans h.pins,
    g.stacker.trans h.stacker, g.pockets.trans h.pockets, g.path.trans h.path, g.races.trans h.races,
    g.pending.trans h.pending⟩

theorem sameBesides_endPark : s.SameBesides (endPark s r) := by constructor <;> simp

theorem sameBesides_endUnpark (rest : List SetRec) : s.SameBesides (endUnpark s r rest) := by constructor <;> simp

theorem exec_shelfUp_lifting (hm : s.shelf.motion = .lifting) (hh : s.tray.held = some r) :
    exec .shelfUp s = .next (settle (endPark s r)) := by
  have harm : exec .shelfUp s = execShelfUp s := rfl
  simp [harm, execShelfUp, hm, hh]

theorem exec_shelfUp_ignored (hm : s.shelf.motion ≠ .lifting) : exec .shelfUp s = .next s := by
  have harm : exec .shelfUp s = execShelfUp s := rfl
  rw [harm, execShelfUp]
  split
  next hl _ => exact absurd hl hm
  next => rfl

theorem exec_shelfDown_lowering {rest : List SetRec} (hm : s.shelf.motion = .lowering)
    (hs : s.shelf.stack = r :: rest) : exec .shelfDown s = .next (settle (endUnpark s r rest)) := by
  have harm : exec .shelfDown s = execShelfDown s := rfl
  simp [harm, execShelfDown, hm, hs]

theorem exec_shelfDown_ignored (hm : s.shelf.motion ≠ .lowering) : exec .shelfDown s = .next s := by
  have harm : exec .shelfDown s = execShelfDown s := rfl
  rw [harm, execShelfDown]
  split
  next hl _ => exact absurd hl hm
  next => rfl

/-! ## The expiries that raise faults -/

theorem exec_motionTimerExpiry {n : Nat} (h : s.timers.motion = some n) :
    exec .motionTimerExpiry s = .next (raiseFault s FaultCause.shelfJam.plain) := by
  have harm : exec .motionTimerExpiry s = execMotionTimerExpiry s := rfl
  simp [harm, execMotionTimerExpiry, h]

theorem exec_ejectTimerExpiry {n : Nat} (h : s.timers.eject = some n) :
    exec .ejectTimerExpiry s = .next (raiseFault s FaultCause.towerJam.plain) := by
  have harm : exec .ejectTimerExpiry s = execEjectTimerExpiry s := rfl
  simp [harm, execEjectTimerExpiry, h]

theorem exec_deliveryTimerExpiry {n : Nat} (h : s.timers.delivery = some n) :
    exec .deliveryTimerExpiry s = .next (raiseFault s FaultCause.towerJam.plain) := by
  have harm : exec .deliveryTimerExpiry s = execDeliveryTimerExpiry s := rfl
  simp [harm, execDeliveryTimerExpiry, h]

theorem exec_warmupTimerExpiry {n : Nat} (h : s.timers.warmup = some n) :
    exec .warmupTimerExpiry s = .next (raiseFault s FaultCause.warmup.plain) := by
  have harm : exec .warmupTimerExpiry s = execWarmupTimerExpiry s := rfl
  simp [harm, execWarmupTimerExpiry, h]

theorem timedSession_of_timer {z : Session} {k : SessionTimer} {n : Nat} (hz : s.session = some z)
    (ht : z.timer = some (k, n)) : timedSession s k = some z := by
  simp [timedSession, hz, ht]

theorem exec_positioningTimerExpiry {z : Session} (h : timedSession s .positioning = some z) :
    exec .positioningTimerExpiry s = .next (raiseFault s FaultCause.towerJam.plain) := by
  have harm : exec .positioningTimerExpiry s = execPositioningTimerExpiry s := rfl
  simp [harm, execPositioningTimerExpiry, h]

end Lemmas

/-- Settles O44: the check through the sheet boundary and R60's conditions, then the shelf's two events. -/
theorem shelfMovesTheSet : Obligations.ShelfMovesTheSet := by
  unfold Obligations.ShelfMovesTheSet
  intro s
  refine ⟨fun r hp hh hc ha hr => ?_, fun hno => ?_, fun r hm hh => ?_, exec_shelfUp_ignored,
    fun r rest hm hs => ?_, exec_shelfDown_ignored⟩
  · -- R59, R60, R62
    intro holds
    have hset : assemblingSet s = some r := assemblingSet_eq_some_iff.2 ⟨hp, hh, by simp [hc], ha, hr⟩
    have hparks : (s.grant = none ∧ (trayBound s).isEmpty = true ∧ preempts s r = true) ↔ holds := by
      simp only [trayBound_isEmpty_iff, preempts_iff, outranks_iff, holds]
    refine ⟨fun h => ?_, fun h => preempt_of_stays hset (mt hparks.1 h)⟩
    obtain ⟨hg, ht, hpre⟩ := hparks.2 h
    exact preempt_of_parks ((boundarySet_eq_some_iff hset).2 ⟨hg, ht⟩) hpre
  · -- R59: no set is assembling
    refine preempt_of_not_assembling (Option.eq_none_iff_forall_ne_some.2 fun r h => ?_)
    obtain ⟨hp, -, -, -, hr⟩ := assemblingSet_eq_some_iff.1 h
    simp [hp, hr] at hno
  · -- R62
    have hexec := exec_shelfUp_lifting hm hh
    exact ⟨hexec, _, hexec, sameBesides_trans sameBesides_endPark sameBesides_settle, settle_stack⟩
  · -- R63
    have hexec := exec_shelfDown_lowering hm hs
    exact ⟨hexec, _, hexec, sameBesides_trans (sameBesides_endUnpark rest) sameBesides_settle, settle_stack⟩

/-- Settles O41: each timer's expiry, while it runs, by the equation of its command. -/
theorem timerExpiriesRaiseFaults : Obligations.TimerExpiriesRaiseFaults := by
  unfold Obligations.TimerExpiriesRaiseFaults
  intro s _ raised
  refine ⟨fun h => ?_, fun h => ?_, fun h => ?_, fun h => ?_, fun z n hz ht => ?_⟩
  · obtain ⟨n, hn⟩ := Option.ne_none_iff_exists'.1 h
    exact exec_motionTimerExpiry hn
  · obtain ⟨n, hn⟩ := Option.ne_none_iff_exists'.1 h
    exact exec_ejectTimerExpiry hn
  · obtain ⟨n, hn⟩ := Option.ne_none_iff_exists'.1 h
    exact exec_deliveryTimerExpiry hn
  · obtain ⟨n, hn⟩ := Option.ne_none_iff_exists'.1 h
    exact exec_warmupTimerExpiry hn
  · exact exec_positioningTimerExpiry (timedSession_of_timer hz ht)

end Sys2Proof.Machine.ParkingShelf
end

section
/-!
PROOFS. The sheet path: the clock of an idle part (R71), the edges that are not taken (R72), trail captures (R76, R77),
the faults of missed and unmatched arrivals (R86, R87), and the two emptied events (R89, R111).
-/
namespace Sys2Proof.Machine.SheetPath

open SetAssembly

section Lemmas
variable {s : State} {l : Link}

/-! ## The edges that are taken (R72) -/

theorem entryTaken_eq_false_iff : entryTaken s l = false ↔ active s = false ∨ linkPresent s l = false := by
  simp only [entryTaken, Bool.and_eq_false_iff]

@[simp] theorem entryTaken_senseEntry (b : Bool) : entryTaken (senseEntry s l b) l = entryTaken s l := by
  have hactive : active (senseEntry s l b) = active s := active_congr (by simp)
  have hpresent : linkPresent (senseEntry s l b) l = linkPresent s l := linkPresent_congr l (by simp)
  simp [entryTaken, hactive, hpresent]

theorem exitTaken_congr {t : State} (h : t.run = s.run) : exitTaken t = exitTaken s := by simp [exitTaken, h]

theorem exitTaken_eq_true_iff : exitTaken s = true ↔ active s = true ∨ s.run = .warming := by
  cases h : s.run <;> simp [exitTaken, active, h]

theorem exitTaken_eq_false_iff : exitTaken s = false ↔ s.run = .standby ∨ s.run = .faulted := by
  cases h : s.run <;> simp [exitTaken, h]

theorem exec_leadCapture_untaken (tick : Tick) (h : entryTaken s l = false) :
    exec (.leadCapture l tick) s = .next (senseEntry s l true) := by
  have harm : exec (.leadCapture l tick) s = execLeadCapture l tick s := rfl
  simp [harm, execLeadCapture, h]

theorem exec_trailCapture_untaken (tick : Tick) (h : entryTaken s l = false) :
    exec (.trailCapture l tick) s = .next (senseEntry s l false) := by
  have harm : exec (.trailCapture l tick) s = execTrailCapture l tick s := rfl
  simp [harm, execTrailCapture, h]

/-- The part with the line of ST sensed as covered. -/
def atSt (s : State) : State := { s with pins := { s.pins with stCovered := true } }

/-- The part with the line of SP sensed as covered. -/
def atSp (s : State) : State := { s with pins := { s.pins with spCovered := true } }

theorem exec_stLeadEdge_untaken (h : exitTaken s = false) : exec .stLeadEdge s = .next (atSt s) := by
  have harm : exec .stLeadEdge s = execStLeadEdge s := rfl
  have hno : exitTaken { s with pins := { s.pins with stCovered := true } } = false := (exitTaken_congr rfl).trans h
  simp [harm, execStLeadEdge, hno, atSt]

theorem exec_spLeadEdge_untaken (h : exitTaken s = false) : exec .spLeadEdge s = .next (atSp s) := by
  have harm : exec .spLeadEdge s = execSpLeadEdge s := rfl
  have hno : exitTaken { s with pins := { s.pins with spCovered := true } } = false := (exitTaken_congr rfl).trans h
  simp [harm, execSpLeadEdge, hno, atSp]

/-! ## Trail captures (R76, R77) -/

theorem changeFirst_of_none {α : Type} {p : α → Bool} (f : α → α) :
    ∀ {xs : List α}, (∀ x ∈ xs, p x = false) → changeFirst p f xs = xs := by
  intro xs
  induction xs with
  | nil => simp [changeFirst]
  | cons x xs ih =>
    intro h
    simp [changeFirst, h x (by simp), ih (fun y hy => h y (by simp [hy]))]

/-- R76: the entry is of link `l` and has no trail tick yet. -/
def awaitsTrail (l : Link) (e : PathEntry) : Bool := e.link == l && e.trail.isNone

theorem awaitsTrail_eq_true_iff {e : PathEntry} : awaitsTrail l e = true ↔ e.link = l ∧ e.trail = none := by
  simp [awaitsTrail]

theorem awaitsTrail_eq_false_iff {e : PathEntry} : awaitsTrail l e = false ↔ e.link ≠ l ∨ e.trail ≠ none := by
  rw [← Bool.not_eq_true, awaitsTrail_eq_true_iff, not_and_or]

/-- R76: the part after a trail capture that is taken, with the path's entries `es`. -/
def trailSeen (s : State) (l : Link) (tick : Tick) (es : List PathEntry) : State :=
  { s with
    path := { s.path with timer := tick, entries := es }
    timers := s.timers.elapse (tick - s.path.timer).toNat
    session := s.session.map (fun z =>
      { z with timer := z.timer.map (fun x => (x.1, x.2 - (tick - s.path.timer).toNat)) })
    pins := (senseEntry s l false).pins }

theorem exec_trailCapture_taken (tick : Tick) (ha : active s = true) (hl : linkPresent s l = true) :
    exec (.trailCapture l tick) s = .next (trailSeen s l tick
      (changeFirst (awaitsTrail l) (PathEntry.seeTrail s.tables.transport.active.speed tick) s.path.entries)) := by
  have harm : exec (.trailCapture l tick) s = execTrailCapture l tick s := rfl
  have htaken : entryTaken s l = true := by simp [entryTaken, ha, hl]
  have hactive : active (senseEntry s l false) = true := (active_congr (by simp)).trans ha
  simp only [harm, execTrailCapture, entryTaken_senseEntry, htaken, if_true, matchTrail, advanceTo_eq _ hactive]
  rfl

/-- R77: the measured length in mm is the span's length rounded to nearest. -/
theorem measure_bounds (speed span : Nat) :
    20000 * measure speed span ≤ 2 * span * speed + 10000 ∧
      2 * span * speed + 10000 < 20000 * (measure speed span + 1) := by
  simp only [measure, roundDiv, Nat.mul_assoc]
  omega

theorem seeTrail_unmeasured {e : PathEntry} (speed : Nat) (t : Tick) (h : e.state ≠ .preGate ∨ e.desc = none) :
    e.seeTrail speed t = { e with trail := some t } := by
  unfold PathEntry.seeTrail
  split
  next d hs hd => simp [hs, hd] at h
  next => rfl

theorem seeTrail_measured {e : PathEntry} {d : Desc} (speed : Nat) (t : Tick) (hs : e.state = .preGate)
    (hd : e.desc = some d) :
    e.seeTrail speed t = { e with
      trail := some t
      measured := some (measure speed (t - e.lead).toNat)
      length := some (judgeLength (feedLength d.size) (measure speed (t - e.lead).toNat)) } := by
  simp [PathEntry.seeTrail, hs, hd]

/-! ## Missed deadlines and unmatched edges (R86, R87) -/

theorem awaited_eq {st : PathState} (h : st ≠ .preGate) : awaited st = some (if st = .toTray then .st else .sp) := by
  cases st with
  | preGate => exact absurd rfl h
  | toTray | toPurge => rfl

/-- R87: the part at the reached deadline of the entry at position `i`. -/
def atDeadline (s : State) (i : Nat) (deadline : Tick) : State :=
  let t := advanceTo deadline s
  { t with path := { t.path with entries := changeAt i (fun x => { x with overdue := true }) t.path.entries } }

theorem atDeadline_path {i : Nat} {e : PathEntry} (deadline : Tick) (ha : active s = true)
    (he : s.path.entries[i]? = some e) : (atDeadline s i deadline).path =
      { s.path with timer := deadline, entries := s.path.entries.set i { e with overdue := true } } := by
  simp [atDeadline, advanceTo_path s deadline ha, changeAt_eq_set _ i _ e he]

theorem exec_arrivalDeadline_reached {i : Nat} {e : PathEntry} {deadline : Tick} (ha : active s = true)
    (he : s.path.entries[i]? = some e) (hd : e.deadline = some deadline) (ho : e.overdue = false) :
    exec (.arrivalDeadline i) s = .next (raiseFault (atDeadline s i deadline)
      { cause := .pathJam, sensor := awaited e.state, link := some e.link, tag := e.desc.map (·.tag) }) := by
  have harm : exec (.arrivalDeadline i) s = execArrivalDeadline i s := rfl
  simp [harm, execArrivalDeadline, he, hd, deadlineLive, ho, ha, missDeadline, atDeadline]

theorem run_ne_faulted_of_exitTaken (h : exitTaken s = true) : s.run ≠ .faulted := by
  intro hr
  simp [exitTaken, hr] at h

/-- R86: what a SENSOR fault raised in a working part comes to. -/
theorem sensorFault_working (x : PathSensor) (h : s.run ≠ .faulted) :
    (sensorFault s x).run = .faulted ∧ (sensorFault s x).path = s.path ∧ (sensorFault s x).fault =
      { s.fault with first := some { cause := .sensor, sensor := some x, link := none, tag := none } } := by
  obtain ⟨hrun, hfault, -⟩ := raiseFault_working { cause := .sensor, sensor := some x, link := none, tag := none } h
  exact ⟨hrun, by simp, hfault⟩

theorem exec_stLeadEdge_unmatched (h : exitTaken s = true) (hno : ∀ x ∈ s.path.entries, x.state ≠ .toTray) :
    exec .stLeadEdge s = .next (sensorFault (atSt s) .st) := by
  have harm : exec .stLeadEdge s = execStLeadEdge s := rfl
  have htaken : exitTaken { s with pins := { s.pins with stCovered := true } } = true := (exitTaken_congr rfl).trans h
  have hnone : takeFirst (fun e => e.state == .toTray) s.path.entries = none :=
    takeFirst_none _ _ (by simpa using hno)
  simp [harm, execStLeadEdge, htaken, hnone, atSt]

theorem exec_spLeadEdge_unmatched (h : exitTaken s = true) (hno : ∀ x ∈ s.path.entries, x.state ≠ .toPurge) :
    exec .spLeadEdge s = .next (sensorFault (atSp s) .sp) := by
  have harm : exec .spLeadEdge s = execSpLeadEdge s := rfl
  have htaken : exitTaken { s with pins := { s.pins with spCovered := true } } = true := (exitTaken_congr rfl).trans h
  have hnone : takeFirst (fun e => e.state == .toPurge) s.path.entries = none :=
    takeFirst_none _ _ (by simpa using hno)
  simp [harm, execSpLeadEdge, htaken, hnone, atSp]

/-! ## The emptied events (R89, R111) -/

/-- R112: the retry is made in RUNNING and HALTING only. -/
theorem retry_of_stopped (h : active s = false) : retry s = s := by
  unfold retry
  split <;> simp [h]

/-- A still part stays still through changes of other fields than its run state and its session. -/
theorem still_congr {t : State} (h : s.still) (hr : t.run = s.run) (hz : t.session = s.session) : t.still :=
  ⟨(active_congr hr).trans h.1, hz.trans h.2⟩

end Lemmas

/-- Settles O35: the state after a taken trail edge, with the path's first awaiting entry changed or none. -/
theorem trailCaptureMeasuresTheSheet : Obligations.TrailCaptureMeasuresTheSheet := by
  unfold Obligations.TrailCaptureMeasuresTheSheet
  refine ⟨fun s l tick ha hl hno => ?_, fun s l tick before after e ha hl hs hb hlink htrail => ?_⟩
  · -- R76: no entry awaits the edge
    have hsame := changeFirst_of_none (PathEntry.seeTrail s.tables.transport.active.speed tick)
      fun x hx => awaitsTrail_eq_false_iff.2 (hno x hx)
    dsimp only
    rw [exec_trailCapture_taken tick ha hl, hsame]
    rfl
  · intro expected span
    have hfirst := changeFirst_append (awaitsTrail l) (PathEntry.seeTrail s.tables.transport.active.speed tick) e after
      (awaitsTrail_eq_true_iff.2 ⟨hlink, htrail⟩) before fun x hx => awaitsTrail_eq_false_iff.2 (hb x hx)
    refine ⟨_, e.seeTrail s.tables.transport.active.speed tick, exec_trailCapture_taken tick ha hl, ?_,
      seeTrail_unmeasured _ tick, fun d hpre hd => ?_, rfl, rfl, rfl, rfl⟩
    · rw [hs, hfirst]
      rfl
    · -- R77
      obtain ⟨hle, hlt⟩ := measure_bounds s.tables.transport.active.speed span
      refine ⟨_, hle, hlt, ?_⟩
      rw [seeTrail_measured _ tick hpre hd, feedLength_eq]
      rfl

/-- Settles O37: each event is a fault raised in a part that was not FAULTED, with the path as the event left it. -/
theorem pathFaults : Obligations.PathFaults := by
  unfold Obligations.PathFaults
  refine fun s => ⟨fun i e deadline ha he hd ho hst => ?_, fun hrun => ?_⟩
  · -- R87
    intro missed
    have hworks : (atDeadline s i deadline).run ≠ .faulted := by
      simpa [atDeadline] using run_ne_faulted_of_active ha
    have hexec := exec_arrivalDeadline_reached ha he hd ho
    rw [awaited_eq hst] at hexec
    obtain ⟨hfaulted, hfault, -⟩ := raiseFault_working missed hworks
    exact ⟨_, hexec, hfaulted, hfault.trans (by simp [atDeadline]), by simp [atDeadline_path deadline ha he]⟩
  · -- R86
    intro at'
    have htaken : exitTaken s = true := exitTaken_eq_true_iff.2 hrun
    have hworks := run_ne_faulted_of_exitTaken htaken
    exact ⟨fun hno => ⟨_, exec_stLeadEdge_unmatched htaken hno, sensorFault_working (s := atSt s) .st hworks⟩,
      fun hno => ⟨_, exec_spLeadEdge_unmatched htaken hno, sensorFault_working (s := atSp s) .sp hworks⟩⟩

/-- Settles O39: what `settle` and the retry leave of the event's own change. -/
theorem emptiedBinAndStacker : Obligations.EmptiedBinAndStacker := by
  unfold Obligations.EmptiedBinAndStacker
  intro s bin stacker
  refine ⟨⟨settle bin, rfl, rfl, by simp [bin], by simp [bin], by simp [bin], by simp [bin], fun h => ?_⟩,
    ⟨settle (retry stacker), rfl, rfl, by simp [stacker], by simp [stacker], by simp [stacker], fun h => ?_⟩⟩
  · exact settle_of_still (still_congr h (by simp [bin]) (by simp [bin]))
  · have hstill : stacker.still := still_congr h (by simp [stacker]) (by simp [stacker])
    rw [retry_of_stopped hstill.1, settle_of_still hstill]

/-- Settles O2: with nothing due the step is the passing of one tick, whose fields `elapse` gives. -/
theorem idleStepLetsOneTickPass : Obligations.IdleStepLetsOneTickPass := by
  unfold Obligations.IdleStepLetsOneTickPass
  intro s hq hd
  have hstep : step s = .next (elapse 1 s) := by simp [step, hq, selfStep, hd]
  exact ⟨elapse 1 s, hstep, rfl, rfl, rfl, rfl⟩

/-- Settles O32: the guards of the four sensors fail, and the trail edges at ST and SP have none. -/
theorem untakenEdgesChangeNothing : Obligations.UntakenEdgesChangeNothing := by
  unfold Obligations.UntakenEdgesChangeNothing
  intro s l tick x entry
  have hentry (b : Bool) : senseEntry s l b = entry b := rfl
  refine ⟨fun h => ?_, fun h => ?_, rfl⟩
  · have hno := entryTaken_eq_false_iff.2 h
    exact ⟨hentry true ▸ exec_leadCapture_untaken tick hno, hentry false ▸ exec_trailCapture_untaken tick hno⟩
  · have hno := exitTaken_eq_false_iff.2 h
    exact ⟨exec_stLeadEdge_untaken hno, exec_spLeadEdge_untaken hno⟩

end Sys2Proof.Machine.SheetPath
end

section
/-!
PROOFS. The elevator through `settle` (R102, R107): a tower that is not IDLE is left as it is, with its two timers.
-/
namespace Sys2Proof.Machine.PocketTower

open SetAssembly

variable {s t : State} {r : SetRec}

/-! ## The eject timer runs only from an IDLE tower (R102) -/

@[simp] theorem requestFire_eject : (requestFire s r).timers.eject = s.timers.eject := by
  unfold requestFire
  dsimp only
  split <;> rfl

theorem toReady_eject (hb : s.tower.phase ≠ .idle) : (toReady s).timers.eject = s.timers.eject := by
  unfold toReady
  split
  next r c _ _ =>
    have hready : tryEject (readied s r c) = readied s r c := tryEject_of_not (.inr (.inl hb))
    exact congrArg (·.timers.eject) hready
  next => rfl

theorem stapleDecision_eject (hb : s.tower.phase ≠ .idle) : (stapleDecision s).timers.eject = s.timers.eject := by
  unfold stapleDecision
  split
  next => rfl
  next r _ =>
    dsimp only
    split
    · exact toReady_eject hb
    · split
      · exact requestFire_eject
      · exact toReady_eject hb

theorem beginSplit_eject (hb : s.tower.phase ≠ .idle) : (beginSplit s).timers.eject = s.timers.eject := by
  rw [beginSplit_eq]
  split
  · exact stapleDecision_eject hb
  · rfl

theorem closeFinal_eject (hb : s.tower.phase ≠ .idle) : (closeFinal s r).timers.eject = s.timers.eject := by
  rw [closeFinal_eq]
  split
  · split
    · rfl
    · simp
  · exact stapleDecision_eject hb

theorem handOver_eject (hb : s.tower.phase ≠ .idle) : (handOver s).timers.eject = s.timers.eject := by
  unfold handOver
  split
  next =>
    split
    next => exact closeFinal_eject hb
    next => rfl
  next => rfl

@[simp] theorem endPart_eject : (endPart s r).timers.eject = s.timers.eject := rfl

theorem advanceParts_eject (n : Nat) : ∀ s, (advanceParts n s).timers.eject = s.timers.eject := by
  induction n with
  | zero => exact fun _ => rfl
  | succ n ih =>
    intro s
    unfold advanceParts
    split
    next => rfl
    next r _ =>
      split
      next => exact (ih _).trans endPart_eject
      next => rfl

@[simp] theorem advance_eject : (advance s).timers.eject = s.timers.eject := advanceParts_eject 7 s

@[simp] theorem preempt_eject : (preempt s).timers.eject = s.timers.eject := by
  unfold preempt
  split
  next =>
    split
    next => rfl
    next => rfl
  next => rfl

@[simp] theorem endPartAtGrant_eject (d : Desc) : (endPartAtGrant s d).timers.eject = s.timers.eject := by
  unfold endPartAtGrant
  split
  next =>
    split
    next => rfl
    next => rfl
  next => rfl

@[simp] theorem startSelection_eject : (startSelection s).timers.eject = s.timers.eject := by
  unfold startSelection
  repeat' split
  all_goals simp [startSet, beginUnpark]

@[simp] theorem servePurgeOrStart_eject : (servePurgeOrStart s).timers.eject = s.timers.eject := by
  unfold servePurgeOrStart
  split
  next =>
    split
    next => simp
    next => rfl
  next => exact startSelection_eject

theorem serve_eject (hb : s.tower.phase ≠ .idle) : (serve s).timers.eject = s.timers.eject := by
  unfold serve
  repeat' split
  · exact servePurgeOrStart_eject
  · exact servePurgeOrStart_eject
  · exact servePurgeOrStart_eject.trans (beginSplit_eject hb)
  · simp [grantNeeded]
  · rfl
  · rfl

/-! ## A tower that is not IDLE -/

theorem tower_of_busy (h : Onward s t) (hb : s.tower.phase ≠ .idle) : t.tower = s.tower :=
  h.tower.resolve_right fun x => hb x.1

/-- R102, R129: neither a session nor a READY tray takes a tower that is not IDLE. -/
theorem settle_of_busy (hb : s.tower.phase ≠ .idle) : (settle s).tower = s.tower ∧
    (settle s).timers.delivery = s.timers.delivery ∧ (settle s).timers.eject = s.timers.eject := by
  have hsession : sessionTakesTower s = s := sessionTakesTower_eq s (.inr (.inl hb))
  have honward : Onward s (settle s) := settle_onward_of s (.inr (.inl hb))
  refine ⟨tower_of_busy honward hb, honward.delivery, ?_⟩
  cases hr : active s with
  | false => rw [settle_of_stopped hr, hsession]
  | true =>
    have hjudged : Onward s (advance (preempt s)) := (preempt_onward s).trans (advance_onward _)
    have hbusy : (advance (preempt s)).tower.phase ≠ .idle := by rwa [tower_of_busy hjudged hb]
    have hclosed : (handOver (advance (preempt s))).tower.phase ≠ .idle := by
      rwa [tower_of_busy (handOver_onward _) hbusy]
    rw [settle_of_active hr, hsession, tryEject_of_not (.inr (.inl hb))]
    simp [stallUpdate, serve_eject hclosed, handOver_eject hbusy]

/-- R102, R129: a session or a READY tray that takes the tower changes its phase alone. -/
theorem settle_tower : ∃ p, (settle s).tower = { s.tower with phase := p } := by
  have hsession : ∃ p, (sessionTakesTower s).tower = { s.tower with phase := p } := by
    unfold sessionTakesTower
    split
    next z _ _ =>
      split
      next hz =>
        simp only [Bool.and_eq_true, Bool.not_eq_true'] at hz
        split
        · exact ⟨s.tower.phase, by simp [endSession, hz.2]⟩
        · exact ⟨_, rfl⟩
      next => exact ⟨_, rfl⟩
    next => exact ⟨_, rfl⟩
  obtain ⟨p, hp⟩ := hsession
  rcases (settle_onward s).tower with h | ⟨-, h⟩
  · exact ⟨p, h.trans hp⟩
  · exact ⟨.receiving, by rw [h, hp]⟩

end Sys2Proof.Machine.PocketTower
end

section
/-!
PROOFS. The end of the recovery window (R99), the stapler-home event (R100) and a new cartridge (R101).
-/
namespace Sys2Proof.Machine.PocketTower

section Lemmas
variable {s : State}

/-- R99: the waiting request decides between READY and the next fire. -/
theorem endRecovery_eq : endRecovery s = { s with
    stapler := { s.stapler with
      phase := if s.stapler.requestWaiting = true then .firing else .ready, requestWaiting := false }
    timers := { s.timers with
      recovery := none
      completion := if s.stapler.requestWaiting = true then some 4000 else s.timers.completion } } := by
  unfold endRecovery
  split
  next hw => simp [msTicks, Config.completionMs, Config.ticksPerMs]
  next hw => simp [Bool.eq_false_iff.2 hw]

theorem exec_recoveryWindowEnd {n : Nat} (h : s.timers.recovery = some n) :
    exec .recoveryWindowEnd s = .next (endRecovery s) := by
  have harm : exec .recoveryWindowEnd s = execRecoveryWindowEnd s := rfl
  simp [harm, execRecoveryWindowEnd, h]

theorem exec_staplerHome_jammed (h : s.stapler.phase = .jammed) :
    exec .staplerHome s = .next { s with stapler := { s.stapler with phase := .ready } } := by
  have harm : exec .staplerHome s = execStaplerHome s := rfl
  simp [harm, execStaplerHome, h]

theorem exec_staplerHome_ignored (h : s.stapler.phase ≠ .jammed) : exec .staplerHome s = .next s := by
  have harm : exec .staplerHome s = execStaplerHome s := rfl
  rw [harm, execStaplerHome]
  split
  next hj => exact absurd hj h
  all_goals rfl

theorem exec_cartridgeInserted : exec .cartridgeInserted s =
    .next (notifyPlain { s with stapler := { s.stapler with cartridge := 5000 } } (.cartridgeIn 5000)) := rfl

end Lemmas

/-- Settles O48: each of the three events by the equation of its command. -/
theorem staplerRecoversAndRefills : Obligations.StaplerRecoversAndRefills := by
  unfold Obligations.StaplerRecoversAndRefills
  refine fun s => ⟨fun n hn => ?_, exec_staplerHome_jammed, exec_staplerHome_ignored, exec_cartridgeInserted⟩
  rw [exec_recoveryWindowEnd hn, endRecovery_eq]

end Sys2Proof.Machine.PocketTower
end

section
/-!
PROOFS. The receipt of a segment (R97, R103, R106, R108) and the first aim along its chain (R109, R110, R112).
-/
namespace Sys2Proof.Machine.PocketTower

open SetAssembly

section Lemmas
variable {s : State} {r : SetRec} {c : SegClose} {g : Segment}

/-! ## The charge and the chain (R106, R109) -/

/-- R106: the curl allowance is the ceiling of a sixteenth. -/
theorem curlAllowance_bounds (h : Nat) : h ≤ 16 * curlAllowance h ∧ 16 * curlAllowance h < h + 16 := by
  unfold curlAllowance ceilDiv
  omega

/-- R109: the first option of a segment of a job: the seat's pocket or the exception pocket, by the route. -/
def firstPocket (s : State) (g : Segment) (j : Job) : Nat :=
  if g.route = .normal then seatPocket s g.cls g.seat else j.exceptionPocket

/-- R109: the place of the first option. -/
def firstPlace (g : Segment) : Place := if g.route = .normal then .seat else .exception

theorem chainOf_of_no_job (h : findJob s g.job = none) : chainOf s g = [{ dest := .stacker, place := .stacker }] := by
  simp [chainOf, rawChain, h, dedupFrom]

/-- R109: the options of a segment of a job before the repeats are left out. -/
theorem rawChain_of_job {j : Job} (h : findJob s g.job = some j) : rawChain s g =
    { dest := .pocket (firstPocket s g j), place := firstPlace g } ::
      (j.overflowPocket.toList.map (fun p => { dest := .pocket p, place := .overflow }) ++
        [{ dest := .stacker, place := .stacker }]) := by
  cases hr : g.route <;> cases ho : j.overflowPocket <;> simp [rawChain, h, hr, ho, firstPocket, firstPlace]

/-- R109: the overflow pocket is left out where it is the first option already. -/
theorem chainOf_of_job {j : Job} (h : findJob s g.job = some j) : chainOf s g =
    [{ dest := .pocket (firstPocket s g j), place := firstPlace g }] ++
      (match j.overflowPocket with
        | none => []
        | some p => if p = firstPocket s g j then [] else [{ dest := .pocket p, place := .overflow }]) ++
      [{ dest := .stacker, place := .stacker }] := by
  rw [chainOf, rawChain_of_job h]
  cases ho : j.overflowPocket with
  | none => simp [dedupFrom]
  | some p => by_cases hp : p = firstPocket s g j <;> simp [dedupFrom, hp]

/-! ## The aim (R110, R112) -/

/-- R110, R112: what an aim makes of the tower and its timers: a carry under a fresh delivery timer, or BLOCKED. -/
theorem aim_cases {n : Nat} (hg : s.tower.carried = some g) (hn : s.tower.charge = some n) (os : List ChainOption) :
    (∃ o, (aim s os).tower = { s.tower with phase := .carrying, target := some o } ∧
      (aim s os).timers = { s.timers with delivery := some 60000 }) ∨
    ((aim s os).tower = { s.tower with phase := .blocked, target := none } ∧
      (aim s os).timers = { s.timers with delivery := none }) := by
  have hjudged := judgeOptions_frame s g n os
  simp only [aim, hg, hn]
  cases hj : judgeOptions s g n os with
  | mk s' o =>
    rw [hj] at hjudged
    dsimp only at hjudged
    cases o with
    | some o => exact .inl ⟨o, by simp [carryTo, hjudged, hg, hn], by
        simp [carryTo, hjudged, msTicks, Config.deliveryMs, Config.ticksPerMs]⟩
    | none =>
      refine .inr ?_
      cases hp : s.tower.phase <;> simp [block, hjudged, hg, hn, hp]

/-- R110: an eligible first option is taken, with no pocket looked at beyond it. -/
theorem aim_first {n p : Nat} {o : ChainOption} {rest : List ChainOption} (hg : s.tower.carried = some g)
    (hn : s.tower.charge = some n) (ho : o.dest = .pocket p) (hp : p < towerSize s)
    (ha : (pocketOf s p).state = .available) (hf : (pocketOf s p).fill + n ≤ capacityOf s p) :
    aim s (o :: rest) = carryTo s o := by
  have hoffers : pocketOffers s p = true := by simp [pocketOffers, hp, ha]
  have hfits : pocketFits s p n = true := by simp [pocketFits, hf]
  simp [aim, hg, hn, judgeOptions, ho, hoffers, hfits]

/-- R110, R112: an aimed tower is not IDLE, so the part's look around leaves it CARRYING or BLOCKED. -/
theorem settle_aim {n : Nat} (hg : s.tower.carried = some g) (hn : s.tower.charge = some n) (os : List ChainOption) :
    (settle (aim s os)).tower = (aim s os).tower ∧ (settle (aim s os)).timers.eject = s.timers.eject ∧
    (settle (aim s os)).tower.carried = some g ∧ (settle (aim s os)).tower.charge = some n ∧
    (settle (aim s os)).tower.chain = s.tower.chain ∧
    (((settle (aim s os)).tower.phase = .carrying ∧ (settle (aim s os)).tower.target.isSome = true ∧
        (settle (aim s os)).timers.delivery = some 60000) ∨
      ((settle (aim s os)).tower.phase = .blocked ∧ (settle (aim s os)).tower.target = none ∧
        (settle (aim s os)).timers.delivery = none)) := by
  rcases aim_cases hg hn os with ⟨o, htower, htimers⟩ | ⟨htower, htimers⟩
  · obtain ⟨hkept, hdelivery, heject⟩ := settle_of_busy (s := aim s os) (by simp [htower])
    simp [hkept, hdelivery, heject, htower, htimers, hg, hn]
  · obtain ⟨hkept, hdelivery, heject⟩ := settle_of_busy (s := aim s os) (by simp [htower])
    simp [hkept, hdelivery, heject, htower, htimers, hg, hn]

/-! ## The receipt (R97, R103, R108) -/

theorem received_eq (hh : s.tray.held = some r) (hc : s.tray.close = some c) : s.tray.received =
    if c.kind = .final then { phase := .empty, held := none, close := none }
    else { phase := .compiling, close := none
           held := some { r with segment := r.segment + 1, traySheets := 0, trayHeight := 0 } } := by
  cases hk : c.kind <;> simp [Tray.received, hh, hc, hk, Tray.empty, SetRec.nextSegment]

/-- R103, R108: the part with the segment in the tower and the tray told, before the first aim. -/
def arrived (s : State) (g : Segment) : State :=
  { s with
    tray := s.tray.received
    timers := { s.timers with eject := none }
    tower := { s.tower with
      carried := some g, charge := some (g.height + curlAllowance g.height), chain := chainOf s g } }

theorem exec_setReceived (ha : active s = true) (ht : s.tower.phase = .receiving) (hp : s.tray.phase = .ejecting)
    (hh : s.tray.held = some r) (hc : s.tray.close = some c) : exec .setReceived s =
      .next (settle (aim (arrived s (segmentOf r c)) (chainOf s (segmentOf r c)))) := by
  have harm : exec .setReceived s = execSetReceived s := rfl
  have harriving : segmentArriving s = some (r, c) := by simp [segmentArriving, ht, hp, hh, hc, ha]
  rw [harm, execSetReceived, harriving]
  rfl

end Lemmas

/-- Settles O50: the aim of the arrived segment, which `settle` leaves as it is, the tower not being IDLE. -/
theorem receivedSegmentIsCarried : Obligations.ReceivedSegmentIsCarried := by
  unfold Obligations.ReceivedSegmentIsCarried
  intro s r c ha ht hp hh hc g own chain
  have hchain : chainOf s g = chain := by
    cases hj : findJob s r.job with
    | none => simp only [chain, hj]; exact chainOf_of_no_job hj
    | some j => simp only [chain, hj]; exact chainOf_of_job hj
  have htray : (aim (arrived s g) chain).tray = s.tray.received := by simp [arrived]
  obtain ⟨htower, heject, hcarried, hcharge, hkept, hphase⟩ := settle_aim (s := arrived s g) rfl rfl chain
  obtain ⟨hle, hlt⟩ := curlAllowance_bounds g.height
  refine ⟨_, aim (arrived s g) chain, curlAllowance g.height, hchain ▸ exec_setReceived ha ht hp hh hc, rfl,
    htray.trans (received_eq hh hc), by simp [arrived], by simp [arrived], by simp [arrived], by simp [arrived],
    by simp [arrived], ?_, hcarried, hcharge, hle, hlt, hkept.trans hchain, heject, hphase,
    fun o rest p ho hd hsize hav hfit => ?_, by simp [arrived], by simp [arrived]⟩
  · rw [htray, ← hchain]
    rfl
  · -- R110: the first option is eligible
    have hfirst : aim (arrived s g) chain = carryTo (arrived s g) o := by
      rw [ho]
      exact aim_first (s := arrived s g) rfl rfl hd hsize hav hfit
    have hpockets : (settle (aim (arrived s g) chain)).pockets = (aim (arrived s g) chain).pockets := by simp
    rw [htower, hpockets, hfirst]
    exact ⟨rfl, rfl⟩

end Sys2Proof.Machine.PocketTower
end

section
/-!
PROOFS. The deposit (R98, R115 to R117): the target's record, the notices, the tray's answer.
-/
namespace Sys2Proof.Machine.PocketTower

open SetAssembly

section Lemmas
variable {s t : State} {r : SetRec} {g : Segment} {c p : Nat} {o : ChainOption} {k : Pocket}

/-! ## A notice (R145, R153, R156) -/

theorem linkPresent_noticeLink : linkPresent s (noticeLink s) = true := by
  unfold noticeLink
  split
  next hb => cases s.tables.transport.active.noticeLink <;> simp [linkPresent, hb]
  next => rfl

/-- R153: a notice changes the port of the notice link and nothing else. -/
theorem notify_eq (tag job : Nat) (b : NoticeBody) : notify s tag job b =
    { s with links := s.links.set (noticeLink s) (LinkPort.startNext s.straps.address
        (LinkPort.enqueue (.notice { replyTag := tag, job := job, body := b }) (s.links.get (noticeLink s)))) } :=
  queueOut_eq s _ _ linkPresent_noticeLink

theorem notify_links_congr (hl : t.links = s.links) (hs : t.straps = s.straps) (ht : t.tables = s.tables)
    (tag job : Nat) (b : NoticeBody) : (notify t tag job b).links = (notify s tag job b).links := by
  simp [notify_eq, noticeLink, hl, hs, ht]

/-! ## The target's record (R115) -/

theorem opposite_eq_left_iff (x : Side) : x.opposite = .left ↔ x = .right := by
  cases x <;> simp [Side.opposite]

/-- R115: the record of a pocket of capacity `cap` after the deposit, FULL included. -/
def filled (k : Pocket) (cap c : Nat) : Pocket :=
  { k.deposit cap c with state := if cap ≤ k.fill + c then .full else k.state }

theorem deposit_fill_eq_iff (cap : Nat) : (k.deposit cap c).fill = cap ↔ cap ≤ k.fill + c := by
  simp [Pocket.deposit]

theorem changePocket_eq (f : Pocket → Pocket) (hk : s.pockets[p]? = some k) :
    changePocket s p f = { s with pockets := s.pockets.set p (f k) } := by
  rw [changePocket, changeAt_eq_set f p _ k hk]

theorem pocketOf_eq (hk : s.pockets[p]? = some k) : pocketOf s p = k := by
  simp [pocketOf, hk]

/-- R115: the deposit in a pocket changes its record, and sends POCKET-FULL when the fill comes to the capacity. -/
theorem depositInto_pocket (hk : s.pockets[p]? = some k) : depositInto s g c (.pocket p) = { s with
    pockets := s.pockets.set p (filled k (capacityOf s p) c)
    links := if capacityOf s p ≤ k.fill + c
      then (notify s g.replyTag g.job (.pocketFull p (filled k (capacityOf s p) c).fill (capacityOf s p) none)).links
      else s.links } := by
  obtain ⟨hlt, -⟩ := List.getElem?_eq_some_iff.1 hk
  have hset (x : Pocket) : ({ s with pockets := s.pockets.set p x } : State).pockets[p]? = some x := by simp [hlt]
  have hfill : (k.deposit (capacityOf s p) c).fill = (filled k (capacityOf s p) c).fill := rfl
  simp only [depositInto, changePocket_eq _ hk, pocketOf_eq (hset _), deposit_fill_eq_iff]
  split
  next hf =>
    simp only [fillUp, changePocket_eq _ (hset _), pocketOf_eq (hset _), hfill, List.set_set]
    rw [notify_eq, notify_eq]
    simp only [filled, if_pos hf]
    rfl
  next hf =>
    simp only [filled, if_neg hf]
    rfl

/-- R115: a deposit leaves all but the links and its target's record. -/
theorem depositInto_eq (d : Dest) : depositInto s g c d = { s with
    links := (depositInto s g c d).links
    pockets := (depositInto s g c d).pockets
    stacker := (depositInto s g c d).stacker } := by
  cases d with
  | stacker => rfl
  | pocket p =>
    unfold depositInto
    dsimp only
    split
    · rw [fillUp, notify_eq]
      rfl
    · rfl

/-! ## The deposit and its account (R98, R116) -/

/-- R115: the segment dropped at its target: the tower holds nothing and its delivery timer stops. -/
def dropped (s : State) (g : Segment) (c : Nat) (o : ChainOption) : State :=
  { depositInto s g c o.dest with tower := Tower.idle, timers := { s.timers with delivery := none } }

theorem dropped_eq : dropped s g c o = { s with
    links := (depositInto s g c o.dest).links
    pockets := (depositInto s g c o.dest).pockets
    stacker := (depositInto s g c o.dest).stacker
    tower := Tower.idle
    timers := { s.timers with delivery := none } } := by
  rw [dropped, depositInto_eq]

/-- R116, R117: the dropped segment accounted, when it is final, and told. -/
def delivered (s : State) (g : Segment) (c : Nat) (o : ChainOption) : State :=
  let w := dropped s g c o
  notify (if g.final = true then accountDeposit w g o.place else w) g.replyTag g.job
    (.setDelivered (deliveryOf w g c o))

theorem depositSegment_eq : depositSegment s g c o =
    if g.final = true then afterFinal (trayToldDeposit (delivered s g c o) g) g
    else trayToldDeposit (delivered s g c o) g := by
  have htimers : (depositInto s g c o.dest).timers = s.timers := by simp
  simp only [depositSegment, htimers]
  rfl

theorem delivered_tray : (delivered s g c o).tray = s.tray := by
  unfold delivered
  dsimp only
  split <;> simp [dropped]

/-- R98: the empty final segment `r` in the tray waits for the deposit of the earlier segment `g` of its set. -/
def Waits (s : State) (g : Segment) (r : SetRec) : Prop :=
  s.tray.phase = .stapling ∧ s.tray.held = some r ∧ (∃ x, s.tray.close = some x ∧ x.kind = .final) ∧
    r.traySheets = 0 ∧ r.job = g.job ∧ r.seat = g.seat

theorem trayToldDeposit_of_final (h : g.final = true) : trayToldDeposit s g = s := by
  unfold trayToldDeposit
  split
  next => simp [h]
  next => rfl

theorem trayToldDeposit_of_waits (h : g.final = false) (hw : Waits s g r) : trayToldDeposit s g = emptyOutcome s r := by
  obtain ⟨hp, hh, ⟨x, hc, hk⟩, h0, hj, hn⟩ := hw
  simp [trayToldDeposit, hp, hh, hc, hk, h0, h, SetRec.isOf, hj, hn]

theorem trayToldDeposit_of_not_waits (hno : ∀ r, ¬Waits s g r) : trayToldDeposit s g = s := by
  unfold trayToldDeposit
  split
  next r x hp hh hc =>
    split
    next hw =>
      simp only [Bool.and_eq_true, beq_iff_eq, SetRec.isOf] at hw
      obtain ⟨⟨⟨hk, h0⟩, -⟩, hj, hn⟩ := hw
      exact absurd ⟨hp, hh, ⟨x, hc, hk⟩, h0, hj, hn⟩ (hno r)
    next => rfl
  next => rfl

theorem depositSegment_of_final (h : g.final = true) :
    depositSegment s g c o = afterFinal (delivered s g c o) g := by
  rw [depositSegment_eq, if_pos h, trayToldDeposit_of_final h]

theorem depositSegment_of_earlier (h : g.final = false) :
    depositSegment s g c o = trayToldDeposit (delivered s g c o) g := by
  rw [depositSegment_eq, if_neg (by simp [h])]

/-- R115: whatever is accounted and told, the tower, the pockets and the stacker stay as the drop has left them. -/
theorem depositSegment_kept : (depositSegment s g c o).tower = Tower.idle ∧
    (depositSegment s g c o).pockets = (depositInto s g c o.dest).pockets ∧
    (depositSegment s g c o).stacker = (depositInto s g c o.dest).stacker := by
  have hdelivered : (delivered s g c o).tower = Tower.idle ∧
      (delivered s g c o).pockets = (depositInto s g c o.dest).pockets ∧
      (delivered s g c o).stacker = (depositInto s g c o.dest).stacker := by
    unfold delivered
    dsimp only
    split <;> simp [dropped]
  rw [depositSegment_eq]
  split <;> simpa using hdelivered

theorem exec_depositComplete (ha : active s = true) (hp : s.tower.phase = .carrying) (hg : s.tower.carried = some g)
    (hc : s.tower.charge = some c) (ho : s.tower.target = some o) :
    exec .depositComplete s = .next (settle (depositSegment s g c o)) := by
  have harm : exec .depositComplete s = execDepositComplete s := rfl
  simp [harm, execDepositComplete, depositing, hp, hg, hc, ho, ha]

end Lemmas

/-- Settles O51: the target's record from `depositInto`, and the account through the two kinds of segment. -/
theorem depositFillsTheTarget : Obligations.DepositFillsTheTarget := by
  unfold Obligations.DepositFillsTheTarget
  intro s g c o ha hp hg hc ho
  obtain ⟨htower, hpockets, hstacker⟩ := depositSegment_kept (s := s) (g := g) (c := c) (o := o)
  obtain ⟨phase, hsettled⟩ := settle_tower (s := depositSegment s g c o)
  rw [htower] at hsettled
  have hpockets' : (settle (depositSegment s g c o)).pockets = (depositInto s g c o.dest).pockets := by simp [hpockets]
  have hstacker' : (settle (depositSegment s g c o)).stacker = (depositInto s g c o.dest).stacker := by simp [hstacker]
  refine ⟨_, exec_depositComplete ha hp hg hc ho, by simp [hsettled, Tower.idle], by simp [hsettled, Tower.idle],
    by simp [hsettled, Tower.idle], by simp [hsettled, Tower.idle], by simp, by simp, fun hd => ?_, fun p k hd hk => ?_,
    dropped s g c o, dropped_eq, hpockets'.symm, hstacker'.symm, fun hd => ?_, fun p k k' hd hk hk' => ?_, ?_⟩
  · -- R115: the stacker
    rw [hpockets', hstacker', hd]
    exact ⟨rfl, rfl, opposite_eq_left_iff _⟩
  · -- R115: a pocket
    obtain ⟨hlt, -⟩ := List.getElem?_eq_some_iff.1 hk
    rw [hpockets', hstacker', hd, depositInto_pocket hk]
    exact ⟨rfl, fun m hm => List.getElem?_set_ne hm.symm, filled k (capacityOf s p) c, by simp [hlt], rfl, rfl,
      opposite_eq_left_iff _, rfl, rfl⟩
  · rw [dropped, hd]
    rfl
  · -- R118: POCKET-FULL
    obtain ⟨hlt, -⟩ := List.getElem?_eq_some_iff.1 hk
    have hfilled : k' = filled k (capacityOf s p) c := by simpa [dropped, hd, depositInto_pocket hk, hlt] using hk'.symm
    rw [dropped, hd, depositInto_pocket hk, hfilled]
  · -- R98, R116, R117
    intro into told
    have htold : delivered s g c o = told := by
      simp only [told, into, delivered, deliveryOf]
      cases o.dest <;> rfl
    refine ⟨fun hf => ?_, fun hf => ⟨fun r hw => ?_, fun hno => ?_⟩⟩
    · rw [depositSegment_of_final hf, htold]
      rfl
    · have hwaits : Waits (delivered s g c o) g r := by rwa [Waits, delivered_tray]
      rw [depositSegment_of_earlier hf, trayToldDeposit_of_waits hf hwaits, htold]
    · have hnone : ∀ r, ¬Waits (delivered s g c o) g r := fun r => by rw [Waits, delivered_tray]; exact hno r
      rw [depositSegment_of_earlier hf, trayToldDeposit_of_not_waits hnone, htold]

end Sys2Proof.Machine.PocketTower
end

section
/-!
PROOFS. The capacity law (R118) through what leaves the pockets as they are: one relation from a state to the next, kept by
every shared operation that moves no pocket record.
-/
namespace Sys2Proof.Machine.PocketRecords

open SetAssembly PocketTower

/-- What the capacity law reads of a table entry: all of it but its pending part. -/
def entryInForce {α : Type} (e : Entry α) : α × Bool × Nat := (e.active, e.marked, e.refs)

/-- From `s` to `t` nothing changes that the capacity law reads: the pocket records, the stacker, the configurations in
force (while none is marked, R142), and the carry, which may end but not begin. -/
structure LawKept (s t : State) : Prop where
  pockets : t.pockets = s.pockets
  stacker : t.stacker = s.stacker
  configs : (∀ e ∈ s.tables.pockets, e.marked = false) →
    t.tables.pockets.map entryInForce = s.tables.pockets.map entryInForce
  carry : t.tower.phase = .carrying → t.tower = s.tower

variable {s t u : State}

/-! ## The relation -/

theorem unmarked_congr {es es' : List (Entry PocketConfig)} (h : es'.map entryInForce = es.map entryInForce)
    {P : Bool → Nat → Prop} (hP : ∀ e ∈ es, P e.marked e.refs) : ∀ e ∈ es', P e.marked e.refs := by
  intro e he
  have hview : entryInForce e ∈ es.map entryInForce := h ▸ List.mem_map_of_mem he
  obtain ⟨x, hx, hxe⟩ := List.mem_map.1 hview
  simp only [entryInForce, Prod.mk.injEq] at hxe
  obtain ⟨-, hm, hr⟩ := hxe
  exact hm ▸ hr ▸ hP x hx

theorem LawKept.trans (h : LawKept s t) (g : LawKept t u) : LawKept s u where
  pockets := g.pockets.trans h.pockets
  stacker := g.stacker.trans h.stacker
  configs hm := (g.configs (unmarked_congr (P := fun b _ => b = false) (h.configs hm) hm)).trans (h.configs hm)
  carry hu := by
    have hut := g.carry hu
    exact hut.trans (h.carry (hut ▸ hu))

/-- An operation whose frame names all that the law reads. -/
theorem LawKept.of_frame (hp : t.pockets = s.pockets) (hs : t.stacker = s.stacker)
    (hc : t.tables.pockets = s.tables.pockets) (ht : t.tower = s.tower) : LawKept s t :=
  ⟨hp, hs, fun _ => by rw [hc], fun _ => ht⟩

theorem LawKept.refl : LawKept s s := .of_frame rfl rfl rfl rfl

/-- An operation that leaves the law's tables as they are and the tower with no carry begun. -/
theorem LawKept.of_carry (hp : t.pockets = s.pockets) (hs : t.stacker = s.stacker)
    (hc : t.tables.pockets = s.tables.pockets) (ht : t.tower.phase = .carrying → t.tower = s.tower) : LawKept s t :=
  ⟨hp, hs, fun _ => by rw [hc], ht⟩

theorem capacityOf_congr (h : t.tables.pockets.map entryInForce = s.tables.pockets.map entryInForce) (p : Nat) :
    capacityOf t p = capacityOf s p := by
  have hview (x : State) : capacityOf x p =
      (((x.tables.pockets.map entryInForce)[p]?).map (·.1.capacity)).getD 0 := by
    simp only [capacityOf, List.getElem?_map, Option.map_map]
    rfl
  rw [hview, hview, h]

theorem LawKept.law (h : LawKept s t) (hs : s.CapacityLaw) : t.CapacityLaw := by
  have hconfigs := h.configs fun e he => (hs.unmarked e he).1
  have hlength : t.tables.pockets.length = s.tables.pockets.length := by simpa using congrArg List.length hconfigs
  constructor
  case pocketCount => exact ⟨h.pockets ▸ hs.pocketCount.1, hlength.trans hs.pocketCount.2⟩
  case pocket =>
    intro p hp
    have hrecord : pocketOf t p = pocketOf s p := by simp [pocketOf, h.pockets]
    rw [hrecord, capacityOf_congr hconfigs]
    exact hs.pocket p hp
  case stacker => exact h.stacker ▸ hs.stacker
  case carried =>
    intro c o hp
    rw [h.stacker, h.carry hp]
    exact hs.carried c o (h.carry hp ▸ hp)
  case unmarked => exact unmarked_congr (P := fun b n => b = false ∧ n = 0) hconfigs hs.unmarked

/-! ## Releases (R142) -/

theorem map_apply_of_unmarked {α : Type} {es : List (Entry α)} (h : ∀ e ∈ es, e.marked = false) :
    es.map Entry.apply = es :=
  (List.map_congr_left fun e he => by simp [Entry.apply, Entry.ready, h e he]).trans (List.map_id es)

theorem applyReleased_kept : LawKept s (applyReleased s) := by
  refine ⟨by simp, by simp, fun hm => ?_, fun _ => by simp⟩
  unfold applyReleased
  dsimp only
  split
  · rfl
  · simp [Tables.apply, map_apply_of_unmarked hm]

theorem changeRefs_kept (p c : Nat) (f : Nat → Nat) : LawKept s (changeRefs s p c f) := .of_frame rfl rfl rfl rfl

theorem removeClosed_kept : LawKept s (removeClosed s) := by apply LawKept.of_frame <;> simp

theorem afterFinal_kept (g : Segment) : LawKept s (afterFinal s g) :=
  (removeClosed_kept.trans (changeRefs_kept _ _ _)).trans applyReleased_kept

theorem emptyOutcome_kept (r : SetRec) : LawKept s (emptyOutcome s r) := by
  refine LawKept.trans ?_ ((removeClosed_kept.trans (changeRefs_kept r.plan r.cls _)).trans applyReleased_kept)
  apply LawKept.of_frame <;> simp

/-! ## Set assembly: what `settle` is made of -/

theorem carry_of_onward (h : Onward s t) : t.tower.phase = .carrying → t.tower = s.tower := by
  intro hp
  rcases h.tower with ht | ⟨-, ht⟩
  · exact ht
  · simp [ht] at hp

theorem closeFinal_kept {r : SetRec} (h : s.tray.held = some r) : LawKept s (closeFinal s r) := by
  refine ⟨by simp, by simp, fun hm => ?_, carry_of_onward (closeFinal_onward s r h)⟩
  rw [closeFinal_eq]
  split
  · split
    · rfl
    · exact (emptyOutcome_kept r).configs hm
  · simp [closing]

theorem handOver_kept : LawKept s (handOver s) := by
  unfold handOver
  split
  next ho =>
    split
    · exact closeFinal_kept (openSet_held ho)
    · exact .refl
  next => exact .refl

theorem startSet_configs (l : Link) (e : QueueEntry) (j : Job) :
    (startSet s l e j).tables.pockets = s.tables.pockets := by
  simp [startSet, takeRefs, changeRefs]

theorem serve_configs : (serve s).tables.pockets = s.tables.pockets := by
  have hstart (x : State) : (servePurgeOrStart x).tables.pockets = x.tables.pockets := by
    unfold servePurgeOrStart startSelection
    repeat' split
    all_goals simp [startSet_configs, beginUnpark]
  unfold serve
  repeat' split
  all_goals simp [hstart]

theorem serve_kept : LawKept s (serve s) :=
  .of_carry (by simp) (by simp) serve_configs (carry_of_onward (serve_onward s))

theorem endSession_kept (z : Session) (c : EndCause) : LawKept s (endSession s z c) := by
  refine .of_carry (by simp) (by simp) (by simp) ?_
  unfold endSession
  cases z.towerTaken <;> cases c <;> simp [releaseTower]

theorem sessionTakesTower_kept : LawKept s (sessionTakesTower s) := by
  unfold sessionTakesTower
  split
  · split
    · split
      · exact endSession_kept _ _
      · exact .of_carry rfl rfl rfl (by simp)
    · exact .refl
  · exact .refl

theorem tryEject_kept : LawKept s (tryEject s) :=
  .of_carry (by simp) (by simp) (by simp) (carry_of_onward (tryEject_onward s))

/-- R118: nothing that the part does of itself after an event touches what the capacity law reads. -/
theorem settle_kept : LawKept s (settle s) := by
  have hadvance (x : State) : LawKept x (advance x) :=
    .of_carry (by simp) (by simp) (by simp) (carry_of_onward (advance_onward x))
  cases ha : active s with
  | false => exact settle_of_stopped ha ▸ sessionTakesTower_kept
  | true =>
    rw [settle_of_active ha]
    have hpreempt (x : State) : LawKept x (preempt x) :=
      .of_carry (by simp) (by simp) (by simp) (carry_of_onward (preempt_onward x))
    have hstall (x : State) : LawKept x (stallUpdate x) := .of_frame (by simp) (by simp) (by simp) (by simp)
    have hhalt (x : State) : LawKept x (haltCheck x) := .of_frame (by simp) (by simp) (by simp) (by simp)
    exact sessionTakesTower_kept.trans <| tryEject_kept.trans <| (hpreempt _).trans <| (hadvance _).trans <|
      handOver_kept.trans <| serve_kept.trans <| (hadvance _).trans <| (hstall _).trans (hhalt _)

/-! ## Faults and the frame handler -/

theorem faultSession_kept : LawKept s (faultSession s) := by
  unfold faultSession
  split
  · exact endSession_kept _ _
  · exact .refl

theorem freeHeldTower_kept : LawKept s (freeHeldTower s) := by
  refine .of_carry (by simp) (by simp) (by simp) ?_
  unfold freeHeldTower
  split <;> simp

theorem raiseFault_kept (d : FaultDetail) : LawKept s (raiseFault s d) := by
  unfold raiseFault
  split
  · exact .of_frame rfl rfl rfl rfl
  · refine LawKept.trans ?_ (faultSession_kept.trans freeHeldTower_kept)
    apply LawKept.of_frame <;> simp

theorem handle_kept {wanted : Frame → Bool} {owner : Link → Frame → State → State} {l : Link}
    (h : ∀ f x, LawKept x (owner l f x)) : LawKept s (handle wanted owner l s) := by
  have htake : LawKept s (takeFrame s l) := .of_frame rfl rfl rfl rfl
  rcases handle_cases s wanted owner l with hs | ⟨f, -, -, hs | hs⟩
  · rw [hs]
    exact .refl
  · exact hs ▸ htake.trans (h f _)
  · exact hs ▸ htake.trans (.of_frame (by simp) (by simp) (by simp) (by simp))

/-! ## Requests -/

theorem answerTo_kept (l : Link) (f : Frame) (r : Result) (body : List Data) : LawKept s (answerTo s l f r body) := by
  apply LawKept.of_frame <;> simp

theorem refuse_kept (l : Link) (f : Frame) (r : Reason) : LawKept s (refuse s l f r) := by
  apply LawKept.of_frame <;> simp

theorem ownOpenJob_kept (l : Link) (f : Frame) : LawKept s (ownOpenJob l f s) := by
  unfold ownOpenJob
  dsimp only
  split
  · exact refuse_kept _ _ _
  · apply LawKept.of_frame <;> simp

theorem ownCloseJob_kept (l : Link) (f : Frame) : LawKept s (ownCloseJob l f s) := by
  unfold ownCloseJob
  dsimp only
  repeat' split
  all_goals apply LawKept.of_frame <;> simp

theorem ownInsert_kept (l : Link) (f : Frame) : LawKept s (ownInsert l f s) := by
  unfold ownInsert
  dsimp only
  split
  · exact refuse_kept _ _ _
  · refine LawKept.trans ?_ settle_kept
    apply LawKept.of_frame <;> simp

theorem ownRun_kept (l : Link) (f : Frame) : LawKept s (ownRun l f s) := by
  unfold ownRun
  split
  all_goals apply LawKept.of_frame <;> simp

theorem ownStandby_kept (l : Link) (f : Frame) : LawKept s (ownStandby l f s) := by
  unfold ownStandby
  split
  all_goals apply LawKept.of_frame <;> simp

theorem ask_kept (code : Nat) (contents : List Data → State → Except Reason (List Data)) (l : Link) (f : Frame) :
    LawKept s (ask code contents l f s) := by
  unfold ask answerAsk
  split
  · exact answerTo_kept _ _ _ _
  · exact refuse_kept _ _ _

/-- R137: a POCKET load stages a pending part, which the law does not read. -/
theorem changeAt_stage_inForce (i : Nat) (x : PocketConfig) (es : List (Entry PocketConfig)) :
    (changeAt i (Entry.stage x) es).map entryInForce = es.map entryInForce :=
  changeAt_map entryInForce (Entry.stage x) (fun _ => rfl) i es

theorem load_kept {code : Nat} {judge : Tables → List Data → LoadResult}
    (hj : ∀ t p t' b, judge t p = .written t' b → t'.pockets.map entryInForce = t.pockets.map entryInForce)
    (l : Link) (f : Frame) : LawKept s (load code judge l f s) := by
  refine ⟨by simp, by simp, fun _ => ?_, fun _ => by simp⟩
  unfold load
  split
  · simp
  next t b hw =>
    split at hw
    · simpa using hj _ _ _ _ hw
    · cases hw

theorem judgeLoad_pockets {t t' : Tables} {p : List Data} {b : Bool}
    (h : judgeLoadClass t p = .written t' b ∨ judgeLoadSeats t p = .written t' b ∨ judgeLoadPlan t p = .written t' b ∨
      judgeLoadGrade t p = .written t' b ∨ judgeLoadPocket t p = .written t' b ∨
      judgeLoadTransport t p = .written t' b) :
    t'.pockets.map entryInForce = t.pockets.map entryInForce := by
  rcases h with h | h | h | h | h | h
  · unfold judgeLoadClass at h
    split at h <;> cases h
    rfl
  · unfold judgeLoadSeats at h
    dsimp only at h
    repeat' split at h
    all_goals cases h
    rfl
  · unfold judgeLoadPlan at h
    dsimp only at h
    repeat' split at h
    all_goals cases h
    rfl
  · unfold judgeLoadGrade at h
    split at h <;> cases h
    rfl
  · unfold judgeLoadPocket at h
    split at h <;> cases h
    exact changeAt_stage_inForce _ _ _
  · unfold judgeLoadTransport at h
    split at h <;> cases h
    rfl

/-! ## CLEAR (R167, R168) -/

theorem loseSet_kept (j n p c r g k : Nat) (f : SetFlags) (m : Bool) : LawKept s (loseSet s j n p c r g k f m) := by
  refine .of_carry (by simp) (by simp) ?_ (fun _ => by simp)
  simp [loseSet, dropRefs, changeRefs]

theorem loseRecord_kept (r : SetRec) (m : Bool) : LawKept s (loseRecord s r m) := loseSet_kept _ _ _ _ _ _ _ _ _

theorem clearTray_kept : LawKept s (clearTray s) := by
  have hempty : LawKept s { s with
      tray := Tray.empty
      stapler := { s.stapler with owner := s.stapler.owner.map (fun o => { o with lost := true }) } } :=
    .of_frame rfl rfl rfl rfl
  unfold clearTray
  dsimp only
  split
  · exact hempty
  · exact hempty.trans (loseRecord_kept _ _)

theorem clearTower_kept : LawKept s (clearTower s) := by
  have hidle : LawKept s { s with tower := Tower.idle } := .of_carry rfl rfl rfl (by simp [Tower.idle])
  unfold clearTower
  dsimp only
  split
  · exact hidle
  · split
    · exact hidle.trans (loseSet_kept _ _ _ _ _ _ _ _ _)
    · exact hidle

theorem loseShelf_kept (rs : List SetRec) : ∀ s, LawKept s (loseShelf rs s) := by
  induction rs with
  | nil => exact fun s => .of_frame rfl rfl rfl rfl
  | cons r rs ih =>
    intro s
    have hpop : LawKept s { s with shelf := { motion := .idle, stack := rs } } := .of_frame rfl rfl rfl rfl
    exact (hpop.trans (loseRecord_kept r false)).trans (ih _)

theorem clearShelf_kept : LawKept s (clearShelf s) := by
  unfold clearShelf
  split
  · exact .of_frame rfl rfl rfl rfl
  · exact loseShelf_kept _ _

theorem clearAll_kept : LawKept s (clearAll s) := by
  have hpath : LawKept s (clearPath s) := .of_frame rfl rfl rfl rfl
  have hsteps : LawKept s (clearShelf (clearTower (clearTray (clearPath s)))) :=
    hpath.trans (clearTray_kept.trans (clearTower_kept.trans clearShelf_kept))
  have hend (x : State) : LawKept x
      (changeRun { applyReleased (removeClosed x) with fault := { first := none, further := 0 } } .standby) := by
    refine (removeClosed_kept.trans applyReleased_kept).trans (.of_frame ?_ ?_ ?_ ?_) <;> simp
  have hsegment (x : State) (g : Segment) : LawKept x (loseSegment x g) := by
    apply LawKept.of_frame <;> simp
  unfold clearAll
  dsimp only
  split
  · split
    · exact hsteps.trans (hend _)
    · exact (hsteps.trans (hsegment _ _)).trans (hend _)
  · exact hsteps.trans (hend _)

theorem ownClear_kept (pins : Pins) (l : Link) (f : Frame) : LawKept s (ownClear pins l f s) := by
  unfold ownClear
  dsimp only
  split
  · refine LawKept.trans ?_ clearAll_kept
    apply LawKept.of_frame <;> simp
  · apply LawKept.of_frame <;> simp

/-! ## The sheet path and the feed -/

theorem captureLead_kept (l : Link) (t : Tick) : LawKept s (captureLead s l t) := by
  unfold captureLead
  split
  · exact raiseFault_kept _
  · split
    · apply LawKept.of_frame <;> simp
    · apply LawKept.of_frame <;> simp

theorem handToTray_kept (e : PathEntry) : LawKept s (handToTray s e) := by
  have hheld (f : SetRec → SetRec) : LawKept s (changeHeld s f) := .of_frame rfl rfl rfl rfl
  have hsplit (x : State) (hx : x.tray.phase ≠ .empty) : LawKept x (splitWaitOver x) :=
    .of_carry (by simp) (by simp) (by simp) (carry_of_onward (splitWaitOver_onward x hx))
  unfold handToTray
  dsimp only
  split
  next hphase _ =>
    split
    · exact (hheld _).trans (hsplit _ (by rw [hphase]; decide))
    · exact hheld _
  next => exact hheld _

theorem missFeed_kept (g : Grant) (e : QueueEntry) : LawKept s (missFeed s g e) := by
  have hhead (x : State) : LawKept x (removeClosed (newHead x g.link)) := by
    apply LawKept.of_frame <;> simp
  unfold missFeed
  dsimp only
  split
  · refine LawKept.trans ?_ (handOver_kept.trans (hhead _))
    apply LawKept.of_frame <;> simp
  all_goals
    refine LawKept.trans ?_ (hhead _)
    apply LawKept.of_frame <;> simp

theorem receiveChr_kept (l : Link) (c : Chr) : LawKept s (receiveChr l c s) := by
  apply LawKept.of_frame <;> simp

theorem elapse_kept (n : Nat) : LawKept s (elapse n s) := .of_frame rfl rfl rfl rfl

end Sys2Proof.Machine.PocketRecords
end

section
/-!
PROOFS. One pocket record at a time (R118): its look-up after a change, POCKET-FULL, and the options judged in order (R110).
-/
namespace Sys2Proof.Machine.PocketRecords

open SetAssembly PocketTower

variable {s t : State} {p q : Nat} {k : Pocket} {f : Pocket → Pocket}

/-! ## One record (R118) -/

theorem lt_of_record (hk : s.pockets[p]? = some k) : p < s.pockets.length := (List.getElem?_eq_some_iff.1 hk).1

theorem changePocket_record (f : Pocket → Pocket) (p q : Nat) :
    (changePocket s p f).pockets[q]? = if q = p then (s.pockets[q]?).map f else s.pockets[q]? :=
  changeAt_getElem? f p q s.pockets

theorem pocketOf_changePocket (f : Pocket → Pocket) (hp : p < s.pockets.length) :
    pocketOf (changePocket s p f) p = f (pocketOf s p) := by
  unfold pocketOf
  rw [changePocket_record, if_pos rfl]
  simp [List.getElem?_eq_getElem hp]

theorem pocketOf_changePocket_ne (f : Pocket → Pocket) (hq : q ≠ p) :
    pocketOf (changePocket s p f) q = pocketOf s q := by
  unfold pocketOf
  rw [changePocket_record, if_neg hq]

theorem changePocket_law (h : s.CapacityLaw)
    (hf : p < 40 → ∀ k : Pocket, k.fill ≤ capacityOf s p → (f k).fill ≤ capacityOf s p) :
    (changePocket s p f).CapacityLaw where
  pocketCount := ⟨by simpa [changePocket] using h.pocketCount.1, h.pocketCount.2⟩
  pocket q hq := by
    show (pocketOf (changePocket s p f) q).fill ≤ capacityOf s q
    by_cases hp : q = p
    · subst hp
      rw [pocketOf_changePocket f (h.pocketCount.1 ▸ hq)]
      exact hf hq _ (h.pocket q hq)
    · rw [pocketOf_changePocket_ne f hp]
      exact h.pocket q hq
  stacker := h.stacker
  carried := h.carried
  unmarked := h.unmarked

theorem notify_kept (r j : Nat) (b : NoticeBody) : LawKept s (notify s r j b) := by
  apply LawKept.of_frame <;> simp

theorem fillUp_law (h : s.CapacityLaw) (r j : Nat) (c : Option Nat) : (fillUp s p r j c).CapacityLaw :=
  (notify_kept _ _ _).law (changePocket_law h fun _ _ hk => hk)

/-! ## Admission (R110, R112, R113) -/

theorem judgeOptions_law (g : Segment) (c : Nat) (os : List ChainOption) :
    ∀ s : State, s.CapacityLaw → (judgeOptions s g c os).1.CapacityLaw := by
  induction os with
  | nil => exact fun s h => h
  | cons o os ih =>
    intro s h
    unfold judgeOptions
    split
    · split
      · exact h
      · exact ih s h
    · split
      · split
        · exact h
        · exact ih _ (fillUp_law h _ _ _)
      · exact ih s h

/-- R110: the stacker is the answer only where the charge fits it. -/
theorem judgeOptions_stacker_fits (g : Segment) (c : Nat) (os : List ChainOption) :
    ∀ (s : State) (o : ChainOption), (judgeOptions s g c os).2 = some o → o.dest = .stacker →
      s.stacker.fill + c ≤ 30000 := by
  induction os with
  | nil => exact fun s o ho => by simp [judgeOptions] at ho
  | cons x os ih =>
    intro s o ho hd
    unfold judgeOptions at ho
    split at ho
    · split at ho
      next hfit => exact hfit
      next => exact ih s o ho hd
    next p hp =>
      split at ho
      · split at ho
        · obtain rfl := Option.some.inj ho
          rw [hp] at hd
          cases hd
        · simpa using ih _ o ho hd
      · exact ih s o ho hd

theorem aim_law (h : s.CapacityLaw) (os : List ChainOption) : (aim s os).CapacityLaw := by
  unfold aim
  split
  next g c hg hc =>
    have hlaw := judgeOptions_law g c os s h
    have hfits := judgeOptions_stacker_fits g c os s
    have hframe := judgeOptions_frame s g c os
    split
    next t o ho =>
      rw [ho] at hlaw hfits hframe
      dsimp only at hframe hfits
      constructor
      case pocketCount => exact hlaw.pocketCount
      case pocket => exact hlaw.pocket
      case stacker => exact hlaw.stacker
      case unmarked => exact hlaw.unmarked
      case carried =>
        intro n x _ hn hx hd
        simp_all [carryTo]
    next t ho =>
      rw [ho] at hlaw
      refine LawKept.law (.of_carry (by simp) (by simp) (by simp) ?_) hlaw
      unfold block
      dsimp only
      split <;> simp
  next => exact h

theorem retry_law (h : s.CapacityLaw) : (retry s).CapacityLaw := by
  unfold retry
  split
  · split
    · exact aim_law h _
    · exact h
  all_goals exact h

theorem retarget_law (h : s.CapacityLaw) (p : Nat) : (retarget s p).CapacityLaw := by
  unfold retarget
  split
  · split
    · exact aim_law h _
    · exact h
  · exact h

theorem endSessionAt_law (h : s.CapacityLaw) (p : Nat) (c : EndCause) : (endSessionAt s p c).CapacityLaw := by
  unfold endSessionAt
  split
  · split
    · exact (endSession_kept _ _).law h
    · exact h
  · exact h

end Sys2Proof.Machine.PocketRecords
end

section
/-!
PROOFS. The capacity law (R118) where a pocket or the stacker is filled: the deposit (R115), the inserted sheet (R131), the
commit (R122, R142), the drawer and floor events (R119 to R121) and the starts (R123, R169).
-/
namespace Sys2Proof.Machine.PocketRecords

open SetAssembly PocketTower

variable {s t : State} {p q : Nat} {k : Pocket}

/-! ## Deposits and inserted sheets (R115, R131) -/

theorem depositInto_pocket_law (h : s.CapacityLaw) (g : Segment) (c p : Nat) :
    (depositInto s g c (.pocket p)).CapacityLaw := by
  have hdeposit : (changePocket s p (fun k => k.deposit (capacityOf s p) c)).CapacityLaw :=
    changePocket_law h fun _ k _ => by simp [Pocket.deposit]
  unfold depositInto
  dsimp only
  split
  · exact fillUp_law hdeposit _ _ _
  · exact hdeposit

theorem dropped_law (h : s.CapacityLaw) {g : Segment} {c : Nat} {o : ChainOption} (hp : s.tower.phase = .carrying)
    (hc : s.tower.charge = some c) (ho : s.tower.target = some o) : (dropped s g c o).CapacityLaw := by
  cases hd : o.dest with
  | pocket p =>
    refine LawKept.law ?_ (depositInto_pocket_law h g c p)
    rw [dropped, hd]
    exact .of_carry rfl rfl rfl (by simp [Tower.idle])
  | stacker =>
    have hfit : s.stacker.fill + c ≤ 30000 := h.carried c o hp hc ho hd
    rw [dropped, hd]
    exact ⟨h.pocketCount, h.pocket, hfit, by simp [Tower.idle], h.unmarked⟩

theorem depositSegment_law (h : s.CapacityLaw) {g : Segment} {c : Nat} {o : ChainOption}
    (hp : s.tower.phase = .carrying) (hc : s.tower.charge = some c) (ho : s.tower.target = some o) :
    (depositSegment s g c o).CapacityLaw := by
  have hdelivered : LawKept (dropped s g c o) (delivered s g c o) := by
    unfold delivered
    dsimp only
    split <;> apply LawKept.of_frame <;> simp
  have htold (x : State) : LawKept x (trayToldDeposit x g) := by
    unfold trayToldDeposit
    split
    · split
      · exact emptyOutcome_kept _
      · exact .refl
    · exact .refl
  refine LawKept.law ?_ (dropped_law h (g := g) hp hc ho)
  rw [depositSegment_eq]
  split
  · exact (hdelivered.trans (htold _)).trans (afterFinal_kept g)
  · exact hdelivered.trans (htold _)

theorem addSheetToPocket_law (h : s.CapacityLaw) (z : Session) : (addSheetToPocket s z).CapacityLaw := by
  have hadd : (changePocket s z.target (fun k =>
      { k with fill := min (capacityOf s z.target) (k.fill + thickness s z.grade) })).CapacityLaw :=
    changePocket_law h fun _ k _ => by simp
  unfold addSheetToPocket
  dsimp only
  split
  · exact fillUp_law hadd _ _ _
  · exact hadd

theorem countInserted_law (h : s.CapacityLaw) (z : Session) : (countInserted s z).CapacityLaw := by
  have hsession (x : Option Session) : LawKept s { s with session := x } := .of_frame rfl rfl rfl rfl
  have hadded : (addSheetToPocket { s with session := some z.countSheet } z.countSheet).CapacityLaw :=
    addSheetToPocket_law ((hsession _).law h) _
  unfold countInserted
  dsimp only
  split
  · exact (endSession_kept _ _).law hadded
  · exact hadded

/-! ## Configurations (R122) -/

/-- R122: no reaction of a pocket's record raises its fill. -/
theorem react_fill_le (was now drawerIn floorEmpty : Bool) : (k.react was now drawerIn floorEmpty).fill ≤ k.fill := by
  unfold Pocket.react
  repeat' split
  all_goals simp [Pocket.emptied]

/-- R122: the record of pocket `p` after the reaction to the configuration `now`, `old` before it. -/
def reacted (s : State) (p : Nat) (old now : PocketConfig) (k : Pocket) : Pocket :=
  let k1 := k.react old.enabled now.enabled (s.pins.pockets.drawersIn.getLsbD p) (s.pins.pockets.floorsEmpty.getLsbD p)
  if now.capacity = old.capacity then k1 else k1.refit now.capacity

/-- R122: a record's fill never rises in its reaction, and comes within the new capacity where it was within the old or
the new one. -/
theorem reacted_fill (old now : PocketConfig) : (reacted s p old now k).fill ≤ k.fill ∧
    (k.fill ≤ old.capacity ∨ k.fill ≤ now.capacity → (reacted s p old now k).fill ≤ now.capacity) := by
  have hreact := react_fill_le (k := k) old.enabled now.enabled (s.pins.pockets.drawersIn.getLsbD p)
    (s.pins.pockets.floorsEmpty.getLsbD p)
  unfold reacted
  dsimp only
  split
  · omega
  · simp only [Pocket.refit]
    omega

/-- R122: the reaction changes pocket `p`'s record, and sends a notice at most. -/
theorem reactPocket_pockets {now : PocketConfig} (hn : (s.tables.pockets[p]?).map (·.active) = some now)
    (old : PocketConfig) : (reactPocket s p old).pockets =
      (changePocket s p (fun _ => reacted s p old now (pocketOf s p))).pockets := by
  unfold reactPocket
  dsimp only
  split <;> simp [hn, reacted]

theorem reactPocket_length {old : PocketConfig} : (reactPocket s p old).pockets.length = s.pockets.length := by
  unfold reactPocket
  dsimp only
  split <;> simp

theorem reactPocket_other (old : PocketConfig) (hq : q ≠ p) : pocketOf (reactPocket s p old) q = pocketOf s q := by
  have hrecords : (reactPocket s p old).pockets[q]? = s.pockets[q]? := by
    unfold reactPocket
    dsimp only
    split <;> simp [changeAt_getElem?, hq]
  unfold pocketOf
  rw [hrecords]

/-- R118, R142: pocket `p`'s fill is within the capacity in force, or within that of an entry of `ps` that its record has
yet to react to. -/
def FitsOrAwaits (s : State) (ps : List (Nat × PocketConfig)) (p : Nat) : Prop :=
  (pocketOf s p).fill ≤ capacityOf s p ∨ ∃ old, (p, old) ∈ ps ∧ (pocketOf s p).fill ≤ old.capacity

theorem reactPocket_fitsOrAwaits {old : PocketConfig} {ps : List (Nat × PocketConfig)} (hp : p < s.pockets.length)
    (ht : p < s.tables.pockets.length) (h : FitsOrAwaits s ((p, old) :: ps) p) :
    FitsOrAwaits (reactPocket s p old) ps p := by
  have hn : (s.tables.pockets[p]?).map (·.active) = some (s.tables.pockets[p].active) := by simp [ht]
  have hcap : capacityOf s p = s.tables.pockets[p].active.capacity := by simp [capacityOf, ht]
  have hcap' : capacityOf (reactPocket s p old) p = capacityOf s p := by simp [capacityOf]
  have hrecord : pocketOf (reactPocket s p old) p = reacted s p old (s.tables.pockets[p].active) (pocketOf s p) := by
    rw [pocketOf, reactPocket_pockets hn, ← pocketOf, pocketOf_changePocket _ hp]
  obtain ⟨hle, hfits⟩ := reacted_fill (s := s) (p := p) (k := pocketOf s p) old (s.tables.pockets[p].active)
  unfold FitsOrAwaits
  rw [hcap', hcap, hrecord]
  rcases h with h | ⟨x, hx, h⟩
  · exact .inl (hfits (.inr (hcap ▸ h)))
  · rcases List.mem_cons.1 hx with hx | hx
    · exact .inl (hfits (.inl ((Prod.mk.inj hx).2 ▸ h)))
    · exact .inr ⟨x, hx, hle.trans h⟩

/-- R122, R142: when the records of all applied entries have reacted, every fill is within the capacity in force. -/
theorem foldl_reactPocket_fits (ps : List (Nat × PocketConfig)) : ∀ s : State, s.pockets.length = 40 →
    s.tables.pockets.length = 40 → (∀ p, p < 40 → FitsOrAwaits s ps p) →
    ∀ p, p < 40 → (pocketOf (ps.foldl (fun x e => reactPocket x e.1 e.2) s) p).fill ≤ capacityOf s p := by
  induction ps with
  | nil => exact fun s _ _ h p hp => (h p hp).resolve_right fun ⟨_, hmem, _⟩ => by simp at hmem
  | cons x ps ih =>
    obtain ⟨m, old⟩ := x
    intro s hlen htab h p hp
    have hcap (r : Nat) : capacityOf (reactPocket s m old) r = capacityOf s r := by simp [capacityOf]
    rw [List.foldl_cons, ← hcap p]
    refine ih (reactPocket s m old) (reactPocket_length.trans hlen) (by simpa using htab) (fun r hr => ?_) p hp
    by_cases hrm : r = m
    · subst hrm
      exact reactPocket_fitsOrAwaits (hlen ▸ hr) (htab ▸ hr) (h r hr)
    · unfold FitsOrAwaits
      rw [reactPocket_other old hrm, hcap r]
      refine (h r hr).imp_right fun ⟨y, hy, hfill⟩ => ⟨y, ?_, hfill⟩
      exact (List.mem_cons.1 hy).resolve_left fun he => hrm (Prod.mk.inj he).1

theorem foldl_reactPocket_frame (ps : List (Nat × PocketConfig)) : ∀ s : State,
    (ps.foldl (fun x e => reactPocket x e.1 e.2) s).pockets.length = s.pockets.length ∧
    (ps.foldl (fun x e => reactPocket x e.1 e.2) s).tables = s.tables ∧
    (ps.foldl (fun x e => reactPocket x e.1 e.2) s).stacker = s.stacker ∧
    (ps.foldl (fun x e => reactPocket x e.1 e.2) s).tower = s.tower := by
  induction ps with
  | nil => exact fun s => ⟨rfl, rfl, rfl, rfl⟩
  | cons x ps ih =>
    intro s
    obtain ⟨hlen, htab, hst, htow⟩ := ih (reactPocket s x.1 x.2)
    exact ⟨hlen.trans reactPocket_length, htab.trans (by simp), hst.trans (by simp), htow.trans (by simp)⟩

/-! ## COMMIT (R141, R142) -/

theorem mem_readyPockets {es : List (Entry PocketConfig)} {e : Entry PocketConfig} (he : e.ready = true) : ∀ {n i : Nat},
    es[i]? = some e → (n + i, e.active) ∈ readyPockets n es := by
  induction es with
  | nil => simp
  | cons x xs ih =>
    intro n i hi
    cases i with
    | zero =>
      obtain rfl : x = e := by simpa using hi
      simp [readyPockets, he]
    | succ i =>
      have hmem : (n + 1 + i, e.active) ∈ readyPockets (n + 1) xs := ih (by simpa using hi)
      rw [Nat.add_right_comm, Nat.add_assoc] at hmem
      exact List.mem_append_right _ hmem

/-- R113, R142: a carry to one of the pockets `ps` that is no longer AVAILABLE re-targets. -/
def leaveLost (ps : List Nat) (s : State) : State :=
  match s.tower.target.map (·.dest) with
  | some (Dest.pocket p) => if ps.contains p && (pocketOf s p).state != .available then retarget s p else s
  | _ => s

/-- R133, R142: a session at one of the pockets `ps` that is DISABLED ends. -/
def endDisabled (ps : List Nat) (s : State) : State :=
  match s.session with
  | some z =>
    if ps.contains z.target && (pocketOf s z.target).state == .disabled then endSessionAt s z.target .targetDisabled
    else s
  | none => s

theorem afterPockets_eq (ps : List Nat) (s : State) :
    afterPockets ps s = if ps.isEmpty then s else endDisabled ps (leaveLost ps (retry s)) := rfl

theorem leaveLost_law (h : s.CapacityLaw) (ps : List Nat) : (leaveLost ps s).CapacityLaw := by
  unfold leaveLost
  split
  · split
    · exact retarget_law h _
    · exact h
  · exact h

theorem endDisabled_law (h : s.CapacityLaw) (ps : List Nat) : (endDisabled ps s).CapacityLaw := by
  unfold endDisabled
  split
  · split
    · exact endSessionAt_law h _ _
    · exact h
  · exact h

theorem afterPockets_law (h : s.CapacityLaw) (ps : List Nat) : (afterPockets ps s).CapacityLaw := by
  rw [afterPockets_eq]
  split
  · exact h
  · exact endDisabled_law (leaveLost_law (retry_law h) ps) ps

/-- R141: the marks of a COMMIT. -/
theorem mark_pockets (scope : Nat) (t : Tables) : ∃ b : Bool,
    (t.mark scope).pockets = t.pockets.map (fun e => if b then e.mark else e) := by
  cases hb : inScope scope 3 with
  | false => exact ⟨false, by simp [Tables.mark, hb]⟩
  | true => exact ⟨true, by simp [Tables.mark, hb]⟩


theorem apply_unreferenced {α : Type} {e : Entry α} (hr : e.refs = 0) : e.apply.marked = false ∧ e.apply.refs = 0 := by
  cases hm : e.marked <;> simp [Entry.apply, Entry.ready, hm, hr]

theorem apply_active_of_not_ready {α : Type} {e : Entry α} (h : e.ready = false) : e.apply.active = e.active := by
  simp [Entry.apply, h]

/-- R141, R142: an application is lawful in a part whose pocket entries a COMMIT has marked, or not. -/
theorem applyCommit_law (h : s.CapacityLaw) (b : Bool) (hp : t.pockets = s.pockets) (hs : t.stacker = s.stacker)
    (hw : t.tower = s.tower) (hc : t.tables.pockets = s.tables.pockets.map (fun e => if b then e.mark else e)) :
    (applyCommit t).CapacityLaw := by
  let x : State := { t with tables := t.tables.apply }
  let ps := readyPockets 0 t.tables.pockets
  have hunmarked : ∀ e ∈ x.tables.pockets, e.marked = false ∧ e.refs = 0 := by
    intro e he
    obtain ⟨e1, he1, rfl⟩ := List.mem_map.1 he
    rw [hc] at he1
    obtain ⟨e0, he0, rfl⟩ := List.mem_map.1 he1
    apply apply_unreferenced
    cases b <;> exact (h.unmarked e0 he0).2
  have hlength : x.tables.pockets.length = 40 := by simp [x, Tables.apply, hc, h.pocketCount.2]
  have hfits : ∀ p, p < 40 → FitsOrAwaits x ps p := by
    intro p hp40
    have hlt : p < s.tables.pockets.length := h.pocketCount.2 ▸ hp40
    have hfill : (pocketOf x p).fill ≤ s.tables.pockets[p].active.capacity := by
      have := h.pocket p hp40
      simpa [x, pocketOf, hp, capacityOf, hlt] using this
    obtain ⟨e, he, hactive⟩ : ∃ e, t.tables.pockets[p]? = some e ∧ e.active = s.tables.pockets[p].active := by
      refine ⟨_, by rw [hc, List.getElem?_map, List.getElem?_eq_getElem hlt]; rfl, ?_⟩
      cases b <;> rfl
    cases hr : e.ready with
    | true => exact .inr ⟨e.active, by simpa using mem_readyPockets hr (n := 0) he, hactive ▸ hfill⟩
    | false =>
      have hcap : capacityOf x p = s.tables.pockets[p].active.capacity := by
        simp [x, capacityOf, Tables.apply, he, apply_active_of_not_ready hr, hactive]
      exact .inl (hcap ▸ hfill)
  obtain ⟨hlen, htab, hst, htow⟩ := foldl_reactPocket_frame ps x
  have hreacted : (ps.foldl (fun y e => reactPocket y e.1 e.2) x).CapacityLaw := by
    refine ⟨⟨hlen.trans (hp ▸ h.pocketCount.1), htab ▸ hlength⟩, fun p hp40 => ?_, ?_, ?_, htab ▸ hunmarked⟩
    · have := foldl_reactPocket_fits ps x (hp ▸ h.pocketCount.1) hlength hfits p hp40
      rwa [capacityOf, htab]
    · rw [hst]
      exact hs ▸ h.stacker
    · rw [hst, htow]
      show ∀ c o, t.tower.phase = .carrying → _
      rw [hw]
      exact hs ▸ h.carried
  have hdone (y : State) (n : Nat) : LawKept y (commitDoneTest y n) := by apply LawKept.of_frame <;> simp
  exact (hdone _ _).law (afterPockets_law hreacted _)

theorem ownCommit_law (h : s.CapacityLaw) (pins : PocketPins) (l : Link) (f : Frame) :
    (ownCommit pins l f s).CapacityLaw := by
  obtain ⟨b, hb⟩ := mark_pockets (field f.payload 0) s.tables
  unfold ownCommit
  dsimp only
  split
  · exact LawKept.law (.of_frame (by simp) (by simp) (by simp) (by simp)) h
  · exact settle_kept.law (applyCommit_law h b (by simp) (by simp) (by simp) (by simpa using hb))

/-! ## Drawers and floors (R119 to R121) -/

theorem sensed_kept (d : Bool) : LawKept s (senseDrawer s p d) := .of_frame rfl rfl rfl rfl

theorem drawerOpen_law (h : s.CapacityLaw) :
    (settle (endSessionAt (answerDrawerOpen (withdrawPocket s p) p) p .drawer)).CapacityLaw := by
  have hwithdrawn : (withdrawPocket s p).CapacityLaw :=
    (notify_kept _ _ _).law (changePocket_law h fun _ _ hk => hk)
  refine settle_kept.law (endSessionAt_law ?_ _ _)
  unfold answerDrawerOpen
  split
  · exact retry_law hwithdrawn
  all_goals exact retarget_law hwithdrawn _

theorem returned_fill_le (empty : Bool) : (k.returned empty).fill ≤ k.fill := by
  cases empty <;> simp [Pocket.returned, Pocket.emptied]

theorem drawerClose_law (h : s.CapacityLaw) (empty : Bool) :
    (settle (retry (tellReturned (changePocket s p (fun k => k.returned empty)) p))).CapacityLaw := by
  have hreturned : (changePocket s p (fun k => k.returned empty)).CapacityLaw :=
    changePocket_law h fun _ k hk => (returned_fill_le empty).trans hk
  have htold (x : State) : LawKept x (tellReturned x p) := by apply LawKept.of_frame <;> simp
  exact settle_kept.law (retry_law ((htold _).law hreturned))

theorem floorEmpty_law (h : s.CapacityLaw) :
    (settle (retry (notifyReturned (changePocket s p Pocket.emptied) p))).CapacityLaw := by
  have hemptied : (changePocket s p Pocket.emptied).CapacityLaw :=
    changePocket_law h fun _ k _ => by simp [Pocket.emptied]
  have htold (x : State) : LawKept x (notifyReturned x p) := by apply LawKept.of_frame <;> simp
  exact settle_kept.law (retry_law ((htold _).law hemptied))

theorem stackerEmptied_law (h : s.CapacityLaw) : ({ s with stacker := { fill := 0, side := .right } } : State).CapacityLaw :=
  ⟨h.pocketCount, h.pocket, Nat.zero_le _,
    fun c o hp hc ho hd => by have := h.carried c o hp hc ho hd; simp only; omega, h.unmarked⟩

/-! ## Receipt (R108) -/

theorem receiveSegment_law (h : s.CapacityLaw) (hp : s.tower.phase = .receiving) (r : SetRec) (c : SegClose) :
    (receiveSegment s r c).CapacityLaw := by
  unfold receiveSegment
  refine aim_law (LawKept.law ?_ h) _
  exact .of_carry rfl rfl rfl (by simp [trayToldReceived, hp])

/-! ## Starts (R123, R169) -/

theorem rescan_fill_le (drawerIn floorEmpty : Bool) : (k.rescan drawerIn floorEmpty).fill ≤ k.fill := by
  unfold Pocket.rescan
  split
  · exact le_rfl
  · split
    · exact returned_fill_le _
    · exact le_rfl
  all_goals split <;> exact le_rfl

theorem rescanFrom_length (size : Nat) (pins : PocketPins) (ks : List Pocket) : ∀ n,
    (rescanFrom size pins n ks).length = ks.length := by
  induction ks with
  | nil => exact fun _ => rfl
  | cons k ks ih => exact fun n => congrArg (· + 1) (ih (n + 1))

/-- R123: a kept record's fill does not rise. -/
theorem rescanFrom_fill_le (size : Nat) (pins : PocketPins) (ks : List Pocket) : ∀ n i : Nat,
    (((rescanFrom size pins n ks)[i]?).getD Pocket.fresh).fill ≤ ((ks[i]?).getD Pocket.fresh).fill := by
  induction ks with
  | nil => exact fun n i => le_rfl
  | cons k ks ih =>
    intro n i
    cases i with
    | zero =>
      simp only [rescanFrom, List.getElem?_cons_zero, Option.getD_some]
      split
      · exact le_rfl
      · exact rescan_fill_le _ _
    | succ i => simpa [rescanFrom] using ih (n + 1) i

theorem startKept_law (h : s.CapacityLaw) (pins : Pins) : (startKept pins s).CapacityLaw := by
  have hkept : LawKept s (keptPart pins s) :=
    .of_carry rfl rfl rfl (by simp [keptPart, clearedPart, State.reset, Tower.idle])
  have hlaw := ((hkept.trans removeClosed_kept).trans applyReleased_kept).law h
  refine ⟨⟨?_, hlaw.pocketCount.2⟩, fun p hp => ?_, hlaw.stacker, hlaw.carried, hlaw.unmarked⟩
  · exact (rescanFrom_length _ _ _ _).trans hlaw.pocketCount.1
  · exact (rescanFrom_fill_le _ _ _ 0 p).trans (hlaw.pocket p hp)

theorem freshPocket_fill (size p : Nat) (pins : PocketPins) : (freshPocket size p pins).fill = 0 := by
  unfold freshPocket
  dsimp only
  repeat' split
  all_goals rfl

theorem startCleared_law (pins : Pins) : (startCleared pins s).CapacityLaw where
  pocketCount := by simp [startCleared, clearedPart, State.reset, Tables.default, Config.pocketCount]
  pocket p hp := by
    have hfill : (pocketOf (startCleared pins s) p).fill = 0 := by
      simp [pocketOf, startCleared, Config.pocketCount, List.getElem?_range hp, freshPocket_fill]
    simp [hfill]
  stacker := Nat.zero_le _
  carried c o hp := by simp [startCleared, clearedPart, State.reset, Tower.idle] at hp
  unmarked e he := by
    obtain ⟨-, rfl⟩ := List.mem_replicate.1 he
    exact ⟨rfl, rfl⟩

theorem startUpReads_kept : LawKept s (startUpReads s) := by
  have hfault (x : State) (b : Bool) (d : FaultDetail) : LawKept x (if b then raiseFault x d else x) := by
    cases b
    · exact .refl
    · exact raiseFault_kept d
  exact (hfault s _ _).trans (hfault _ _ _)

end Sys2Proof.Machine.PocketRecords
end

section
/-!
PROOFS. The capacity law (R118) through every command and every step.
-/
namespace Sys2Proof.Machine.PocketRecords

open SetAssembly PocketTower

section Commands
variable {s t : State}

/-- The answer is no next state that breaks the capacity law. -/
def Lawful (o : Out) : Prop := ∀ t, o = .next t → t.CapacityLaw

theorem lawful_next (h : t.CapacityLaw) : Lawful (.next t) := by
  intro u hu
  cases hu
  exact h

theorem lawful_fault (r : Fault) : Lawful (.fault r) := fun _ h => nomatch h

theorem lawful_of_kept (h : s.CapacityLaw) (hk : LawKept s t) : Lawful (.next t) := lawful_next (hk.law h)

/-- A command that the handler takes. -/
theorem lawful_handle (h : s.CapacityLaw) {wanted : Frame → Bool} {owner : Link → Frame → State → State} {l : Link}
    (ho : ∀ f x, LawKept x (owner l f x)) : Lawful (.next (handle wanted owner l s)) :=
  lawful_of_kept h (handle_kept ho)

/-! ## The sheet path and the sequencer (R49, R53, R62, R63, R71 to R89) -/

theorem advanceTo_kept (x : Tick) : LawKept s (advanceTo x s) := .of_frame rfl rfl rfl rfl

theorem pins_kept (pins : Pins) : LawKept s { s with pins := pins } := .of_frame rfl rfl rfl rfl

theorem leadCapture_lawful (h : s.CapacityLaw) (l : Link) (x : Tick) : Lawful (execLeadCapture l x s) := by
  have hsensed : LawKept s (senseEntry s l true) := pins_kept _
  unfold execLeadCapture
  refine lawful_of_kept h ?_
  split
  · exact hsensed.trans ((advanceTo_kept x).trans ((captureLead_kept l x).trans settle_kept))
  · exact hsensed

theorem trailCapture_lawful (h : s.CapacityLaw) (l : Link) (x : Tick) : Lawful (execTrailCapture l x s) := by
  have hsensed : LawKept s (senseEntry s l false) := pins_kept _
  unfold execTrailCapture
  refine lawful_of_kept h ?_
  split
  · exact hsensed.trans ((advanceTo_kept x).trans (.of_frame rfl rfl rfl rfl))
  · exact hsensed

theorem gateDecision_lawful (h : s.CapacityLaw) : Lawful (execGateDecision s) := by
  unfold execGateDecision
  refine lawful_of_kept h ?_
  split
  · exact .refl
  · split
    · refine LawKept.trans ?_ settle_kept
      apply LawKept.of_frame <;> simp
    · exact .refl

theorem arrivalDeadline_lawful (h : s.CapacityLaw) (i : Nat) : Lawful (execArrivalDeadline i s) := by
  unfold execArrivalDeadline
  refine lawful_of_kept h ?_
  split
  · exact .refl
  · split
    · exact .refl
    · split
      · unfold missDeadline
        refine LawKept.trans ?_ (raiseFault_kept _)
        dsimp only
        split <;> exact .of_frame rfl rfl rfl rfl
      · exact .refl

theorem stLeadEdge_lawful (h : s.CapacityLaw) : Lawful (execStLeadEdge s) := by
  unfold execStLeadEdge
  refine lawful_of_kept h ?_
  split
  · split
    · exact (pins_kept _).trans (raiseFault_kept _)
    · refine LawKept.trans ?_ ((handToTray_kept _).trans (removeClosed_kept.trans settle_kept))
      exact .of_frame rfl rfl rfl rfl
  · exact pins_kept _

theorem spLeadEdge_lawful (h : s.CapacityLaw) : Lawful (execSpLeadEdge s) := by
  unfold execSpLeadEdge
  refine lawful_of_kept h ?_
  split
  · split
    · exact (pins_kept _).trans (raiseFault_kept _)
    · refine LawKept.trans ?_ (removeClosed_kept.trans settle_kept)
      apply LawKept.of_frame <;> simp
  · exact pins_kept _

theorem feedWindowExpiry_lawful (h : s.CapacityLaw) : Lawful (execFeedWindowExpiry s) := by
  unfold execFeedWindowExpiry
  refine lawful_of_kept h ?_
  split
  · split
    · exact (missFeed_kept _ _).trans settle_kept
    · exact .refl
  · exact .refl

theorem stallTimerExpiry_lawful (h : s.CapacityLaw) : Lawful (execStallTimerExpiry s) := by
  unfold execStallTimerExpiry
  refine lawful_of_kept h ?_
  split
  · refine LawKept.trans ?_ settle_kept
    exact .of_frame rfl rfl rfl rfl
  · exact .refl

theorem shelfUp_lawful (h : s.CapacityLaw) : Lawful (execShelfUp s) := by
  unfold execShelfUp
  refine lawful_of_kept h ?_
  split
  · refine LawKept.trans ?_ settle_kept
    exact .of_frame rfl rfl rfl rfl
  · exact .refl

theorem shelfDown_lawful (h : s.CapacityLaw) : Lawful (execShelfDown s) := by
  unfold execShelfDown
  refine lawful_of_kept h ?_
  split
  · refine LawKept.trans ?_ settle_kept
    exact .of_frame rfl rfl rfl rfl
  · exact .refl

/-- A timer's expiry that raises a fault while the timer runs. -/
theorem faultExpiry_lawful (h : s.CapacityLaw) (timer : Option Nat) (d : FaultDetail) :
    Lawful (.next (match timer with | some _ => raiseFault s d | none => s)) := by
  cases timer with
  | none => exact lawful_next h
  | some _ => exact lawful_of_kept h (raiseFault_kept d)

theorem positioningTimerExpiry_lawful (h : s.CapacityLaw) : Lawful (execPositioningTimerExpiry s) := by
  unfold execPositioningTimerExpiry
  refine lawful_of_kept h ?_
  split
  · exact raiseFault_kept _
  · exact .refl

/-! ## The stapler (R99 to R101) -/

theorem reportFired_kept (hp : s.tray.phase ≠ .empty) : LawKept s (reportFired s) :=
  .of_carry (by simp) (by simp) (by simp) (carry_of_onward (reportFired_onward hp))

theorem reportJam_kept (hp : s.tray.phase ≠ .empty) : LawKept s (reportJam s) :=
  .of_carry (by simp) (by simp) (by simp) (carry_of_onward (reportJam_onward hp))

theorem staplerCompletion_lawful (h : s.CapacityLaw) : Lawful (execStaplerCompletion s) := by
  have hfired : LawKept s (staplesLowTest (finishFire s) s.stapler.cartridge) := by
    apply LawKept.of_frame <;> simp
  unfold execStaplerCompletion
  refine lawful_of_kept h ?_
  split
  · dsimp only
    split
    next htaken =>
      have hphase := tray_ne_empty_of_told htaken
      exact hfired.trans ((reportFired_kept (by simpa using hphase)).trans settle_kept)
    next => exact hfired
  all_goals exact .refl

theorem completionTimerExpiry_lawful (h : s.CapacityLaw) : Lawful (execCompletionTimerExpiry s) := by
  unfold execCompletionTimerExpiry
  refine lawful_of_kept h ?_
  split
  next o _ _ =>
    have hjammed : LawKept s (jamStapler s o) := by apply LawKept.of_frame <;> simp
    split
    next htaken =>
      have hphase := tray_ne_empty_of_told htaken
      exact hjammed.trans ((reportJam_kept (by simpa using hphase)).trans settle_kept)
    next => exact hjammed
  next => exact .refl

theorem recoveryWindowEnd_lawful (h : s.CapacityLaw) : Lawful (execRecoveryWindowEnd s) := by
  unfold execRecoveryWindowEnd
  refine lawful_of_kept h ?_
  split
  · apply LawKept.of_frame <;> simp
  · exact .refl

theorem staplerHome_lawful (h : s.CapacityLaw) : Lawful (execStaplerHome s) := by
  unfold execStaplerHome
  refine lawful_of_kept h ?_
  split
  · exact .of_frame rfl rfl rfl rfl
  all_goals exact .refl

/-! ## The tower, the pockets and the insert session (R103 to R134) -/

theorem setReceived_lawful (h : s.CapacityLaw) : Lawful (execSetReceived s) := by
  unfold execSetReceived
  refine lawful_next ?_
  split
  next x hx =>
    have hreceiving : s.tower.phase = .receiving := by
      unfold segmentArriving at hx
      split at hx
      next ht _ _ _ => exact ht
      next => cases hx
    exact settle_kept.law (receiveSegment_law h hreceiving _ _)
  next => exact h

theorem depositComplete_lawful (h : s.CapacityLaw) : Lawful (execDepositComplete s) := by
  unfold execDepositComplete
  refine lawful_next ?_
  split
  next x hx =>
    unfold depositing at hx
    split at hx
    next hp hg hc ho =>
      split at hx
      · cases hx
        exact settle_kept.law (depositSegment_law h hp hc ho)
      · cases hx
    next => cases hx
  next => exact h

theorem drawerOpen_lawful (h : s.CapacityLaw) (p : Nat) : Lawful (execDrawerOpen p s) := by
  have hsensed := (sensed_kept (s := s) (p := p) false).law h
  unfold execDrawerOpen
  split
  · dsimp only
    split
    · exact lawful_next (drawerOpen_law hsensed)
    · exact lawful_next hsensed
  · exact lawful_fault _

theorem drawerClose_lawful (h : s.CapacityLaw) (p : Nat) (empty : Bool) : Lawful (execDrawerClose p empty s) := by
  have hsensed : (senseFloor (senseDrawer s p true) p empty).CapacityLaw := ((sensed_kept true).trans (pins_kept _)).law h
  unfold execDrawerClose
  split
  · dsimp only
    split
    · exact lawful_next (drawerClose_law hsensed empty)
    · exact lawful_next hsensed
  · exact lawful_fault _

theorem floorEmpty_lawful (h : s.CapacityLaw) (p : Nat) : Lawful (execFloorEmpty p s) := by
  have hsensed : (senseFloor s p true).CapacityLaw := (pins_kept _).law h
  unfold execFloorEmpty
  split
  · dsimp only
    split
    · exact lawful_next (floorEmpty_law hsensed)
    · exact lawful_next hsensed
  · exact lawful_fault _

theorem stackerEmptied_lawful (h : s.CapacityLaw) : Lawful (execStackerEmptied s) := by
  refine lawful_next (settle_kept.law (retry_law ((notify_kept 0 0 .stackerEmptied).law (stackerEmptied_law h))))

theorem insertPosition_lawful (h : s.CapacityLaw) : Lawful (execInsertPosition s) := by
  unfold execInsertPosition
  refine lawful_of_kept h ?_
  split
  · apply LawKept.of_frame <;> simp
  · exact .refl

theorem siEvent_lawful (h : s.CapacityLaw) : Lawful (execSiEvent s) := by
  unfold execSiEvent
  refine lawful_next ?_
  split
  · exact settle_kept.law (countInserted_law h _)
  · exact h

/-- An event that ends a session, if there is one it speaks of. -/
theorem sessionEnd_lawful (h : s.CapacityLaw) (z : Option Session) (c : EndCause) :
    Lawful (.next (match z with | some z => settle (endSession s z c) | none => s)) := by
  cases z with
  | none => exact lawful_next h
  | some z => exact lawful_of_kept h ((endSession_kept z c).trans settle_kept)

theorem homeEvent_lawful (h : s.CapacityLaw) : Lawful (execHomeEvent s) := by
  unfold execHomeEvent
  refine lawful_of_kept h ?_
  split
  · refine LawKept.trans ?_ settle_kept
    exact .of_carry rfl rfl rfl (by simp [elevatorHomed])
  · exact .refl

/-! ## The run controller and the links (R149 to R153, R163, R169) -/

theorem atSpeed_lawful (h : s.CapacityLaw) : Lawful (execAtSpeed s) := by
  unfold execAtSpeed
  refine lawful_of_kept h ?_
  split
  · refine LawKept.trans ?_ settle_kept
    apply LawKept.of_frame <;> simp
  all_goals exact .refl

theorem powerOn_lawful (h : s.CapacityLaw) (pins : Pins) : Lawful (execPowerOn pins s) := by
  unfold execPowerOn
  refine lawful_next (startUpReads_kept.law ?_)
  split
  · exact startKept_law h pins
  · exact startCleared_law pins

theorem unknownKind_lawful (h : s.CapacityLaw) (l : Link) : Lawful (execUnknownKind l s) := by
  unfold execUnknownKind
  refine lawful_of_kept h ?_
  split
  · exact .refl
  · split
    · exact .refl
    · apply LawKept.of_frame <;> simp

theorem transmitComplete_lawful (h : s.CapacityLaw) (l : Link) : Lawful (execTransmitComplete l s) := by
  have hfinished : LawKept s (finishFrame s l) := by apply LawKept.of_frame <;> simp
  unfold execTransmitComplete
  refine lawful_of_kept h ?_
  split
  · exact hfinished.trans settle_kept
  · exact hfinished

theorem commit_lawful (h : s.CapacityLaw) (l : Link) (pins : PocketPins) : Lawful (execCommit l pins s) := by
  have htake : LawKept s (takeFrame s l) := .of_frame rfl rfl rfl rfl
  unfold execCommit
  refine lawful_next ?_
  rcases handle_cases s (ofKind kindCommit) (ownCommit pins) l with hs | ⟨f, -, -, hs | hs⟩
  · rwa [hs]
  · exact hs ▸ ownCommit_law (htake.law h) pins l f
  · exact hs ▸ (htake.trans (refuse_kept l f .badLength)).law h

/-! ## Every command -/

/-- R118: no command breaks the capacity law. -/
theorem exec_lawful (h : s.CapacityLaw) (c : Instr) : Lawful (exec c s) := by
  cases c with
  | frameReceived l => exact lawful_of_kept h (receiveChr_kept l _)
  | unknownKind l => exact unknownKind_lawful h l
  | announce l =>
    refine lawful_handle h fun f x => LawKept.trans ?_ settle_kept
    apply LawKept.of_frame <;> simp
  | openJob l => exact lawful_handle h fun f x => ownOpenJob_kept l f
  | closeJob l => exact lawful_handle h fun f x => ownCloseJob_kept l f
  | loadClass l => exact lawful_handle h fun f x => load_kept (fun t p t' b hw => judgeLoad_pockets (.inl hw)) l f
  | loadSeats l => exact lawful_handle h fun f x => load_kept (fun t p t' b hw => judgeLoad_pockets (.inr (.inl hw))) l f
  | loadPlan l =>
    exact lawful_handle h fun f x => load_kept (fun t p t' b hw => judgeLoad_pockets (.inr (.inr (.inl hw)))) l f
  | loadGrade l =>
    exact lawful_handle h fun f x => load_kept (fun t p t' b hw => judgeLoad_pockets (.inr (.inr (.inr (.inl hw))))) l f
  | loadPocket l =>
    exact lawful_handle h fun f x =>
      load_kept (fun t p t' b hw => judgeLoad_pockets (.inr (.inr (.inr (.inr (.inl hw)))))) l f
  | loadTransport l =>
    exact lawful_handle h fun f x =>
      load_kept (fun t p t' b hw => judgeLoad_pockets (.inr (.inr (.inr (.inr (.inr hw)))))) l f
  | commit l pins => exact commit_lawful h l pins
  | insert l => exact lawful_handle h fun f x => ownInsert_kept l f
  | run l => exact lawful_handle h fun f x => ownRun_kept l f
  | standby l => exact lawful_handle h fun f x => ownStandby_kept l f
  | clear l pins => exact lawful_handle h fun f x => ownClear_kept pins l f
  | markRetained l =>
    refine lawful_handle h fun f x => ?_
    apply LawKept.of_frame <;> simp [ownMarkRetained]
  | clearCounts l =>
    refine lawful_handle h fun f x => ?_
    apply LawKept.of_frame <;> simp
  | askStatus l => exact lawful_handle h fun f x => ask_kept _ _ l f
  | askJob l => exact lawful_handle h fun f x => ask_kept _ _ l f
  | askPocket l => exact lawful_handle h fun f x => ask_kept _ _ l f
  | askQueue l => exact lawful_handle h fun f x => ask_kept _ _ l f
  | askCapture l => exact lawful_handle h fun f x => ask_kept _ _ l f
  | askEntry l => exact lawful_handle h fun f x => ask_kept _ _ l f
  | askSet l => exact lawful_handle h fun f x => ask_kept _ _ l f
  | transmitComplete l => exact transmitComplete_lawful h l
  | leadCapture l x => exact leadCapture_lawful h l x
  | trailCapture l x => exact trailCapture_lawful h l x
  | gateDecision => exact gateDecision_lawful h
  | arrivalDeadline i => exact arrivalDeadline_lawful h i
  | stLeadEdge => exact stLeadEdge_lawful h
  | spLeadEdge => exact spLeadEdge_lawful h
  | stSpTrailEdge x => exact lawful_of_kept h (pins_kept _)
  | binEmptied =>
    refine lawful_of_kept h (LawKept.trans ?_ settle_kept)
    apply LawKept.of_frame <;> simp
  | feedWindowExpiry => exact feedWindowExpiry_lawful h
  | stallTimerExpiry => exact stallTimerExpiry_lawful h
  | shelfUp => exact shelfUp_lawful h
  | shelfDown => exact shelfDown_lawful h
  | motionTimerExpiry => exact faultExpiry_lawful h s.timers.motion FaultCause.shelfJam.plain
  | staplerCompletion => exact staplerCompletion_lawful h
  | completionTimerExpiry => exact completionTimerExpiry_lawful h
  | recoveryWindowEnd => exact recoveryWindowEnd_lawful h
  | staplerHome => exact staplerHome_lawful h
  | cartridgeInserted =>
    refine lawful_of_kept h ?_
    apply LawKept.of_frame <;> simp
  | setReceived => exact setReceived_lawful h
  | ejectTimerExpiry => exact faultExpiry_lawful h s.timers.eject FaultCause.towerJam.plain
  | depositComplete => exact depositComplete_lawful h
  | deliveryTimerExpiry => exact faultExpiry_lawful h s.timers.delivery FaultCause.towerJam.plain
  | drawerOpen p => exact drawerOpen_lawful h p
  | drawerClose p empty => exact drawerClose_lawful h p empty
  | floorEmpty p => exact floorEmpty_lawful h p
  | stackerEmptied => exact stackerEmptied_lawful h
  | insertPosition => exact insertPosition_lawful h
  | positioningTimerExpiry => exact positioningTimerExpiry_lawful h
  | siEvent => exact siEvent_lawful h
  | insDone => exact sessionEnd_lawful h (activeSession s) _
  | firstSheetTimerExpiry => exact sessionEnd_lawful h (timedSession s .firstSheet) _
  | betweenSheetsTimerExpiry => exact sessionEnd_lawful h (timedSession s .betweenSheets) _
  | homeEvent => exact homeEvent_lawful h
  | atSpeed => exact atSpeed_lawful h
  | warmupTimerExpiry => exact faultExpiry_lawful h s.timers.warmup FaultCause.warmup.plain
  | retLow =>
    refine lawful_of_kept h ?_
    apply LawKept.of_frame <;> simp
  | powerOn pins => exact powerOn_lawful h pins
  | resetLine pins => exact lawful_next (startUpReads_kept.law (startKept_law h pins))
  | characterReceived l c => exact lawful_of_kept h (receiveChr_kept l c)

/-- R71: what the part does by its own clock: a due command, or one tick. -/
theorem selfStep_lawful (h : s.CapacityLaw) : Lawful (selfStep s) := by
  have hraced : LawKept s s.raced := .of_frame rfl rfl rfl rfl
  unfold selfStep
  split
  · exact lawful_of_kept h (elapse_kept 1)
  · exact exec_lawful h _
  · exact exec_lawful (hraced.law h) _

end Commands

/-- Settles O6: every command keeps the law (`exec_lawful`), and so does a tick. -/
theorem everyStepKeepsTheCapacityLaw : Obligations.EveryStepKeepsTheCapacityLaw := by
  unfold Obligations.EveryStepKeepsTheCapacityLaw
  intro s t h hstep
  unfold step at hstep
  split at hstep
  next => exact selfStep_lawful h t hstep
  next c rest _ =>
    have hpending : LawKept s (s.withPending rest) := .of_frame rfl rfl rfl rfl
    exact exec_lawful (hpending.law h) c t hstep

end Sys2Proof.Machine.PocketRecords
end

section
/-!
PROOFS. Every command answers a next state with the waiting commands as they were, but for the events of a pocket above 39
(R118, notes/assumptions/27.md).
-/
namespace Sys2Proof.Machine.PocketRecords

section Commands
variable {s t : State}

/-- The answer is a next state, with the waiting commands of `s`. -/
def Completes (s : State) (o : Out) : Prop := ∃ t, o = .next t ∧ t.pending = s.pending

theorem completes_next (h : t.pending = s.pending) : Completes s (.next t) := ⟨t, rfl, h⟩

theorem handle_pending {wanted : Frame → Bool} {owner : Link → Frame → State → State} {l : Link}
    (h : ∀ f x, (owner l f x).pending = x.pending) : Completes s (.next (handle wanted owner l s)) := by
  refine completes_next ?_
  rcases handle_cases s wanted owner l with hs | ⟨f, -, -, hs | hs⟩
  · rw [hs]
  · simp [hs, h]
  · simp [hs]

/-! ## The owners of requests -/

theorem ownOpenJob_pending (l : Link) (f : Frame) : (ownOpenJob l f s).pending = s.pending := by
  unfold ownOpenJob
  dsimp only
  split <;> simp

theorem ownCloseJob_pending (l : Link) (f : Frame) : (ownCloseJob l f s).pending = s.pending := by
  unfold ownCloseJob
  dsimp only
  repeat' split
  all_goals simp

theorem foldl_reactPocket_pending (ps : List (Nat × PocketConfig)) : ∀ s : State,
    (ps.foldl (fun x e => reactPocket x e.1 e.2) s).pending = s.pending := by
  induction ps with
  | nil => exact fun _ => rfl
  | cons x ps ih => exact fun s => (ih _).trans (by simp)

theorem ownCommit_pending (pins : PocketPins) (l : Link) (f : Frame) : (ownCommit pins l f s).pending = s.pending := by
  unfold ownCommit
  dsimp only
  split
  · simp
  · simp [applyCommit, foldl_reactPocket_pending]

theorem ownInsert_pending (l : Link) (f : Frame) : (ownInsert l f s).pending = s.pending := by
  unfold ownInsert
  dsimp only
  split <;> simp

theorem ownRun_pending (l : Link) (f : Frame) : (ownRun l f s).pending = s.pending := by
  unfold ownRun
  split <;> simp

theorem ownStandby_pending (l : Link) (f : Frame) : (ownStandby l f s).pending = s.pending := by
  unfold ownStandby
  split <;> simp

theorem ownClear_pending (pins : Pins) (l : Link) (f : Frame) : (ownClear pins l f s).pending = s.pending := by
  unfold ownClear
  dsimp only
  split <;> simp

theorem ask_pending (code : Nat) (contents : List Data → State → Except Reason (List Data)) (l : Link) (f : Frame) :
    (ask code contents l f s).pending = s.pending := by
  unfold ask answerAsk
  split <;> simp

/-! ## The starts (R169) -/

theorem startUpReads_pending : (startUpReads s).pending = s.pending := by
  unfold startUpReads
  dsimp only
  repeat' split
  all_goals simp

theorem startKept_pending (pins : Pins) : (startKept pins s).pending = s.pending := by
  simp [startKept, rescanPockets, keptPart, clearedPart]

/-! ## Every command -/

theorem exec_completes (c : Instr) (s : State) (h : c.wellFormed = true) : Completes s (exec c s) := by
  cases c with
  | frameReceived l => exact completes_next (by simp)
  | unknownKind l =>
    refine completes_next ?_
    repeat' split
    all_goals simp
  | announce l => exact handle_pending fun f x => by simp [ownAnnounce]
  | openJob l => exact handle_pending fun f x => ownOpenJob_pending l f
  | closeJob l => exact handle_pending fun f x => ownCloseJob_pending l f
  | loadClass l => exact handle_pending fun f x => by simp
  | loadSeats l => exact handle_pending fun f x => by simp
  | loadPlan l => exact handle_pending fun f x => by simp
  | loadGrade l => exact handle_pending fun f x => by simp
  | loadPocket l => exact handle_pending fun f x => by simp
  | loadTransport l => exact handle_pending fun f x => by simp
  | commit l pins => exact handle_pending fun f x => ownCommit_pending pins l f
  | insert l => exact handle_pending fun f x => ownInsert_pending l f
  | run l => exact handle_pending fun f x => ownRun_pending l f
  | standby l => exact handle_pending fun f x => ownStandby_pending l f
  | clear l pins => exact handle_pending fun f x => ownClear_pending pins l f
  | markRetained l => exact handle_pending fun f x => by simp [ownMarkRetained]
  | clearCounts l => exact handle_pending fun f x => by simp
  | askStatus l => exact handle_pending fun f x => ask_pending _ _ l f
  | askJob l => exact handle_pending fun f x => ask_pending _ _ l f
  | askPocket l => exact handle_pending fun f x => ask_pending _ _ l f
  | askQueue l => exact handle_pending fun f x => ask_pending _ _ l f
  | askCapture l => exact handle_pending fun f x => ask_pending _ _ l f
  | askEntry l => exact handle_pending fun f x => ask_pending _ _ l f
  | askSet l => exact handle_pending fun f x => ask_pending _ _ l f
  | drawerOpen p =>
    have hp : p < Config.pocketCount := of_decide_eq_true h
    have harm : exec (.drawerOpen p) s = execDrawerOpen p s := rfl
    rw [harm, execDrawerOpen, if_pos hp]
    refine completes_next ?_
    split <;> simp
  | drawerClose p empty =>
    have hp : p < Config.pocketCount := of_decide_eq_true h
    have harm : exec (.drawerClose p empty) s = execDrawerClose p empty s := rfl
    rw [harm, execDrawerClose, if_pos hp]
    refine completes_next ?_
    split <;> simp
  | floorEmpty p =>
    have hp : p < Config.pocketCount := of_decide_eq_true h
    have harm : exec (.floorEmpty p) s = execFloorEmpty p s := rfl
    rw [harm, execFloorEmpty, if_pos hp]
    refine completes_next ?_
    split <;> simp
  | powerOn pins =>
    refine completes_next (startUpReads_pending.trans ?_)
    split
    · exact startKept_pending pins
    · rfl
  | resetLine pins => exact completes_next (startUpReads_pending.trans (startKept_pending pins))
  | arrivalDeadline i =>
    refine completes_next ?_
    unfold missDeadline
    repeat' split
    all_goals simp
  | _ =>
    -- a test of the state at most, then operations whose frames hold the waiting commands
    refine completes_next ?_
    repeat' split
    all_goals simp

end Commands

/-- Settles O3: every command completes (`exec_completes`), and the three pocket events test the pocket's number first. -/
theorem commandsCompleteOrStop : Obligations.CommandsCompleteOrStop := by
  unfold Obligations.CommandsCompleteOrStop
  refine ⟨fun c s h => exec_completes c s h, fun p empty s hp => ?_⟩
  have hout : ¬p < Config.pocketCount := Nat.not_lt.2 hp
  exact ⟨if_neg hout, if_neg hout, if_neg hout⟩

end Sys2Proof.Machine.PocketRecords
end

section
/-!
PROOFS. The reaction of a pocket's record to its configuration (R122).
-/
namespace Sys2Proof.Machine.PocketRecords

open SetAssembly PocketTower

section Lemmas
variable {s t : State} {p q : Nat} {k : Pocket} {old now : PocketConfig}

/-! ## The enabled flag (R122) -/

theorem react_of_same (b drawerIn floorEmpty : Bool) : k.react b b drawerIn floorEmpty = k := by
  cases b <;> simp [Pocket.react]

theorem react_of_disabling (drawerIn floorEmpty : Bool) :
    k.react true false drawerIn floorEmpty = { k with state := .disabled, remembered := none } := rfl

theorem react_of_enabling (hk : k.state = .disabled) (drawerIn floorEmpty : Bool) :
    k.react false true drawerIn floorEmpty =
      if drawerIn then
        if floorEmpty then k.emptied else { k with state := .unverified, remembered := none, floorEmpty := false }
      else { k with state := .withdrawn, remembered := some .unverified, floorEmpty := floorEmpty } := by
  simp [Pocket.react, hk]

/-! ## The capacity (R122) -/

theorem refill_available (fill cap : Nat) :
    PocketState.refill .available (min fill cap) cap = if cap ≤ fill then .full else .available := by
  simp [PocketState.refill]

theorem refill_full (fill cap : Nat) :
    PocketState.refill .full (min fill cap) cap = if fill < cap then .available else .full := by
  simp [PocketState.refill]

theorem refill_other {st : PocketState} (ha : st ≠ .available) (hf : st ≠ .full) (fill cap : Nat) :
    st.refill fill cap = st := by
  cases st <;> simp_all [PocketState.refill]

/-- R122: an application that leaves the capacity as it was is the enabled flag's reaction alone. -/
theorem reacted_of_same_capacity (hc : now.capacity = old.capacity) : reacted s p old now k =
    k.react old.enabled now.enabled (s.pins.pockets.drawersIn.getLsbD p) (s.pins.pockets.floorsEmpty.getLsbD p) := by
  simp [reacted, hc]

theorem reacted_of_same_flag (he : old.enabled = now.enabled) (hc : now.capacity ≠ old.capacity) :
    reacted s p old now k = k.refit now.capacity := by
  simp [reacted, hc, he, react_of_same]

theorem reacted_of_disabling (ho : old.enabled = true) (hn : now.enabled = false) :
    (reacted s p old now k).state = .disabled ∧ (reacted s p old now k).remembered = none := by
  unfold reacted
  rw [ho, hn, react_of_disabling]
  dsimp only
  split
  · exact ⟨rfl, rfl⟩
  · exact ⟨rfl, rfl⟩

/-! ## The notice (R118, R122) -/

/-- R122: the record after the enabled flag's reaction is AVAILABLE, and the capacity makes it FULL. -/
def fillsUp (s : State) (p : Nat) (old now : PocketConfig) (k : Pocket) : Prop :=
  (k.react old.enabled now.enabled (s.pins.pockets.drawersIn.getLsbD p)
    (s.pins.pockets.floorsEmpty.getLsbD p)).state = .available ∧ (reacted s p old now k).state = .full

/-- R122: the record with its reaction. -/
def withReacted (s : State) (p : Nat) (old now : PocketConfig) (k : Pocket) : State :=
  { s with pockets := s.pockets.set p (reacted s p old now k) }

theorem reactPocket_of_fillsUp (hk : s.pockets[p]? = some k) (hn : (s.tables.pockets[p]?).map (·.active) = some now)
    (h : fillsUp s p old now k) : reactPocket s p old =
      notifyPlain (withReacted s p old now k)
        (.pocketFull p (reacted s p old now k).fill now.capacity none) := by
  obtain ⟨h1, h2⟩ := h
  simp only [reacted] at h2
  simp only [reactPocket, hn, Option.getD_some, pocketOf_eq hk, h1, h2, changePocket_eq _ hk]
  rfl

theorem reactPocket_of_not_fillsUp (hk : s.pockets[p]? = some k)
    (hn : (s.tables.pockets[p]?).map (·.active) = some now) (h : ¬fillsUp s p old now k) :
    reactPocket s p old = withReacted s p old now k := by
  simp only [reactPocket, hn, Option.getD_some, pocketOf_eq hk, changePocket_eq _ hk]
  split
  next h1 h2 => exact absurd ⟨h1, h2⟩ h
  next => rfl

/-- R122: with the flag as it was, the record becomes FULL exactly from AVAILABLE at a changed capacity that it reaches. -/
theorem fillsUp_of_same_flag_iff (he : old.enabled = now.enabled) : fillsUp s p old now k ↔
    k.state = .available ∧ now.capacity ≠ old.capacity ∧ now.capacity ≤ k.fill := by
  unfold fillsUp
  rw [he, react_of_same]
  by_cases hc : now.capacity = old.capacity
  · rw [reacted_of_same_capacity hc, he, react_of_same]
    simp_all
  · rw [reacted_of_same_flag he hc]
    refine and_congr_right fun ha => ?_
    simp [Pocket.refit, ha, refill_available, hc]

theorem not_fillsUp_of_disabling (ho : old.enabled = true) (hn : now.enabled = false) : ¬fillsUp s p old now k := by
  rintro ⟨-, h⟩
  simp [(reacted_of_disabling ho hn).1] at h

/-- R122: a pocket that is enabled again starts empty, or is not AVAILABLE. -/
theorem not_fillsUp_of_enabling (ho : old.enabled = false) (hn : now.enabled = true) (hk : k.state = .disabled)
    (hc : 1 ≤ now.capacity) : ¬fillsUp s p old now k := by
  rintro ⟨h1, h2⟩
  unfold reacted at h2
  rw [ho, hn, react_of_enabling hk] at h1 h2
  dsimp only at h2
  split at h1
  next hin =>
    split at h1
    next hfloor =>
      simp only [hin, hfloor, if_true] at h2
      split at h2
      · simp [Pocket.emptied] at h2
      · simp only [Pocket.refit, Pocket.emptied, refill_available] at h2
        simp [Nat.not_le.2 hc] at h2
    next => simp at h1
  next => simp at h1

end Lemmas

/-- Settles O25: the clauses by what has changed: the flag, the capacity, or nothing. -/
theorem pocketReactsToItsConfiguration : Obligations.PocketReactsToItsConfiguration := by
  unfold Obligations.PocketReactsToItsConfiguration
  intro s p old now k hk hn
  have hset : (withReacted s p old now k).pockets[p]? = some (reacted s p old now k) := by
    simp [withReacted, lt_of_record hk]
  have hrecords : (reactPocket s p old).pockets = s.pockets.set p (reacted s p old now k) := by
    rw [reactPocket_pockets hn, changePocket_eq _ hk, pocketOf_eq hk]
  refine ⟨reacted s p old now k, hrecords ▸ hset, reacted_of_disabling, fun hc => ?_, fun he hc => ?_,
    ⟨fun he => ⟨fun ha hc hf => ?_, fun h => ?_⟩, fun ho hd => ?_, fun ho he hd hc => ?_⟩, fun ho he hd hc => ?_, ?_,
    fun m hm => ?_⟩
  · simp [reacted, hc, Pocket.refit]
  · rw [reacted_of_same_flag he hc]
    refine ⟨rfl, rfl, rfl, fun ha => ?_, fun hf => ?_, fun hu => ?_, fun hd => ?_, fun hw => ⟨?_, fun hr => ?_, fun hr => ?_,
      fun hna hnf => ?_⟩⟩
    · simp [Pocket.refit, ha, refill_available]
    · simp [Pocket.refit, hf, refill_full]
    · simp [Pocket.refit, hu, PocketState.refill]
    · simp [Pocket.refit, hd, PocketState.refill]
    · simp [Pocket.refit, hw, PocketState.refill]
    · simp [Pocket.refit, hr, refill_available]
    · simp [Pocket.refit, hr, refill_full]
    · cases hr : k.remembered with
      | none => simp [Pocket.refit, hr]
      | some st =>
        have hst := refill_other (st := st) (fun h => hna (h ▸ hr)) (fun h => hnf (h ▸ hr))
        simp [Pocket.refit, hr, hst]
  · exact reactPocket_of_fillsUp hk hn ((fillsUp_of_same_flag_iff he).2 ⟨ha, hc, hf⟩)
  · refine reactPocket_of_not_fillsUp hk hn fun hup => ?_
    obtain ⟨ha, hc, hf⟩ := (fillsUp_of_same_flag_iff he).1 hup
    rcases h with h | h | h
    · exact h ha
    · exact hc h
    · omega
  · exact reactPocket_of_not_fillsUp hk hn (not_fillsUp_of_disabling ho hd)
  · exact reactPocket_of_not_fillsUp hk hn (not_fillsUp_of_enabling ho he hd hc)
  · rw [reacted_of_same_capacity hc, ho, he, react_of_enabling hd]
    refine ⟨fun hin => ?_, fun hin hfloor => ?_, fun hin hfloor => ?_⟩
    · simp [hin]
    · simp [hin, hfloor, Pocket.emptied]
    · simp [hin, hfloor]
  · rintro rfl
    rw [reacted_of_same_capacity rfl, react_of_same]
  · rw [hrecords]
    exact List.getElem?_set_ne hm.symm

end Sys2Proof.Machine.PocketRecords
end

section
/-!
PROOFS. Admission (R110, R112, R113, R118): the options judged in order, the pockets passed over, the aim, the retry and the
re-target.
-/
namespace Sys2Proof.Machine.PocketRecords

open SetAssembly PocketTower

section Lemmas
variable {s t : State} {g : Segment} {c p q : Nat} {o x : ChainOption} {os : List ChainOption} {k : Pocket}

/-! ## One option (R110) -/

/-- R110: the option takes a segment of charge `c`. -/
def Eligible (s : State) (c : Nat) (o : ChainOption) : Prop :=
  match o.dest with
  | .stacker => s.stacker.fill + c ≤ 30000
  | .pocket p => p < towerSize s ∧ (pocketOf s p).state = .available ∧ (pocketOf s p).fill + c ≤ capacityOf s p

theorem eligible_pocket_iff (ho : o.dest = .pocket p) : Eligible s c o ↔
    p < towerSize s ∧ (pocketOf s p).state = .available ∧ (pocketOf s p).fill + c ≤ capacityOf s p := by
  rw [Eligible, ho]

theorem eligible_stacker_iff (ho : o.dest = .stacker) : Eligible s c o ↔ s.stacker.fill + c ≤ 30000 := by
  rw [Eligible, ho]

theorem pocketOffers_iff : pocketOffers s p = true ↔ p < towerSize s ∧ (pocketOf s p).state = .available := by
  simp [pocketOffers]

theorem pocketFits_iff : pocketFits s p c = true ↔ (pocketOf s p).fill + c ≤ capacityOf s p := by
  simp [pocketFits]

/-- R110: the part after an option that is not eligible has been passed over: an AVAILABLE pocket becomes FULL. -/
def passOver (s : State) (g : Segment) (c : Nat) (o : ChainOption) : State :=
  match o.dest with
  | .stacker => s
  | .pocket p => if pocketOffers s p then fillUp s p g.replyTag g.job (some c) else s

theorem judgeOptions_cons_eligible (h : Eligible s c o) : judgeOptions s g c (o :: os) = (s, some o) := by
  cases ho : o.dest with
  | stacker =>
    have hfit : s.stacker.fill + c ≤ Config.stackerCapacity := (eligible_stacker_iff ho).1 h
    simp [judgeOptions, ho, hfit]
  | pocket p =>
    obtain ⟨hp, ha, hf⟩ := (eligible_pocket_iff ho).1 h
    simp [judgeOptions, ho, pocketOffers_iff.2 ⟨hp, ha⟩, pocketFits_iff.2 hf]

theorem judgeOptions_cons_passed (h : ¬Eligible s c o) :
    judgeOptions s g c (o :: os) = judgeOptions (passOver s g c o) g c os := by
  cases ho : o.dest with
  | stacker =>
    have hfull : ¬s.stacker.fill + c ≤ Config.stackerCapacity := fun hf => h ((eligible_stacker_iff ho).2 hf)
    simp [judgeOptions, passOver, ho, hfull]
  | pocket p =>
    cases hoffers : pocketOffers s p with
    | false => simp [judgeOptions, passOver, ho, hoffers]
    | true =>
      have hfits : pocketFits s p c = false := Bool.eq_false_iff.2 fun hf => by
        obtain ⟨hp, ha⟩ := pocketOffers_iff.1 hoffers
        exact h ((eligible_pocket_iff ho).2 ⟨hp, ha, pocketFits_iff.1 hf⟩)
      simp [judgeOptions, passOver, ho, hoffers, hfits]

/-! ## A pocket passed over (R110, R118) -/

theorem fillUp_record (r j : Nat) (f : Option Nat) (q : Nat) : (fillUp s p r j f).pockets[q]? =
    if q = p then (s.pockets[q]?).map (fun k => { k with state := .full }) else s.pockets[q]? := by
  simp [fillUp, changeAt_getElem?]

theorem passOver_frame : (passOver s g c o).straps = s.straps ∧ (passOver s g c o).tables = s.tables ∧
    (passOver s g c o).stacker = s.stacker ∧ (passOver s g c o).pockets.length = s.pockets.length := by
  unfold passOver
  split
  · exact ⟨rfl, rfl, rfl, rfl⟩
  · split
    · exact ⟨by simp, by simp, by simp, by simp [fillUp]⟩
    · exact ⟨rfl, rfl, rfl, rfl⟩

/-- R118: a pocket that is passed over becomes FULL when it is AVAILABLE and in the tower; every other record stays. -/
theorem passOver_record (g : Segment) (c : Nat) (hk : s.pockets[q]? = some k) :
    (passOver s g c o).pockets[q]? = some (if o.dest = .pocket q ∧ q < towerSize s ∧ k.state = .available
      then { k with state := .full } else k) := by
  cases ho : o.dest with
  | stacker => simp [passOver, ho, hk]
  | pocket p =>
    by_cases hqp : q = p
    · subst hqp
      cases hoffers : pocketOffers s q with
      | true =>
        have hav := pocketOffers_iff.1 hoffers
        rw [pocketOf_eq hk] at hav
        simp [passOver, ho, hoffers, fillUp_record, hk, hav]
      | false =>
        have hno : ¬(q < towerSize s ∧ k.state = .available) := fun h => by
          rw [← pocketOf_eq hk] at h
          simp [pocketOffers_iff.2 h] at hoffers
        simp [passOver, ho, hoffers, hk, hno]
    · have hpq : ¬p = q := fun h => hqp h.symm
      unfold passOver
      split
      · simpa [hpq] using hk
      next p' hp' =>
        obtain rfl : p = p' := by simpa [ho] using hp'
        split
        · simpa [fillUp_record, hqp, hpq] using hk
        · simpa [hpq] using hk

/-- R110: passing over an option changes the eligibility of none. -/
theorem eligible_passOver_iff (h : ¬Eligible s c o) : Eligible (passOver s g c o) c x ↔ Eligible s c x := by
  obtain ⟨hstraps, htables, hstacker, hlength⟩ := passOver_frame (s := s) (g := g) (c := c) (o := o)
  have hsize : towerSize (passOver s g c o) = towerSize s := by simp [towerSize, hstraps]
  have hcap (q : Nat) : capacityOf (passOver s g c o) q = capacityOf s q := by simp [capacityOf, htables]
  cases hx : x.dest with
  | stacker => rw [eligible_stacker_iff hx, eligible_stacker_iff hx, hstacker]
  | pocket q =>
    rw [eligible_pocket_iff hx, eligible_pocket_iff hx, hsize, hcap]
    cases hk : s.pockets[q]? with
    | none =>
      have hnone : (passOver s g c o).pockets[q]? = none := by
        rwa [List.getElem?_eq_none_iff, hlength, ← List.getElem?_eq_none_iff]
      simp [pocketOf, hk, hnone]
    | some k =>
      rw [pocketOf_eq (passOver_record g c hk), pocketOf_eq hk]
      split
      next hfull =>
        obtain ⟨ho, hq, ha⟩ := hfull
        rw [eligible_pocket_iff ho, pocketOf_eq hk] at h
        simp_all
      next => rfl

/-! ## The options in order (R110) -/

theorem judgeOptions_none_iff (g : Segment) (c : Nat) (os : List ChainOption) : ∀ s : State,
    (judgeOptions s g c os).2 = none ↔ ∀ o ∈ os, ¬Eligible s c o := by
  induction os with
  | nil => simp [judgeOptions]
  | cons o os ih =>
    intro s
    by_cases h : Eligible s c o
    · simp [judgeOptions_cons_eligible h, h]
    · rw [judgeOptions_cons_passed h, ih]
      simp [eligible_passOver_iff h, h]

theorem judgeOptions_first (g : Segment) {after : List ChainOption} (before : List ChainOption) : ∀ s : State,
    Eligible s c o → (∀ x ∈ before, ¬Eligible s c x) → (judgeOptions s g c (before ++ o :: after)).2 = some o := by
  induction before with
  | nil =>
    intro s h _
    simp [judgeOptions_cons_eligible h]
  | cons y ys ih =>
    intro s h hys
    have hy : ¬Eligible s c y := hys y (by simp)
    rw [List.cons_append, judgeOptions_cons_passed hy]
    exact ih _ ((eligible_passOver_iff hy).2 h) fun x hx => by
      rw [eligible_passOver_iff hy]
      exact hys x (by simp [hx])

/-- R110: pocket `p` is among the options passed over. -/
def Passed (s : State) (c : Nat) (os : List ChainOption) (p : Nat) : Prop :=
  ∃ before o after, os = before ++ o :: after ∧ o.dest = .pocket p ∧ ∀ x ∈ before ++ [o], ¬Eligible s c x

theorem not_passed_nil : ¬Passed s c [] p := by
  rintro ⟨before, o, after, h, -⟩
  simp at h

theorem not_passed_cons (h : Eligible s c o) : ¬Passed s c (o :: os) p := by
  rintro ⟨before, y, after, hos, -, hno⟩
  cases before with
  | nil =>
    obtain ⟨rfl, -⟩ := List.cons.inj hos
    exact hno o (by simp) h
  | cons b bs =>
    obtain ⟨rfl, -⟩ := List.cons.inj hos
    exact hno o (by simp) h

theorem passed_cons_iff (h : ¬Eligible s c o) : Passed s c (o :: os) p ↔ o.dest = .pocket p ∨ Passed s c os p := by
  constructor
  · rintro ⟨before, y, after, hos, hd, hno⟩
    cases before with
    | nil =>
      obtain ⟨rfl, -⟩ := List.cons.inj hos
      exact .inl hd
    | cons b bs =>
      obtain ⟨rfl, rfl⟩ := List.cons.inj hos
      exact .inr ⟨bs, y, after, rfl, hd, fun x hx => hno x (by simp_all)⟩
  · rintro (hd | ⟨before, y, after, rfl, hd, hno⟩)
    · exact ⟨[], o, os, rfl, hd, by simpa using h⟩
    · exact ⟨o :: before, y, after, rfl, hd, by simpa [h] using hno⟩

theorem passed_passOver_iff (h : ¬Eligible s c o) : Passed (passOver s g c o) c os p ↔ Passed s c os p := by
  simp only [Passed, eligible_passOver_iff h]

/-- R110, R118: the record `k` of pocket `p` is passed over on its capacity alone. -/
def FailsOnCapacity (s : State) (c : Nat) (os : List ChainOption) (p : Nat) (k : Pocket) : Prop :=
  Passed s c os p ∧ p < towerSize s ∧ k.state = .available ∧ capacityOf s p < k.fill + c

open Classical in
/-- R118: each pocket passed over on its capacity alone becomes FULL, and no other record changes. -/
theorem judgeOptions_record (g : Segment) (c p : Nat) (os : List ChainOption) : ∀ (s : State) (k : Pocket),
    s.pockets[p]? = some k → (judgeOptions s g c os).1.pockets[p]? =
      some (if FailsOnCapacity s c os p k then { k with state := .full } else k) := by
  induction os with
  | nil =>
    intro s k hk
    simp [judgeOptions, hk, FailsOnCapacity, not_passed_nil]
  | cons o os ih =>
    intro s k hk
    by_cases h : Eligible s c o
    · simp [judgeOptions_cons_eligible h, hk, FailsOnCapacity, not_passed_cons h]
    · obtain ⟨hstraps, htables, -, -⟩ := passOver_frame (s := s) (g := g) (c := c) (o := o)
      have hsize : towerSize (passOver s g c o) = towerSize s := by simp [towerSize, hstraps]
      have hcap : capacityOf (passOver s g c o) p = capacityOf s p := by simp [capacityOf, htables]
      rw [judgeOptions_cons_passed h, ih _ _ (passOver_record g c hk)]
      simp only [FailsOnCapacity, passed_passOver_iff h, passed_cons_iff h, hsize, hcap]
      split
      next hfull =>
        obtain ⟨ho, hp, ha⟩ := hfull
        rw [eligible_pocket_iff ho, pocketOf_eq hk] at h
        have hover : capacityOf s p < k.fill + c := by
          by_contra hle
          exact h ⟨hp, ha, Nat.not_lt.1 hle⟩
        simp [ho, hp, ha, hover]
      next hkept => exact congrArg some (if_congr (by tauto) rfl rfl)

theorem judgeOptions_record_of_fails (hk : s.pockets[p]? = some k) (h : FailsOnCapacity s c os p k) :
    (judgeOptions s g c os).1.pockets[p]? = some { k with state := .full } := by
  rw [judgeOptions_record g c p os s k hk, if_pos h]

theorem judgeOptions_record_of_not_fails (hk : s.pockets[p]? = some k) (h : ¬FailsOnCapacity s c os p k) :
    (judgeOptions s g c os).1.pockets[p]? = some k := by
  rw [judgeOptions_record g c p os s k hk, if_neg h]

theorem judgeOptions_length (g : Segment) (c : Nat) (os : List ChainOption) : ∀ s : State,
    (judgeOptions s g c os).1.pockets.length = s.pockets.length := by
  induction os with
  | nil => exact fun _ => rfl
  | cons o os ih =>
    intro s
    by_cases h : Eligible s c o
    · rw [judgeOptions_cons_eligible h]
    · rw [judgeOptions_cons_passed h, ih]
      exact passOver_frame.2.2.2

/-- R110: besides the pockets only the links change. -/
theorem judgeOptions_eq : (judgeOptions s g c os).1 =
    { s with links := (judgeOptions s g c os).1.links, pockets := (judgeOptions s g c os).1.pockets } := by
  have h := judgeOptions_frame s g c os
  revert h
  generalize (judgeOptions s g c os).1 = t
  rintro ⟨h1, h2, h3, h4, h5, h6, h7, h8, h9, h10, h11, h12, h13, h14, h15, h16, h17, h18, h19⟩
  cases t
  simp_all

/-! ## The aim, the retry and the re-target (R110, R112, R113) -/

theorem aim_of_some (hg : s.tower.carried = some g) (hc : s.tower.charge = some c)
    (ho : (judgeOptions s g c os).2 = some o) : aim s os = { (judgeOptions s g c os).1 with
      tower := { s.tower with phase := .carrying, target := some o }
      timers := { s.timers with delivery := some 60000 } } := by
  have hframe := judgeOptions_frame s g c os
  simp only [aim, hg, hc]
  generalize judgeOptions s g c os = r at ho hframe
  obtain ⟨t, o'⟩ := r
  obtain rfl : o' = some o := ho
  dsimp only at hframe ⊢
  simp [carryTo, hframe, msTicks, Config.deliveryMs, Config.ticksPerMs, hg, hc]

theorem aim_of_none (hg : s.tower.carried = some g) (hc : s.tower.charge = some c)
    (ho : (judgeOptions s g c os).2 = none) :
    let stopped : State := { (judgeOptions s g c os).1 with
      tower := { s.tower with phase := .blocked, target := none }
      timers := { s.timers with delivery := none } }
    aim s os = if s.tower.phase = .blocked then stopped
      else notify stopped g.replyTag g.job (.stackerFull g.seat g.segment c s.stacker.fill) := by
  have hframe := judgeOptions_frame s g c os
  simp only [aim, hg, hc]
  generalize judgeOptions s g c os = r at ho hframe
  obtain ⟨t, o'⟩ := r
  obtain rfl : o' = none := ho
  dsimp only at hframe ⊢
  cases hp : s.tower.phase <;> simp [block, hframe, hp, hg, hc]

theorem retry_of_blocked (hp : s.tower.phase = .blocked) (ha : active s = true) : retry s = aim s s.tower.chain := by
  simp [retry, hp, ha]

theorem retry_of_not (h : s.tower.phase ≠ .blocked ∨ active s = false) : retry s = s := by
  cases hp : s.tower.phase <;> simp_all [retry]

theorem optionsAfter_append {before after : List ChainOption} (h : o ∉ before) :
    optionsAfter o (before ++ o :: after) = after := by
  have hdrop : (before ++ o :: after).dropWhile (fun x => x != o) = o :: after := by
    rw [List.dropWhile_append_of_pos fun x hx => by simpa using fun he : x = o => h (he ▸ hx)]
    simp
  rw [optionsAfter, hdrop]
  rfl

theorem retarget_of_lost {before after : List ChainOption} (ht : s.tower.target = some o)
    (hc : s.tower.chain = before ++ o :: after) (hb : o ∉ before) (hp : s.tower.phase = .carrying)
    (ha : active s = true) (hd : o.dest = .pocket p) : retarget s p = aim s after := by
  simp [retarget, hp, ht, ha, hd, hc, optionsAfter_append hb]

theorem retarget_of_not (ht : s.tower.target = some o)
    (h : ¬(s.tower.phase = .carrying ∧ active s = true ∧ o.dest = .pocket p)) : retarget s p = s := by
  unfold retarget
  split
  next o' hp ho =>
    obtain rfl : o = o' := by simpa [ht] using ho
    split
    next hlost =>
      simp only [Bool.and_eq_true, beq_iff_eq] at hlost
      exact absurd ⟨hp, hlost⟩ h
    next => rfl
  next => rfl

theorem fillUp_eq (hk : s.pockets[p]? = some k) (r j : Nat) (f : Option Nat) : fillUp s p r j f =
    notify { s with pockets := s.pockets.set p { k with state := .full } } r j
      (.pocketFull p k.fill (capacityOf s p) f) := by
  rw [fillUp, changePocket_eq _ hk, pocketOf_eq hk]

end Lemmas

/-- Settles O49: the options by induction on the chain, option by option; the tower's answers by the equations of `aim`. -/
theorem admissionTakesTheFirstEligibleOption : Obligations.AdmissionTakesTheFirstEligibleOption := by
  unfold Obligations.AdmissionTakesTheFirstEligibleOption
  intro s g c os eligible passed t
  refine ⟨judgeOptions_none_iff g c os s, fun before o after hos he hb => ?_, judgeOptions_eq, judgeOptions_length g c os s,
    fun p k hk => ⟨fun hf => ?_, fun hf => ?_⟩, fun hg hc => ⟨fun o => aim_of_some hg hc, aim_of_none hg hc⟩,
    retry_of_blocked, retry_of_not,
    fun o p before after ht hc hb => ⟨fun ⟨hp, ha, hd⟩ => retarget_of_lost ht hc hb hp ha hd, retarget_of_not ht⟩,
    fun o rest p k hos hd hk hp ha hover => ?_⟩
  · rw [hos]
    exact judgeOptions_first g before s he hb
  · exact judgeOptions_record_of_fails hk hf
  · exact judgeOptions_record_of_not_fails hk hf
  · have hno : ¬Eligible s c o := by
      rw [eligible_pocket_iff hd, pocketOf_eq hk]
      omega
    have hoffers : pocketOffers s p = true := pocketOffers_iff.2 ⟨hp, by rw [pocketOf_eq hk, ha]⟩
    rw [hos, judgeOptions_cons_passed hno, ← fillUp_eq hk]
    simp [passOver, hd, hoffers]

end Sys2Proof.Machine.PocketRecords
end

section
/-!
PROOFS. A sheet at the insert slot (R131): the target's record, the count and the end at the expected count.
-/
namespace Sys2Proof.Machine.PocketRecords

open SetAssembly PocketTower

section Lemmas
variable {s t : State} {z : Session} {k : Pocket}

/-- R131: the record of a pocket of capacity `cap` after one more sheet of thickness `th`. -/
def sheetAdded (k : Pocket) (cap th : Nat) : Pocket :=
  { k with
    fill := min cap (k.fill + th)
    state := if k.state = .available ∧ cap ≤ k.fill + th then .full else k.state }

/-- R131: the target's record with one more sheet. -/
def withSheet (s : State) (z : Session) (k : Pocket) : State :=
  { s with pockets := s.pockets.set z.target (sheetAdded k (capacityOf s z.target) (thickness s z.grade)) }

/-- R131: the sheet changes the target's record, and sends POCKET-FULL when it brings an AVAILABLE one to its capacity. -/
theorem addSheetToPocket_eq (hk : s.pockets[z.target]? = some k) : addSheetToPocket s z =
    if k.state = .available ∧ capacityOf s z.target ≤ k.fill + thickness s z.grade then
      notify (withSheet s z k) z.replyTag z.job (.pocketFull z.target
        (sheetAdded k (capacityOf s z.target) (thickness s z.grade)).fill (capacityOf s z.target) none)
    else withSheet s z k := by
  have hset (x : Pocket) : ({ s with pockets := s.pockets.set z.target x } : State).pockets[z.target]? = some x := by
    simp [lt_of_record hk]
  simp only [addSheetToPocket, changePocket_eq _ hk, pocketOf_eq (hset _), pocketOf_eq hk, fillUp_eq (hset _), List.set_set,
    withSheet, sheetAdded, min_eq_left_iff, and_comm (a := k.state = .available)]
  split
  next h => rfl
  next h => rfl

theorem notify_pockets (r j : Nat) (b : NoticeBody) : (notify s r j b).pockets = s.pockets := by simp

theorem endSession_session (c : EndCause) : (endSession s z c).session = none := by
  simp [endSession]

/-- R131: the ACTIVE session's sheet is counted: its thickness, its count, and its session's end at the expected count. -/
theorem exec_siEvent (hs : s.session = some z) (hz : z.phase = .active) :
    exec .siEvent s = .next (settle (countInserted s z)) := by
  have harm : exec .siEvent s = execSiEvent s := rfl
  have hactive : activeSession s = some z := by simp [activeSession, hs, hz]
  rw [harm, execSiEvent, hactive]

theorem exec_siEvent_ignored (h : ∀ z, s.session = some z → z.phase = .waiting) : exec .siEvent s = .next s := by
  have harm : exec .siEvent s = execSiEvent s := rfl
  have hnone : activeSession s = none := by
    cases hs : s.session with
    | none => simp [activeSession, hs]
    | some z => simp [activeSession, hs, h z hs]
  rw [harm, execSiEvent, hnone]

/-- R133: the session an event ends stays ended. -/
theorem settle_session_of_none (h : s.session = none) : (settle s).session = none :=
  (settle_onward_of s (.inl h)).session.trans h

theorem settle_session_of_active (h : s.session = some z) (hz : z.phase = .active) : (settle s).session = some z :=
  (settle_onward_of s (.inr (.inr ⟨z, h, .inl hz⟩))).session.trans h

end Lemmas

/-- Settles O56: the target's record is `sheetAdded`, and what follows the count keeps every record. -/
theorem insertedSheetIsCounted : Obligations.InsertedSheetIsCounted := by
  unfold Obligations.InsertedSheetIsCounted
  refine fun s => ⟨fun z k hs hz _ hk => ?_, exec_siEvent_ignored⟩
  let z' : Session := z.countSheet
  let s' : State := { s with session := some z' }
  let k' := sheetAdded k (capacityOf s z.target) (thickness s z.grade)
  have hadded := addSheetToPocket_eq (s := s') (z := z') hk
  have hcount : countInserted s z =
      if z.inserted + 1 = z.expected then endSession (addSheetToPocket s' z') z' .countReached
      else addSheetToPocket s' z' := rfl
  have hpockets : (settle (countInserted s z)).pockets = s.pockets.set z.target k' := by
    have hadd : (addSheetToPocket s' z').pockets = s.pockets.set z.target k' := by
      rw [hadded]
      split
      · exact notify_pockets _ _ _
      · rfl
    rw [← hadd, hcount]
    split <;> simp
  refine ⟨settle (countInserted s z), k', exec_siEvent hs hz, ?_, rfl, rfl, rfl, rfl, fun ha => ?_, fun ha => ?_,
    fun m hm => ?_, ?_, fun he => ?_, fun he => ?_⟩
  · rw [hpockets]
    simp [lt_of_record hk]
  · simp [k', sheetAdded, ha]
  · simp [k', sheetAdded, ha]
  · rw [hpockets]
    exact List.getElem?_set_ne hm.symm
  · rw [hcount, hadded]
    rfl
  · refine settle_session_of_none ?_
    rw [hcount, if_pos he]
    exact endSession_session _
  · refine settle_session_of_active (z := z') ?_ hz
    rw [hcount, if_neg he]
    simp [s']

end Sys2Proof.Machine.PocketRecords
end

section
/-!
PROOFS. The drawer and floor events (R112, R113, R118 to R121, R133).
-/
namespace Sys2Proof.Machine.PocketRecords

open SetAssembly PocketTower

section Lemmas
variable {s t : State} {p q : Nat} {k : Pocket} {g : Segment} {c : Nat} {o x : ChainOption} {os : List ChainOption}

/-! ## The sensed lines (R118 to R121) -/

theorem setLevel_getLsbD (v : PocketLevels) (b : Bool) (hp : p < 40) :
    (setLevel v p b).getLsbD q = if q = p then b else v.getLsbD q := by
  have hbit : (1#40 <<< p).getLsbD q = decide (q = p) := by
    rw [BitVec.getLsbD_shiftLeft, BitVec.getLsbD_one, Bool.eq_iff_iff]
    simp only [Bool.and_eq_true, Bool.not_eq_true', decide_eq_true_eq, decide_eq_false_iff_not]
    omega
  cases b with
  | true =>
    rw [setLevel, if_pos rfl, BitVec.getLsbD_or, hbit]
    by_cases hq : q = p <;> simp [hq]
  | false =>
    rw [setLevel, if_neg (by simp), BitVec.getLsbD_and, BitVec.getLsbD_not, hbit]
    by_cases hq : q = p
    · simp [hq]
    · cases hv : v.getLsbD q with
      | false => simp [hq]
      | true => simp [hq, BitVec.lt_of_getLsbD hv]

/-- The input lines with pocket `p`'s drawer sensed as `d`. -/
def drawerPins (s : State) (p : Nat) (d : Bool) : Pins :=
  { s.pins with pockets := { s.pins.pockets with drawersIn := setLevel s.pins.pockets.drawersIn p d } }

theorem senseDrawer_eq (d : Bool) : senseDrawer s p d = { s with pins := drawerPins s p d } := rfl

/-! ## The notices of one record (R118 to R120) -/

/-- The part with the input lines `pins` and the record `k` of pocket `p`. -/
def withRecord (s : State) (pins : Pins) (p : Nat) (k : Pocket) : State :=
  { s with pins := pins, pockets := s.pockets.set p k }

theorem withRecord_record (hk : s.pockets[p]? = some k) (pins : Pins) (k' : Pocket) :
    (withRecord s pins p k').pockets[p]? = some k' := by
  simp [withRecord, lt_of_record hk]

theorem changePocket_pins (hk : s.pockets[p]? = some k) (pins : Pins) (f : Pocket → Pocket) :
    changePocket { s with pins := pins } p f = withRecord s pins p (f k) :=
  changePocket_eq (s := { s with pins := pins }) f hk

theorem withdrawPocket_eq (hk : s.pockets[p]? = some k) (pins : Pins) :
    withdrawPocket { s with pins := pins } p =
      notifyPlain (withRecord s pins p { k with state := .withdrawn, remembered := some k.state })
        (.pocketWithdrawn p k.state k.fill) := by
  have hrecord : pocketOf { s with pins := pins } p = k := pocketOf_eq hk
  rw [withdrawPocket, hrecord, changePocket_pins hk]
  rfl

theorem notifyReturned_eq (hk : s.pockets[p]? = some k) :
    notifyReturned s p = notifyPlain s (.pocketReturned p k.state k.fill) := by
  rw [notifyReturned, pocketOf_eq hk]

theorem notifyPlain_record (b : NoticeBody) (hk : s.pockets[p]? = some k) : (notifyPlain s b).pockets[p]? = some k := by
  simpa using hk

theorem notifyRefilled_eq (hk : s.pockets[p]? = some k) : notifyRefilled s p =
    if k.state = .full then notifyPlain s (.pocketFull p k.fill (capacityOf s p) none) else s := by
  rw [notifyRefilled, pocketOf_eq hk]
  cases hstate : k.state <;> simp

/-- R118, R120: POCKET-FULL of a record that is FULL again, then POCKET-RETURNED. -/
theorem tellReturned_eq (hk : s.pockets[p]? = some k) : tellReturned s p =
    notifyPlain (if k.state = .full then notifyPlain s (.pocketFull p k.fill (capacityOf s p) none) else s)
      (.pocketReturned p k.state k.fill) := by
  rw [tellReturned, notifyRefilled_eq hk]
  refine notifyReturned_eq ?_
  split
  · exact notifyPlain_record _ hk
  · exact hk

/-! ## The aim (R112) -/

theorem aim_tower_of_none (hg : s.tower.carried = some g) (hc : s.tower.charge = some c)
    (ho : (judgeOptions s g c os).2 = none) : (aim s os).tower = { s.tower with phase := .blocked, target := none } ∧
      (aim s os).timers.delivery = none := by
  have haimed := aim_of_none hg hc ho
  dsimp only at haimed
  rw [haimed]
  split <;> simp

/-! ## The tower's answer to a pocket that is not AVAILABLE (R112, R113) -/

/-- R110, R118: an aim leaves a record that is not AVAILABLE as it is. -/
theorem aim_record (hk : s.pockets[p]? = some k) (ha : k.state ≠ .available) : (aim s os).pockets[p]? = some k := by
  unfold aim
  split
  next g c _ _ =>
    have hrecord := judgeOptions_record_of_not_fails (g := g) (c := c) (os := os) hk fun h => ha h.2.2.1
    split
    next t o ho => simpa [ho, carryTo] using hrecord
    next t ho => simpa [ho] using hrecord
  next => exact hk

theorem retry_record (hk : s.pockets[p]? = some k) (ha : k.state ≠ .available) : (retry s).pockets[p]? = some k := by
  unfold retry
  split
  · split
    · exact aim_record hk ha
    · exact hk
  all_goals exact hk

theorem retarget_record (hk : s.pockets[p]? = some k) (ha : k.state ≠ .available) (q : Nat) :
    (retarget s q).pockets[p]? = some k := by
  unfold retarget
  split
  · split
    · exact aim_record hk ha
    · exact hk
  · exact hk

theorem answerDrawerOpen_eq : answerDrawerOpen s p = if s.tower.phase = .blocked then retry s else retarget s p := by
  cases h : s.tower.phase <;> simp [answerDrawerOpen, h]

/-- R112, R113: a stopped part does not aim. -/
theorem retarget_of_stopped (h : active s = false) : retarget s p = s := by
  unfold retarget
  split
  · simp [h]
  · rfl

theorem endSessionAt_of_target {z : Session} (hz : s.session = some z) (ht : z.towerTaken = true) (hp : z.target = p)
    (cause : EndCause) : endSessionAt s p cause = endSession s z cause := by
  simp [endSessionAt, hz, ht, hp]

theorem endSessionAt_of_not_target (h : ∀ z, ¬(s.session = some z ∧ z.towerTaken = true ∧ z.target = p))
    (cause : EndCause) : endSessionAt s p cause = s := by
  unfold endSessionAt
  split
  next z hz =>
    split
    next ht =>
      simp only [Bool.and_eq_true, beq_iff_eq] at ht
      exact absurd ⟨hz, ht⟩ (h z)
    next => rfl
  next => rfl

/-! ## The three events (R119 to R121) -/

/-- R119: the drawer-open event takes the record. -/
def Withdrawable (s : State) (p : Nat) (k : Pocket) : Prop :=
  p < towerSize s ∧ (k.state = .available ∨ k.state = .full ∨ k.state = .unverified)

theorem drawerOpenTakes_iff (hk : s.pockets[p]? = some k) : drawerOpenTakes s p = true ↔ Withdrawable s p k := by
  rw [drawerOpenTakes, pocketOf_eq hk]
  cases hstate : k.state <;> simp [Withdrawable, hstate]

theorem pocketIs_iff (hk : s.pockets[p]? = some k) (st : PocketState) :
    pocketIs s p st = true ↔ p < towerSize s ∧ k.state = st := by
  simp [pocketIs, pocketOf_eq hk]

/-- R119: the part with the record WITHDRAWN and POCKET-WITHDRAWN sent. -/
def withdrawn (s : State) (p : Nat) (k : Pocket) : State :=
  notifyPlain (withRecord s (drawerPins s p false) p { k with state := .withdrawn, remembered := some k.state })
    (.pocketWithdrawn p k.state k.fill)

/-- R112, R113: the withdrawn part with the tower's answer. -/
def turned (s : State) (p : Nat) (k : Pocket) : State :=
  if s.tower.phase = .blocked then retry (withdrawn s p k) else retarget (withdrawn s p k) p

theorem exec_drawerOpen (hp : p < 40) (hk : s.pockets[p]? = some k) (h : Withdrawable s p k) :
    exec (.drawerOpen p) s = .next (settle (endSessionAt (turned s p k) p .drawer)) := by
  have harm : exec (.drawerOpen p) s = execDrawerOpen p s := rfl
  have htakes : drawerOpenTakes { s with pins := drawerPins s p false } p = true := (drawerOpenTakes_iff hk).2 h
  have hanswer : answerDrawerOpen (withdrawn s p k) p = turned s p k := by
    simp [answerDrawerOpen_eq, turned, withdrawn, withRecord]
  rw [harm, execDrawerOpen, if_pos (show p < Config.pocketCount from hp), senseDrawer_eq]
  dsimp only
  rw [if_pos htakes, withdrawPocket_eq hk]
  exact congrArg (fun x => Host.Outcome.next (settle (endSessionAt x p .drawer))) hanswer

theorem exec_drawerOpen_ignored (hp : p < 40) (hk : s.pockets[p]? = some k) (h : ¬Withdrawable s p k) :
    exec (.drawerOpen p) s = .next { s with pins := drawerPins s p false } := by
  have harm : exec (.drawerOpen p) s = execDrawerOpen p s := rfl
  have htakes : ¬drawerOpenTakes { s with pins := drawerPins s p false } p = true :=
    fun ht => h ((drawerOpenTakes_iff (s := { s with pins := drawerPins s p false }) hk).1 ht)
  rw [harm, execDrawerOpen, if_pos (show p < Config.pocketCount from hp), senseDrawer_eq]
  dsimp only
  rw [if_neg htakes]

@[simp] theorem withdrawn_frame : (withdrawn s p k).run = s.run ∧ (withdrawn s p k).pins = drawerPins s p false ∧
    (withdrawn s p k).tower = s.tower ∧ (withdrawn s p k).stacker = s.stacker ∧ (withdrawn s p k).session = s.session ∧
    (withdrawn s p k).path = s.path ∧ (withdrawn s p k).straps = s.straps ∧ (withdrawn s p k).tables = s.tables := by
  simp [withdrawn, withRecord]

@[simp] theorem turned_frame : (turned s p k).run = s.run ∧ (turned s p k).pins = drawerPins s p false ∧
    (turned s p k).stacker = s.stacker ∧ (turned s p k).session = s.session ∧ (turned s p k).path = s.path := by
  unfold turned
  split <;> simp

theorem withdrawn_record (hk : s.pockets[p]? = some k) :
    (withdrawn s p k).pockets[p]? = some { k with state := .withdrawn, remembered := some k.state } :=
  notifyPlain_record _ (withRecord_record hk _ _)

theorem turned_record (hk : s.pockets[p]? = some k) :
    (turned s p k).pockets[p]? = some { k with state := .withdrawn, remembered := some k.state } := by
  unfold turned
  split
  · exact retry_record (withdrawn_record hk) (by simp)
  · exact retarget_record (withdrawn_record hk) (by simp) p

theorem turned_of_stopped (h : active s = false) : turned s p k = withdrawn s p k := by
  have hw : active (withdrawn s p k) = false := (active_congr (by simp)).trans h
  unfold turned
  split
  · exact retry_of_not (.inr hw)
  · exact retarget_of_stopped hw

/-- R113: a carry to the withdrawn pocket is aimed at the options after it. -/
theorem turned_of_lost {before after : List ChainOption} (ht : s.tower.target = some o)
    (hc : s.tower.chain = before ++ o :: after) (hb : o ∉ before) (hphase : s.tower.phase = .carrying)
    (ha : active s = true) (hd : o.dest = .pocket p) : turned s p k = aim (withdrawn s p k) after := by
  have hw : active (withdrawn s p k) = true := (active_congr (by simp)).trans ha
  rw [turned, if_neg (by simp [hphase])]
  exact retarget_of_lost (by simpa using ht) (by simpa using hc) hb (by simpa using hphase) hw hd

/-- R110, R119: with pocket `p` WITHDRAWN an option is eligible when it was, and is not that pocket. -/
theorem eligible_withdrawn_iff (hk : s.pockets[p]? = some k) : Eligible (withdrawn s p k) c x ↔
    match x.dest with
    | .stacker => s.stacker.fill + c ≤ 30000
    | .pocket q => q ≠ p ∧ q < towerSize s ∧ (pocketOf s q).state = .available ∧
        (pocketOf s q).fill + c ≤ capacityOf s q := by
  have hsize : towerSize (withdrawn s p k) = towerSize s := by simp [towerSize]
  cases hx : x.dest with
  | stacker => simp [eligible_stacker_iff hx]
  | pocket q =>
    have hcap : capacityOf (withdrawn s p k) q = capacityOf s q := by simp [capacityOf]
    rw [eligible_pocket_iff hx, hsize, hcap]
    by_cases hq : q = p
    · subst hq
      simp [pocketOf_eq (withdrawn_record hk)]
    · have hother : pocketOf (withdrawn s p k) q = pocketOf s q := by
        simp [pocketOf, withdrawn, withRecord, List.getElem?_set_ne (Ne.symm hq)]
      simp [hother, hq]

end Lemmas

/-- Settles O53: the withdrawn record through the tower's answer, and the aim along the options after the lost target. -/
theorem drawerOpenWithdraws : Obligations.DrawerOpenWithdraws := by
  unfold Obligations.DrawerOpenWithdraws
  intro s p k hlen hk sensed taken
  have hp : p < 40 := hlen ▸ lt_of_record hk
  have hsensed : sensed (drawerPins s p false) := ⟨rfl, fun q => setLevel_getLsbD _ _ hp⟩
  refine ⟨fun h => ?_, fun g c o before rest h ha hphase hg hc ho hd hchain hb hsession => ?_, fun h => ?_⟩
  · have hrecord : (settle (endSessionAt (turned s p k) p .drawer)).pockets[p]? =
        some { k with state := .withdrawn, remembered := some k.state } := by
      simpa using turned_record hk
    have hpins : (settle (endSessionAt (turned s p k) p .drawer)).pins = drawerPins s p false := by simp
    refine ⟨_, _, exec_drawerOpen hp hk h, hpins ▸ hsensed, hrecord, rfl, by simp, by simp, ?_, fun hstill => ?_⟩
    · rw [hpins]
      refine ⟨fun z ⟨hz, ht, htarget⟩ => ?_, fun hno => ?_⟩
      · rw [endSessionAt_of_target (z := z) (by simpa using hz) ht htarget]
        rfl
      · rw [endSessionAt_of_not_target fun z => by simpa using hno z]
        rfl
    · obtain ⟨hstopped, hnone⟩ := hstill
      rw [hpins, endSessionAt_of_not_target fun z => by simp [hnone], turned_of_stopped hstopped]
      exact settle_of_still ⟨(active_congr (by simp)).trans hstopped, by simpa using hnone⟩
  · -- R113: the carry that has lost its target
    intro eligible
    have hturned : turned s p k = aim (withdrawn s p k) rest := turned_of_lost ho hchain hb hphase ha hd
    have hends : endSessionAt (turned s p k) p .drawer = aim (withdrawn s p k) rest := by
      rw [endSessionAt_of_not_target fun z hz => by simp [hsession z (by simpa using hz.1)] at hz, hturned]
    have hcarried : (withdrawn s p k).tower.carried = some g := by simpa using hg
    have hcharge : (withdrawn s p k).tower.charge = some c := by simpa using hc
    refine ⟨_, exec_drawerOpen hp hk h, fun skipped x after hrest hx hskipped => ?_, fun hnone => ?_⟩
    · have hfirst : (judgeOptions (withdrawn s p k) g c rest).2 = some x := by
        rw [hrest]
        exact judgeOptions_first g skipped _ ((eligible_withdrawn_iff hk).2 hx) fun y hy he =>
          hskipped y hy ((eligible_withdrawn_iff hk).1 he)
      have haimed := aim_of_some hcarried hcharge hfirst
      obtain ⟨htower, hdelivery, -⟩ := settle_of_busy (s := aim (withdrawn s p k) rest) (by simp [haimed])
      rw [hends, htower, hdelivery, haimed]
      simp [hphase]
    · have hblocked : (judgeOptions (withdrawn s p k) g c rest).2 = none :=
        (judgeOptions_none_iff g c rest _).2 fun x hx he => hnone x hx ((eligible_withdrawn_iff hk).1 he)
      obtain ⟨haimed, htimer⟩ := aim_tower_of_none hcarried hcharge hblocked
      obtain ⟨htower, hdelivery, -⟩ := settle_of_busy (s := aim (withdrawn s p k) rest) (by simp [haimed])
      rw [hends, htower, hdelivery, haimed, htimer]
      simp
  · refine ⟨_, hsensed, exec_drawerOpen_ignored hp hk ?_⟩
    rintro ⟨hsize, hstate⟩
    rcases h with h | h | h
    · omega
    · simp [h] at hstate
    · simp [h] at hstate

end Sys2Proof.Machine.PocketRecords
end

section
/-!
PROOFS. A drawer that comes back and a floor that empties (R112, R118, R120, R121).
-/
namespace Sys2Proof.Machine.PocketRecords

open SetAssembly PocketTower

section Lemmas
variable {s t : State} {p q : Nat} {k k' : Pocket} {empty : Bool} {pins : Pins}

/-- The input lines with pocket `p`'s floor sensed as `empty`. -/
def floorPins (pins : Pins) (p : Nat) (empty : Bool) : Pins :=
  { pins with pockets := { pins.pockets with floorsEmpty := setLevel pins.pockets.floorsEmpty p empty } }

/-- The input lines after a drawer-close of pocket `p` over a floor that reads as `empty`. -/
def closePins (s : State) (p : Nat) (empty : Bool) : Pins := floorPins (drawerPins s p true) p empty

/-- R120, R121: the record returned, with its notices. -/
def returned (s : State) (pins : Pins) (p : Nat) (k' : Pocket) : State :=
  let back := withRecord s pins p k'
  notifyPlain (if k'.state = .full then notifyPlain back (.pocketFull p k'.fill (capacityOf s p) none) else back)
    (.pocketReturned p k'.state k'.fill)

@[simp] theorem returned_frame : (returned s pins p k').run = s.run ∧ (returned s pins p k').session = s.session := by
  unfold returned
  dsimp only
  split <;> simp [withRecord]

theorem exec_drawerClose (hp : p < 40) (hk : s.pockets[p]? = some k) (hsize : p < towerSize s)
    (hw : k.state = .withdrawn) : exec (.drawerClose p empty) s =
      .next (settle (retry (returned s (closePins s p empty) p (k.returned empty)))) := by
  have harm : exec (.drawerClose p empty) s = execDrawerClose p empty s := rfl
  have hsensed : senseFloor (senseDrawer s p true) p empty = { s with pins := closePins s p empty } := rfl
  have hwithdrawn : pocketIs { s with pins := closePins s p empty } p .withdrawn = true :=
    (pocketIs_iff (s := { s with pins := closePins s p empty }) hk _).2 ⟨hsize, hw⟩
  have hcap : capacityOf (withRecord s (closePins s p empty) p (k.returned empty)) p = capacityOf s p := rfl
  rw [harm, execDrawerClose, if_pos (show p < Config.pocketCount from hp), hsensed]
  dsimp only
  rw [if_pos hwithdrawn, changePocket_pins hk, tellReturned_eq (withRecord_record hk _ _), hcap]
  rfl

theorem exec_drawerClose_ignored (hp : p < 40) (hk : s.pockets[p]? = some k)
    (h : ¬(p < towerSize s ∧ k.state = .withdrawn)) :
    exec (.drawerClose p empty) s = .next { s with pins := closePins s p empty } := by
  have harm : exec (.drawerClose p empty) s = execDrawerClose p empty s := rfl
  have hsensed : senseFloor (senseDrawer s p true) p empty = { s with pins := closePins s p empty } := rfl
  have hother : ¬pocketIs { s with pins := closePins s p empty } p .withdrawn = true :=
    fun ht => h ((pocketIs_iff (s := { s with pins := closePins s p empty }) hk _).1 ht)
  rw [harm, execDrawerClose, if_pos (show p < Config.pocketCount from hp), hsensed]
  dsimp only
  rw [if_neg hother]

theorem exec_floorEmpty (hp : p < 40) (hk : s.pockets[p]? = some k) (hsize : p < towerSize s)
    (hu : k.state = .unverified) : exec (.floorEmpty p) s =
      .next (settle (retry (returned s (floorPins s.pins p true) p k.emptied))) := by
  have harm : exec (.floorEmpty p) s = execFloorEmpty p s := rfl
  have hsensed : senseFloor s p true = { s with pins := floorPins s.pins p true } := rfl
  have hunverified : pocketIs { s with pins := floorPins s.pins p true } p .unverified = true :=
    (pocketIs_iff (s := { s with pins := floorPins s.pins p true }) hk _).2 ⟨hsize, hu⟩
  have hnotice : returned s (floorPins s.pins p true) p k.emptied =
      notifyPlain (withRecord s (floorPins s.pins p true) p k.emptied)
        (.pocketReturned p k.emptied.state k.emptied.fill) := rfl
  rw [harm, execFloorEmpty, if_pos (show p < Config.pocketCount from hp), hsensed]
  dsimp only
  rw [if_pos hunverified, changePocket_pins hk, notifyReturned_eq (withRecord_record hk _ _), hnotice]

theorem exec_floorEmpty_ignored (hp : p < 40) (hk : s.pockets[p]? = some k)
    (h : ¬(p < towerSize s ∧ k.state = .unverified)) :
    exec (.floorEmpty p) s = .next { s with pins := floorPins s.pins p true } := by
  have harm : exec (.floorEmpty p) s = execFloorEmpty p s := rfl
  have hsensed : senseFloor s p true = { s with pins := floorPins s.pins p true } := rfl
  have hother : ¬pocketIs { s with pins := floorPins s.pins p true } p .unverified = true :=
    fun ht => h ((pocketIs_iff (s := { s with pins := floorPins s.pins p true }) hk _).1 ht)
  rw [harm, execFloorEmpty, if_pos (show p < Config.pocketCount from hp), hsensed]
  dsimp only
  rw [if_neg hother]

/-- A still part does nothing of itself after the return. -/
theorem settle_retry_returned (h : s.still) : settle (retry (returned s pins p k')) = returned s pins p k' := by
  obtain ⟨hstopped, hnone⟩ := h
  have ha : active (returned s pins p k') = false := (active_congr (by simp)).trans hstopped
  rw [retry_of_not (.inr ha)]
  exact settle_of_still ⟨ha, by simpa using hnone⟩

end Lemmas

/-- Settles O54: each event by its equation, for the state that takes it and for every other. -/
theorem drawerCloseAndFloorEmpty : Obligations.DrawerCloseAndFloorEmpty := by
  unfold Obligations.DrawerCloseAndFloorEmpty
  intro s p k empty hlen hk fresh kept back refilled returned' sensed
  have hp : p < 40 := hlen ▸ lt_of_record hk
  have hclose : sensed (closePins s p empty) true empty :=
    ⟨rfl, fun q => ⟨setLevel_getLsbD _ _ hp, setLevel_getLsbD _ _ hp⟩⟩
  have hfloor : sensed (floorPins s.pins p true) (s.pins.pockets.drawersIn.getLsbD p) true := by
    refine ⟨rfl, fun q => ⟨?_, setLevel_getLsbD _ _ hp⟩⟩
    split
    next hq => rw [hq]; rfl
    next => rfl
  have hrecord : k.returned empty = if empty = true then fresh else kept := rfl
  refine ⟨fun hsize hw => ?_, fun h => ?_, fun hsize hu => ?_, fun h => ?_⟩
  · exact ⟨_, _, _, hclose, hrecord, exec_drawerClose hp hk hsize hw, rfl, settle_retry_returned⟩
  · exact ⟨_, hclose, exec_drawerClose_ignored hp hk fun ⟨hsize, hw⟩ => h.elim (Nat.not_le.2 hsize) (· hw)⟩
  · exact ⟨_, _, hfloor, exec_floorEmpty hp hk hsize hu, rfl, settle_retry_returned⟩
  · exact ⟨_, hfloor, exec_floorEmpty_ignored hp hk fun ⟨hsize, hu⟩ => h.elim (Nat.not_le.2 hsize) (· hu)⟩

end Sys2Proof.Machine.PocketRecords
end

section
/-!
PROOFS. Table entries at a COMMIT and at a release (R141, R142, R144): marks, applications and their counts.
-/
namespace Sys2Proof.Machine.PocketRecords

open SetAssembly PocketTower

section Lemmas
variable {s t : State} {α : Type} {b : Bool}

/-! ## One entry (R141, R142) -/

/-- R141: the entry after a COMMIT whose scope takes it in, or not. -/
def markIf (b : Bool) (e : Entry α) : Entry α := if b then e.mark else e

@[simp] theorem markIf_active (e : Entry α) : (markIf b e).active = e.active := by cases b <;> rfl

/-- R141, R142: the entry applies at a COMMIT whose scope takes it in, or not. -/
def goesAt (b : Bool) (e : Entry α) : Bool := (e.marked || (b && e.pending.isSome)) && e.refs == 0

theorem ready_markIf (e : Entry α) : (markIf b e).ready = goesAt b e := by
  cases b <;> simp [markIf, goesAt, Entry.mark, Entry.ready, beq_eq_decide]

theorem apply_markIf (e : Entry α) : (markIf b e).apply = e.committed b := by
  obtain ⟨active, pending, marked, refs⟩ := e
  have hmarked : markIf b ⟨active, pending, marked, refs⟩ =
      { active := active, pending := pending, marked := marked || (b && pending.isSome), refs := refs } := by
    cases b <;> simp [markIf, Entry.mark]
  rw [hmarked, Entry.apply, Entry.committed, Entry.ready]
  dsimp only
  split
  next h =>
    simp only [Bool.and_eq_true, decide_eq_true_eq] at h
    rw [h.2]
  next => rfl

/-! ## The store (R141, R142, R144) -/

/-- R141, R142: the tables after a COMMIT of the scope, or, with no scope that takes a group in, after a release. -/
def committedTables (covers : Nat → Bool) (t : Tables) : Tables :=
  { classes := t.classes.map (Entry.committed (covers 0))
    plans := t.plans.map (Entry.committed (covers 1))
    grades := t.grades.map (Entry.committed (covers 2))
    pockets := t.pockets.map (Entry.committed (covers 3))
    transport := t.transport.committed (covers 4) }

/-- R142: the number of entries that apply at it. -/
def goingCount (covers : Nat → Bool) (t : Tables) : Nat :=
  t.classes.countP (goesAt (covers 0)) + t.plans.countP (goesAt (covers 1)) + t.grades.countP (goesAt (covers 2)) +
    t.pockets.countP (goesAt (covers 3)) + (if goesAt (covers 4) t.transport then 1 else 0)

/-- R141: the tables with the marks of a COMMIT. -/
def markedTables (covers : Nat → Bool) (t : Tables) : Tables :=
  { classes := t.classes.map (markIf (covers 0))
    plans := t.plans.map (markIf (covers 1))
    grades := t.grades.map (markIf (covers 2))
    pockets := t.pockets.map (markIf (covers 3))
    transport := markIf (covers 4) t.transport }

theorem mark_eq (scope : Nat) (t : Tables) : t.mark scope = markedTables (inScope scope) t := by
  have hgroup {α : Type} (b : Bool) (es : List (Entry α)) : (if b then es.map Entry.mark else es) = es.map (markIf b) := by
    cases b with
    | true => rfl
    | false => exact (List.map_id es).symm
  simp only [Tables.mark, hgroup]
  rfl

/-- R142: a release marks nothing. -/
def noScope (_ : Nat) : Bool := false

theorem markedTables_noScope (t : Tables) : markedTables noScope t = t := by
  have hgroup {α : Type} (es : List (Entry α)) : es.map (markIf false) = es := List.map_id es
  simp only [markedTables, noScope, hgroup]
  rfl

theorem apply_marked (covers : Nat → Bool) (t : Tables) : (markedTables covers t).apply = committedTables covers t := by
  have hgroup {α : Type} (b : Bool) (es : List (Entry α)) :
      (es.map (markIf b)).map Entry.apply = es.map (Entry.committed b) := by
    rw [List.map_map]
    exact List.map_congr_left fun e _ => apply_markIf e
  simp only [markedTables, Tables.apply, hgroup, apply_markIf, committedTables]

theorem readyCount_marked (covers : Nat → Bool) (t : Tables) :
    (markedTables covers t).readyCount = goingCount covers t := by
  have hgroup {α : Type} (b : Bool) (es : List (Entry α)) :
      ((es.map (markIf b)).filter Entry.ready).length = es.countP (goesAt b) := by
    rw [← List.countP_eq_length_filter, List.countP_map]
    exact List.countP_congr fun e _ => by rw [Function.comp_apply, ready_markIf]
  simp only [markedTables, Tables.readyCount, hgroup, ready_markIf, goingCount]
  cases goesAt (covers 4) t.transport <;> rfl

theorem anyMarked_iff (t : Tables) : t.anyMarked = true ↔
    (∃ e ∈ t.classes, e.marked = true) ∨ (∃ e ∈ t.plans, e.marked = true) ∨ (∃ e ∈ t.grades, e.marked = true) ∨
      (∃ e ∈ t.pockets, e.marked = true) ∨ t.transport.marked = true := by
  simp only [Tables.anyMarked, Bool.or_eq_true, List.any_eq_true, or_assoc]

/-! ## A release (R142, R144) -/

theorem applyReleased_eq : applyReleased s =
    if goingCount noScope s.tables = 0 then s
    else commitDoneTest { s with tables := committedTables noScope s.tables } (goingCount noScope s.tables) := by
  rw [← readyCount_marked, ← apply_marked, markedTables_noScope]
  rfl

theorem commitDoneTest_of_marked {n : Nat} (h : s.tables.anyMarked = true) : commitDoneTest s n = s := if_pos h

theorem commitDoneTest_of_unmarked {n : Nat} (h : s.tables.anyMarked = false) :
    commitDoneTest s n = notifyPlain s (.commitDone n) := by
  simp [commitDoneTest, h]

/-! ## The pocket entries that apply (R142) -/

theorem readyPockets_eq (es : List (Entry PocketConfig)) : ∀ n, readyPockets n es =
    (List.range es.length).filterMap fun i =>
      (es[i]?).bind fun e => if e.ready then some (n + i, e.active) else none := by
  induction es with
  | nil => exact fun _ => rfl
  | cons e es ih =>
    intro n
    rw [readyPockets, ih, List.length_cons, List.range_succ_eq_map, List.filterMap_cons, List.filterMap_map]
    have hshift (i : Nat) : n + 1 + i = n + (i + 1) := by omega
    cases hr : e.ready <;> simp [hr, hshift]

/-- R142: the numbers of the pocket entries that apply at a COMMIT whose scope takes the group in, or not. -/
def goingPockets (b : Bool) (es : List (Entry PocketConfig)) : List Nat :=
  (List.range es.length).filter fun p => (es[p]?).any (goesAt b)

theorem readyPockets_numbers (b : Bool) (es : List (Entry PocketConfig)) :
    (readyPockets 0 (es.map (markIf b))).map (·.1) = goingPockets b es := by
  rw [readyPockets_eq, List.map_filterMap, List.length_map, goingPockets, ← List.filterMap_eq_filter]
  refine List.filterMap_congr fun p hp => ?_
  cases he : es[p]? with
  | none => simp [he, Option.guard]
  | some e =>
    cases hg : goesAt b e <;> simp [he, ready_markIf, hg, Option.guard]

/-- R122: the record of pocket `p` reacts to the application of its entry among `es`, if it has one. -/
def reactAt (es : List (Entry PocketConfig)) (s : State) (p : Nat) : State :=
  match es[p]? with
  | some e => reactPocket s p e.active
  | none => s

/-- R122: the record of each pocket whose entry applies reacts to it. -/
theorem foldl_readyPockets (b : Bool) (es : List (Entry PocketConfig)) (s : State) :
    (readyPockets 0 (es.map (markIf b))).foldl (fun x e => reactPocket x e.1 e.2) s =
      (goingPockets b es).foldl (reactAt es) s := by
  rw [readyPockets_eq, List.foldl_filterMap, goingPockets, List.foldl_filter, List.length_map]
  refine List.foldl_ext _ _ _ fun x p hp => ?_
  cases he : es[p]? with
  | none => simp [he]
  | some e =>
    cases hg : goesAt b e <;> simp [he, ready_markIf, hg, reactAt]

end Lemmas

end Sys2Proof.Machine.PocketRecords
end

section
/-!
PROOFS. COMMIT (R141, R142, R144): its refusals, the records that react, and what a still part changes.
-/
namespace Sys2Proof.Machine.PocketRecords

open SetAssembly PocketTower

section Lemmas
variable {s t u v : State} {l : Link} {f : Frame} {pins : PocketPins}

/-! ## The answer (R155) -/

/-- R155: an answer does not read the tables. -/
theorem answerTo_tables (x : Tables) (r : Result) (body : List Data) :
    answerTo { s with tables := x } l f r body = { answerTo s l f r body with tables := x } := by
  have hpump (y : State) : pump { y with tables := x } l = { pump y l with tables := x } := by
    have hpresent : linkPresent { y with tables := x } l = linkPresent y l := rfl
    unfold pump
    rw [hpresent]
    split <;> rfl
  unfold answerTo answer
  split
  · rfl
  · exact hpump (changePort s l _)

/-! ## The neighbours of the applied entries (R112, R113, R133, R142) -/

/-- R142: what the applied pocket entries `ps` bring about beside their records' reactions. -/
theorem afterPockets_of_ne_nil {ps : List Nat} (h : ps ≠ []) :
    afterPockets ps s = endDisabled ps (leaveLost ps (retry s)) := by
  rw [afterPockets_eq, if_neg (by simpa using h)]

theorem leaveLost_eq (ps : List Nat) : leaveLost ps s = match s.tower.target with
    | some o => (match o.dest with
      | .pocket p => if p ∈ ps ∧ (pocketOf s p).state ≠ .available then retarget s p else s
      | .stacker => s)
    | none => s := by
  unfold leaveLost
  cases s.tower.target with
  | none => rfl
  | some o => cases hd : o.dest <;> simp [hd]

theorem endDisabled_eq (ps : List Nat) : endDisabled ps s = match s.session with
    | some z => if z.target ∈ ps ∧ (pocketOf s z.target).state = .disabled ∧ z.towerTaken = true
      then endSession s z .targetDisabled else s
    | none => s := by
  unfold endDisabled
  cases hz : s.session with
  | none => rfl
  | some z =>
    cases ht : z.towerTaken <;> simp [ht, endSessionAt, hz]

/-! ## The request (R141) -/

/-- R141: the part with the frame taken and the drawers and floors read. -/
def commitTaken (s : State) (l : Link) (pins : PocketPins) : State :=
  { takeFrame s l with pins := { s.pins with pockets := pins } }

/-- R142: the part with the entries applied and the records of the applied pocket entries reacted. -/
def committed (covers : Nat → Bool) (s : State) : State :=
  (goingPockets (covers 3) s.tables.pockets).foldl (reactAt s.tables.pockets)
    { s with tables := committedTables covers s.tables }

theorem applyCommit_marked (covers : Nat → Bool) :
    applyCommit { s with tables := markedTables covers s.tables } =
      commitDoneTest (afterPockets (goingPockets (covers 3) s.tables.pockets) (committed covers s))
        (goingCount covers s.tables) := by
  have hpockets : (markedTables covers s.tables).pockets = s.tables.pockets.map (markIf (covers 3)) := rfl
  rw [committed, ← foldl_readyPockets, ← readyPockets_numbers, ← readyCount_marked, ← apply_marked, ← hpockets]
  rfl

theorem exec_commit (h : s.requests l f 0x05) : exec (.commit l pins) s =
    .next (match commitRefusal (commitTaken s l pins) (field f.payload 0) with
      | some r => refuse (commitTaken s l pins) l f r
      | none => settle (applyCommit (answerTo { commitTaken s l pins with
          tables := s.tables.mark (field f.payload 0) } l f .accepted []))) := by
  obtain ⟨ho, hk, hl⟩ := h
  have harm : exec (.commit l pins) s = execCommit l pins s := rfl
  rw [harm, execCommit, handle_request s ho (by simp [ofKind, hk, kindCommit]) hl]
  rfl

theorem exec_commit_refused {r : Reason} (h : s.requests l f 0x05)
    (hr : commitRefusal (commitTaken s l pins) (field f.payload 0) = some r) :
    exec (.commit l pins) s = .next (answerTo (commitTaken s l pins) l f (.refused r) []) := by
  rw [exec_commit h, hr]
  rfl

theorem exec_commit_accepted (h : s.requests l f 0x05)
    (hr : commitRefusal (commitTaken s l pins) (field f.payload 0) = none) :
    exec (.commit l pins) s = .next (settle (commitDoneTest
      (afterPockets (goingPockets (inScope (field f.payload 0) 3) s.tables.pockets)
        (committed (inScope (field f.payload 0)) (answerTo (commitTaken s l pins) l f .accepted [])))
      (goingCount (inScope (field f.payload 0)) s.tables))) := by
  have htables : (answerTo (commitTaken s l pins) l f .accepted []).tables = s.tables := by simp [commitTaken]
  have happly := applyCommit_marked (s := answerTo (commitTaken s l pins) l f .accepted []) (inScope (field f.payload 0))
  rw [htables] at happly
  rw [exec_commit h, hr]
  dsimp only
  rw [mark_eq, answerTo_tables, happly]

theorem commitRefusal_range {scope : Nat} (h : 5 < scope) : commitRefusal s scope = some .range := by
  simp [commitRefusal, h]

theorem commitRefusal_notStandby {scope : Nat} (h : scope ≤ 5) (hc : inScope scope 4 = true)
    (hp : s.tables.transport.pending.isSome = true) (hr : s.run ≠ .standby) :
    commitRefusal s scope = some .notStandby := by
  simp [commitRefusal, Nat.not_lt.2 h, hc, hp, hr]

theorem commitRefusal_none {scope : Nat} (h : scope ≤ 5)
    (hp : inScope scope 4 = false ∨ s.tables.transport.pending = none ∨ s.run = .standby) :
    commitRefusal s scope = none := by
  rw [commitRefusal, if_neg (Nat.not_lt.2 h), if_neg]
  rintro ⟨hc, hs, hr⟩
  rcases hp with hp | hp | hp
  · simp [hp] at hc
  · simp [hp] at hs
  · exact hr hp

/-! ## What a still part changes (R142) -/

/-- From `u` to `t` only links, tables and pocket records change. -/
def OnlyRecords (u t : State) : Prop := t = { u with links := t.links, tables := t.tables, pockets := t.pockets }

theorem OnlyRecords.trans (h : OnlyRecords u t) (g : OnlyRecords t v) : OnlyRecords u v := by
  have hfields := congrArg
    (fun x : State => ({ x with links := v.links, tables := v.tables, pockets := v.pockets } : State))
    (show t = { u with links := t.links, tables := t.tables, pockets := t.pockets } from h)
  exact Eq.trans g hfields

theorem onlyRecords_notify (r j : Nat) (b : NoticeBody) : OnlyRecords s (notify s r j b) := by
  rw [notify_eq]
  rfl

theorem onlyRecords_answerTo (r : Result) (body : List Data) : OnlyRecords s (answerTo s l f r body) := by
  have hpump (y : State) : OnlyRecords y (pump y l) := by
    unfold pump
    split <;> rfl
  unfold answerTo answer
  split
  · rfl
  · exact OnlyRecords.trans (t := changePort s l _) rfl (hpump _)

theorem onlyRecords_reactPocket (p : Nat) (old : PocketConfig) : OnlyRecords s (reactPocket s p old) := by
  unfold reactPocket
  dsimp only
  split
  · exact OnlyRecords.trans (t := changePocket s p _) rfl (onlyRecords_notify _ _ _)
  · rfl

/-- R122: a reaction changes links and pocket records, and no table. -/
theorem reactAt_frame (es : List (Entry PocketConfig)) (p : Nat) :
    OnlyRecords s (reactAt es s p) ∧ (reactAt es s p).tables = s.tables := by
  unfold reactAt
  split
  · exact ⟨onlyRecords_reactPocket p _, by simp⟩
  · exact ⟨rfl, rfl⟩

theorem foldl_reactAt_frame (es : List (Entry PocketConfig)) (ps : List Nat) : ∀ s : State,
    OnlyRecords s (ps.foldl (reactAt es) s) ∧ (ps.foldl (reactAt es) s).tables = s.tables := by
  induction ps with
  | nil => exact fun _ => ⟨rfl, rfl⟩
  | cons p ps ih =>
    intro s
    obtain ⟨honly, htables⟩ := reactAt_frame (s := s) es p
    obtain ⟨honly', htables'⟩ := ih (reactAt es s p)
    exact ⟨honly.trans honly', htables'.trans htables⟩

theorem onlyRecords_committed (covers : Nat → Bool) : OnlyRecords s (committed covers s) :=
  OnlyRecords.trans (t := { s with tables := committedTables covers s.tables }) rfl (foldl_reactAt_frame _ _ _).1

theorem committed_tables (covers : Nat → Bool) : (committed covers s).tables = committedTables covers s.tables :=
  (foldl_reactAt_frame _ _ _).2

theorem OnlyRecords.still (h : OnlyRecords u t) (hu : u.still) : t.still := by
  rw [h]
  exact hu

theorem afterPockets_of_still (h : s.still) (ps : List Nat) : afterPockets ps s = s := by
  obtain ⟨hstopped, hnone⟩ := h
  rw [afterPockets_eq, retry_of_not (.inr hstopped)]
  have hlost : leaveLost ps s = s := by
    unfold leaveLost
    split
    · split
      · exact retarget_of_stopped hstopped
      · rfl
    · rfl
  rw [hlost, endDisabled, hnone]
  exact ite_self s

/-- R142: the last step of an application: links change at most. -/
theorem commitDoneTest_frame_still (n : Nat) :
    OnlyRecords s (commitDoneTest s n) ∧ (commitDoneTest s n).tables = s.tables := by
  unfold commitDoneTest
  split
  · exact ⟨rfl, rfl⟩
  · exact ⟨onlyRecords_notify _ _ _, by simp⟩

/-- R142: an accepted COMMIT in a still part. -/
theorem exec_commit_still (h : s.requests l f 0x05)
    (hr : commitRefusal (commitTaken s l pins) (field f.payload 0) = none) (hs : s.still) :
    ∃ t, exec (.commit l pins) s = .next t ∧ OnlyRecords (commitTaken s l pins) t ∧
      t.tables = committedTables (inScope (field f.payload 0)) s.tables := by
  let covers := inScope (field f.payload 0)
  let a := answerTo (commitTaken s l pins) l f .accepted []
  let t := commitDoneTest (committed covers a) (goingCount covers s.tables)
  have hstill : (commitTaken s l pins).still := hs
  have hcommitted : OnlyRecords (commitTaken s l pins) (committed covers a) :=
    (onlyRecords_answerTo _ _).trans (onlyRecords_committed _)
  obtain ⟨honly, htables⟩ := commitDoneTest_frame_still (s := committed covers a) (goingCount covers s.tables)
  have hkept : OnlyRecords (commitTaken s l pins) t := hcommitted.trans honly
  have hanswer : a.tables = s.tables := by simp [a, commitTaken]
  refine ⟨t, ?_, hkept, ?_⟩
  · rw [exec_commit_accepted h hr, afterPockets_of_still (hcommitted.still hstill), settle_of_still (hkept.still hstill)]
  · exact htables.trans ((committed_tables covers).trans (by rw [hanswer]))

end Lemmas

/-- Settles O24: a release and a COMMIT are one application, of the entries marked before and of those in the scope. -/
theorem commitMarksAndApplies : Obligations.CommitMarksAndApplies := by
  unfold Obligations.CommitMarksAndApplies
  refine ⟨fun s => ?_, anyMarked_iff, fun s l f pins h => ?_⟩
  · intro goes n applied
    have hgoes {α : Type} : (goes : Entry α → Bool) = goesAt false := funext fun e => by simp [goes, goesAt]
    have hn : n = goingCount noScope s.tables := by simp only [n, hgoes]; rfl
    have happlied : applied = { s with tables := committedTables noScope s.tables } := rfl
    rw [applyReleased_eq, ← happlied, hn]
    refine ⟨fun h0 => if_pos h0, fun h1 => ?_⟩
    rw [if_neg (by omega)]
    exact ⟨commitDoneTest_of_marked, commitDoneTest_of_unmarked⟩
  · intro scope covers u
    refine ⟨fun hr => ?_, fun hc hp hr hs => ?_, fun hs hok => ?_, fun hs hok hstill => ?_⟩
    · exact exec_commit_refused h (commitRefusal_range hr)
    · exact exec_commit_refused h (commitRefusal_notStandby hs hc hp hr)
    · intro goes n ps a w aimed ended told
      have hexec := exec_commit_accepted (pins := pins) h (commitRefusal_none hs hok)
      have htables : a.tables = s.tables := by simp [a, u]
      have hw : committed (inScope scope) a = w := by
        rw [committed, htables]
        rfl
      have haimed (x : State) : leaveLost ps x = aimed x := leaveLost_eq ps
      have hended (x : State) : endDisabled ps x = ended x := endDisabled_eq ps
      have htold : afterPockets ps w = told := by
        by_cases hps : ps = []
        · simp only [told, if_pos hps, hps]
          rfl
        · simp only [told, if_neg hps]
          rw [afterPockets_of_ne_nil hps, haimed, hended]
      have hdone : settle (commitDoneTest (afterPockets ps w) n) =
          settle (if told.tables.anyMarked = true then told else notifyPlain told (.commitDone n)) := by
        rw [htold]
        rfl
      rw [← hdone, ← hw]
      exact hexec
    · exact exec_commit_still h (commitRefusal_none hs hok) hstill

end Sys2Proof.Machine.PocketRecords
end

section
/-!
PROOFS. A session and the tower (R127, R129, R133): the take, INSERT-READY and the elevator's return.
-/
namespace Sys2Proof.Machine.InsertSession

open PocketRecords

section Lemmas
variable {s : State} {z : Session} {j : Job} {p seat grade : Nat} {place : Place}

/-! ## The target (R127) -/

theorem takesSheet_iff : takesSheet s p grade = true ↔ p < towerSize s ∧ (pocketOf s p).state = .available ∧
    (pocketOf s p).fill + thickness s grade ≤ capacityOf s p := by
  rw [takesSheet, Bool.and_eq_true, pocketOffers_iff, pocketFits_iff, and_assoc]

theorem insertTarget_seat (h : takesSheet s (seatPocket s j.cls seat) grade = true) :
    insertTarget s j seat grade = some (seatPocket s j.cls seat, .seat) := if_pos h

theorem insertTarget_exception (hown : ¬takesSheet s (seatPocket s j.cls seat) grade = true)
    (h : takesSheet s j.exceptionPocket grade = true) :
    insertTarget s j seat grade = some (j.exceptionPocket, .exception) := by
  rw [insertTarget, if_neg hown, if_pos h]

theorem insertTarget_none (hown : ¬takesSheet s (seatPocket s j.cls seat) grade = true)
    (h : ¬takesSheet s j.exceptionPocket grade = true) : insertTarget s j seat grade = none := by
  rw [insertTarget, if_neg hown, if_neg h]

/-! ## The take (R129) -/

/-- R129: the session `z` holds the tower for pocket `p`, and its positioning timer runs. -/
def towerTakenFor (s : State) (z : Session) (p : Nat) (place : Place) : State :=
  { s with
    session := some { z with target := p, place := place, towerTaken := true, timer := some (.positioning, 60000) }
    tower := { s.tower with phase := .held } }

/-- R129: a WAITING session at an IDLE tower acts on its target as judged now. -/
theorem sessionTakesTower_waiting (hz : s.session = some z) (hw : z.phase = .waiting) (hn : z.towerTaken = false)
    (hj : findJob s z.job = some j) (ht : s.tower.phase = .idle) :
    sessionTakesTower s = match insertTarget s j z.seat z.grade with
      | some t => towerTakenFor s z t.1 t.2
      | none => endSession s z .noPocket := by
  simp only [sessionTakesTower, hz, ht, hw, hn, hj]
  cases hi : insertTarget s j z.seat z.grade with
  | none => simp [hi]
  | some t => simp [hi, hw, towerTakenFor, msTicks, Config.positioningMs, Config.ticksPerMs]

/-- R133: the end of a session that has not taken the tower leaves the tower alone. -/
theorem endSession_untaken_tower (hn : z.towerTaken = false) (c : EndCause) : (endSession s z c).tower = s.tower := by
  simp [endSession, hn]

/-! ## The insert position (R129) -/

theorem exec_insertPosition (hz : s.session = some z) (hw : z.phase = .waiting) (ht : z.towerTaken = true) :
    exec .insertPosition s = .next (activateSession s z) := by
  have harm : exec .insertPosition s = execInsertPosition s := rfl
  have hpositioning : positioningSession s = some z := by simp [positioningSession, hz, hw, ht]
  rw [harm, execInsertPosition, hpositioning]

theorem exec_insertPosition_ignored (h : ∀ z, s.session = some z → z.phase = .active ∨ z.towerTaken = false) :
    exec .insertPosition s = .next s := by
  have harm : exec .insertPosition s = execInsertPosition s := rfl
  have hnone : positioningSession s = none := by
    cases hz : s.session with
    | none => simp [positioningSession, hz]
    | some z =>
      rcases h z hz with ha | hn
      · simp [positioningSession, hz, ha]
      · cases hp : z.phase <;> simp [positioningSession, hz, hp, hn]
  rw [harm, execInsertPosition, hnone]

/-! ## The home event (R133) -/

theorem elevatorReturning_iff : elevatorReturning s = true ↔
    s.tower.phase = .held ∧ ∀ z, s.session = some z → z.towerTaken = false := by
  rw [elevatorReturning, Bool.and_eq_true]
  refine and_congr ?_ ?_
  · cases s.tower.phase <;> simp
  · cases s.session <;> simp

theorem exec_homeEvent : exec .homeEvent s =
    .next (if elevatorReturning s = true then settle (elevatorHomed s) else s) := rfl

end Lemmas

/-- Settles O55: the take by the target as judged again, then the two events by their guards. -/
theorem sessionTakesAndFreesTheTower : Obligations.SessionTakesAndFreesTheTower := by
  unfold Obligations.SessionTakesAndFreesTheTower
  refine ⟨fun s z j hz hw hn hj => ⟨fun ht => ?_, fun ht => ?_⟩, fun s h => ?_, fun s => ⟨fun z hz hw ht => ?_,
    exec_insertPosition_ignored, fun hr => ?_, fun hr => ?_⟩⟩
  · exact sessionTakesTower_eq s (.inr (.inl ht))
  · -- R127, R129: the IDLE tower
    intro own takes taken
    have htakes (p : Nat) : takes p ↔ takesSheet s p z.grade = true := takesSheet_iff.symm
    rw [sessionTakesTower_waiting hz hw hn hj ht]
    simp only [htakes]
    refine ⟨fun hown => ?_, fun hown he => ?_, fun hown he => ?_⟩
    · rw [insertTarget_seat hown]
      rfl
    · rw [insertTarget_exception hown he]
      rfl
    · rw [insertTarget_none hown he]
      exact ⟨endSession_session _, endSession_untaken_tower hn _, rfl⟩
  · -- R129: no session waits for the tower
    cases hz : s.session with
    | none => exact sessionTakesTower_eq s (.inl hz)
    | some z => exact sessionTakesTower_eq s (.inr (.inr ⟨z, hz, h z hz⟩))
  · exact exec_insertPosition hz hw ht
  · rw [exec_homeEvent, if_pos (elevatorReturning_iff.2 hr)]
    rfl
  · rw [exec_homeEvent, if_neg (mt elevatorReturning_iff.1 hr)]

end Sys2Proof.Machine.InsertSession
end

section
/-!
PROOFS. The end of a session (R132 to R134): its causes, and what any end does.
-/
namespace Sys2Proof.Machine.InsertSession

open SetAssembly ParkingShelf PocketTower PocketRecords

section Lemmas
variable {s : State} {z : Session} {k : SessionTimer} {c : EndCause}

/-! ## What any end does (R133, R134) -/

/-- R133: the state without the session `z`, and the tower freed when `z` held it: at once for FAULT, and otherwise by
the elevator's return. -/
def sessionGone (s : State) (z : Session) (c : EndCause) : State :=
  if z.towerTaken = false then { s with session := none }
  else if c = .fault then { s with session := none, tower := { s.tower with phase := .idle } }
  else { s with session := none, timers := { s.timers with delivery := some 60000 } }

theorem endSession_eq : endSession s z c = removeClosed (accountSession
    (notify (sessionGone s z c) z.replyTag z.job
      (.insertDone z.seat z.target z.place z.expected z.inserted c (pocketOf s z.target).fill))
    z.job z.seat z.inserted) := by
  have hfreed : { (if z.towerTaken then releaseTower s c else s) with session := none } = sessionGone s z c := by
    cases ht : z.towerTaken with
    | false => simp [sessionGone, ht]
    | true => cases c <;> simp [sessionGone, ht, releaseTower, msTicks, Config.deliveryMs, Config.ticksPerMs]
  rw [← hfreed]
  rfl

theorem sessionGone_returning (ht : z.towerTaken = true) (hc : c ≠ .fault) :
    sessionGone s z c = { s with session := none, timers := { s.timers with delivery := some 60000 } } := by
  simp [sessionGone, ht, hc]

/-- R133: after an end but FAULT the tower is as it was, and the elevator returns under the delivery timer. -/
theorem endSession_returning (ht : z.towerTaken = true) (hc : c ≠ .fault) : (endSession s z c).tower = s.tower ∧
    (endSession s z c).timers.delivery = some 60000 := by
  simp [endSession_eq, sessionGone_returning ht hc]

theorem sameBesides_endSession : s.SameBesides (endSession s z c) := by constructor <;> simp

/-- R133: the end of a session that held the tower, through what the part does of itself after it: the HELD tower is not
taken, and a part that does not work does nothing. -/
theorem settle_endSession (ht : z.towerTaken = true) (hh : s.tower.phase = .held) (hc : c ≠ .fault) :
    (settle (endSession s z c)).session = none ∧ (settle (endSession s z c)).tower = s.tower ∧
    (settle (endSession s z c)).timers.delivery = some 60000 ∧
    (active s = false → settle (endSession s z c) = endSession s z c) := by
  obtain ⟨htower, hdelivery⟩ := endSession_returning (s := s) ht hc
  have hbusy : (endSession s z c).tower.phase ≠ .idle := by simp [htower, hh]
  obtain ⟨hkept, htimer, -⟩ := settle_of_busy hbusy
  have hnone : (endSession s z c).session = none := endSession_session c
  refine ⟨settle_session_of_none hnone, hkept.trans htower, htimer.trans hdelivery, fun hr => ?_⟩
  exact settle_of_still ⟨(active_congr (by simp)).trans hr, hnone⟩

/-! ## The causes (R132) -/

theorem activeSession_of_active (hz : s.session = some z) (ha : z.phase = .active) : activeSession s = some z := by
  simp [activeSession, hz, ha]

theorem activeSession_of_waiting (h : ∀ z, s.session = some z → z.phase = .waiting) : activeSession s = none := by
  cases hz : s.session with
  | none => simp [activeSession, hz]
  | some z => simp [activeSession, hz, h z hz]

theorem exec_insDone (hz : s.session = some z) (ha : z.phase = .active) :
    exec .insDone s = .next (settle (endSession s z .insDone)) := by
  have harm : exec .insDone s = execInsDone s := rfl
  rw [harm, execInsDone, activeSession_of_active hz ha]

theorem exec_insDone_ignored (h : ∀ z, s.session = some z → z.phase = .waiting) : exec .insDone s = .next s := by
  have harm : exec .insDone s = execInsDone s := rfl
  rw [harm, execInsDone, activeSession_of_waiting h]

/-- R132, notes/assumptions/15.md: no session has the timer `k` running. -/
theorem timedSession_of_no_timer (h : ∀ z n, s.session = some z → z.timer ≠ some (k, n)) : timedSession s k = none := by
  cases hz : s.session with
  | none => simp [timedSession, hz]
  | some z =>
    cases ht : z.timer with
    | none => simp [timedSession, hz, ht]
    | some t =>
      have hk : t.1 ≠ k := fun hk => h z t.2 hz (by rw [ht, ← hk])
      simp [timedSession, hz, ht, hk]

theorem exec_firstSheetTimerExpiry (h : timedSession s .firstSheet = some z) :
    exec .firstSheetTimerExpiry s = .next (settle (endSession s z .noFirstSheet)) := by
  have harm : exec .firstSheetTimerExpiry s = execFirstSheetTimerExpiry s := rfl
  rw [harm, execFirstSheetTimerExpiry, h]

theorem exec_firstSheetTimerExpiry_ignored (h : timedSession s .firstSheet = none) :
    exec .firstSheetTimerExpiry s = .next s := by
  have harm : exec .firstSheetTimerExpiry s = execFirstSheetTimerExpiry s := rfl
  rw [harm, execFirstSheetTimerExpiry, h]

theorem exec_betweenSheetsTimerExpiry (h : timedSession s .betweenSheets = some z) :
    exec .betweenSheetsTimerExpiry s = .next (settle (endSession s z .sheetGap)) := by
  have harm : exec .betweenSheetsTimerExpiry s = execBetweenSheetsTimerExpiry s := rfl
  rw [harm, execBetweenSheetsTimerExpiry, h]

theorem exec_betweenSheetsTimerExpiry_ignored (h : timedSession s .betweenSheets = none) :
    exec .betweenSheetsTimerExpiry s = .next s := by
  have harm : exec .betweenSheetsTimerExpiry s = execBetweenSheetsTimerExpiry s := rfl
  rw [harm, execBetweenSheetsTimerExpiry, h]

end Lemmas

/-- Settles O57: the ignored events, the equation of any end, and each cause through `settle_endSession`. -/
theorem sessionsEnd : Obligations.SessionsEnd := by
  unfold Obligations.SessionsEnd
  refine ⟨fun s => ⟨exec_insDone_ignored, fun h => ?_, fun h => ?_⟩, fun s z hz ha ht hh => ?_⟩
  · exact exec_firstSheetTimerExpiry_ignored (timedSession_of_no_timer h)
  · exact exec_betweenSheetsTimerExpiry_ignored (timedSession_of_no_timer h)
  · intro ends
    have hends {i : Instr} {c : EndCause} (hi : exec i s = .next (settle (endSession s z c))) (hc : c ≠ .fault) :
        ends i c := by
      obtain ⟨hsession, htower, hdelivery, hstopped⟩ := settle_endSession ht hh hc
      refine ⟨_, hi, sameBesides_trans sameBesides_endSession sameBesides_settle, hsession, htower, hdelivery, rfl,
        fun hr => ?_⟩
      rw [hstopped hr, endSession_eq, sessionGone_returning ht hc]
    refine ⟨fun _ _ _ => endSession_eq, hends (exec_insDone hz ha) (by decide), fun n hn => ?_, fun n hn => ?_⟩
    · exact hends (exec_firstSheetTimerExpiry (timedSession_of_timer hz hn)) (by decide)
    · exact hends (exec_betweenSheetsTimerExpiry (timedSession_of_timer hz hn)) (by decide)

end Sys2Proof.Machine.InsertSession
end

section
/-!
PROOFS. A LOAD at the frame handler (R137, R139, R140, R152): the codes, the clamps, and what the judgement makes of the
answer and the tables.
-/
namespace Sys2Proof.Machine.TableLoading

section Lemmas
variable {s : State} {l : Link} {f : Frame} {p : List Data} {n lo hi v code top : Nat}
  {judge : Tables → List Data → LoadResult}

/-! ## Codes (R140) -/

theorem boolOfCode_of_le (h : n ≤ 1) : boolOfCode n = some (n == 1) := by
  interval_cases n <;> rfl

theorem boolOfCode_of_lt (h : 1 < n) : boolOfCode n = none := by
  rw [boolOfCode] <;> omega

theorem linkOfCode_of_le (h : n ≤ 1) : linkOfCode n = some (if n = 0 then .a else .b) := by
  interval_cases n <;> rfl

theorem linkOfCode_of_lt (h : 1 < n) : linkOfCode n = none := by
  rw [linkOfCode] <;> omega

theorem stapleModeOfCode_of_le (h : n ≤ 2) :
    stapleModeOfCode n = some (if n = 0 then .none else if n = 1 then .corner else .edge) := by
  interval_cases n <;> rfl

theorem stapleModeOfCode_of_lt (h : 2 < n) : stapleModeOfCode n = none := by
  rw [stapleModeOfCode] <;> omega

/-! ## Clamps (R139) -/

@[simp] theorem clampField_value : (clampField lo hi v).1 = min hi (max lo v) := rfl

@[simp] theorem clampField_changed : (clampField lo hi v).2 = false ↔ min hi (max lo v) = v := by
  simp [clampField, clampTo]

theorem clampField_kept_iff (h : lo ≤ hi) : (clampField lo hi v).2 = false ↔ lo ≤ v ∧ v ≤ hi := by
  rw [clampField_changed]
  omega

theorem clampSpeed_kept_iff : (clampSpeed v).2 = false ↔ 200 ≤ v ∧ v ≤ 800 ∧ v % 10 = 0 := by
  simp only [clampSpeed, clampTo, bne_eq_false_iff_eq]
  omega

/-! ## The handler (R137, R152) -/

theorem selects_of_field (h : field p 0 = code ∨ top < field p 0) : selects code top p = true := by
  cases p with
  | nil => rfl
  | cons c cs => simpa [selects, field] using h

/-- A LOAD of the command's kind code, or of a code that names nothing, is handed to its owner. -/
theorem handle_isLoad {owner : Link → Frame → State → State} (h : s.requests l f 0x04)
    (hc : field f.payload 0 = code ∨ 5 < field f.payload 0) :
    handle (isLoad code) owner l s = owner l f (takeFrame s l) := by
  obtain ⟨ho, hk, hl⟩ := h
  exact handle_request s ho (by simp [isLoad, hk, kindLoad, selects_of_field hc]) hl

/-- R140: a kind code that names nothing is refused. -/
theorem handle_load_unnamed (h : s.requests l f 0x04) (hcode : code ≤ 5) (h5 : 5 < field f.payload 0) :
    handle (isLoad code) (load code judge) l s = answerTo (takeFrame s l) l f (.refused .structureError) [] := by
  have hne : field f.payload 0 ≠ code := by omega
  rw [handle_isLoad h (.inr h5), load, if_neg hne]
  rfl

theorem handle_load_refused (h : s.requests l f 0x04) (hc : field f.payload 0 = code)
    (hj : judge s.tables f.payload = .refused) :
    handle (isLoad code) (load code judge) l s = answerTo (takeFrame s l) l f (.refused .structureError) [] := by
  rw [handle_isLoad h (.inl hc), load, if_pos hc, takeFrame_tables, hj]
  rfl

/-- R137, R139: the judged tables are the part's, and the answer says whether every value (`P`) was taken as it came. -/
theorem handle_load_written {t : Tables} {clamped : Bool} {P : Prop} [Decidable P] (h : s.requests l f 0x04)
    (hc : field f.payload 0 = code) (hj : judge s.tables f.payload = .written t clamped) (hP : clamped = false ↔ P) :
    handle (isLoad code) (load code judge) l s =
      answerTo { takeFrame s l with tables := t } l f (if P then .done else .clamped) [] := by
  have hresult : (if clamped then Result.clamped else .done) = if P then .done else .clamped := by
    cases clamped <;> simp [← hP]
  rw [handle_isLoad h (.inl hc), load, if_pos hc, takeFrame_tables, hj, ← hresult]
  rfl

/-- R137: a staged part replaces the pending part of its entry, which the table has. -/
theorem changeAt_stage {α : Type} {es : List (Entry α)} {i : Nat} {e : Entry α} (h : es[i]? = some e) (x : α) :
    changeAt i (Entry.stage x) es = es.set i { e with pending := some x } :=
  changeAt_eq_set _ i es e h

end Lemmas

end Sys2Proof.Machine.TableLoading
end

section
/-!
PROOFS. The GRADE, POCKET and TRANSPORT loads (R137 to R140).
-/
namespace Sys2Proof.Machine.TableLoading

section Lemmas
variable {s : State} {l : Link} {t : Tables} {p : List Data}

/-! ## The commands -/

theorem exec_loadGrade : exec (.loadGrade l) s = .next (handle (isLoad 3) (load 3 judgeLoadGrade) l s) := rfl

theorem exec_loadPocket : exec (.loadPocket l) s = .next (handle (isLoad 4) (load 4 judgeLoadPocket) l s) := rfl

theorem exec_loadTransport :
    exec (.loadTransport l) s = .next (handle (isLoad 5) (load 5 judgeLoadTransport) l s) := rfl

/-! ## The judgements -/

theorem judgeLoadGrade_refused (h : t.grades[field p 1]? = none) : judgeLoadGrade t p = .refused := by
  simp [judgeLoadGrade, h]

theorem judgeLoadGrade_written {e : Entry Nat} (h : t.grades[field p 1]? = some e) : judgeLoadGrade t p =
    .written { t with grades := t.grades.set (field p 1) { e with pending := some (min 30 (max 6 (field p 2))) } }
      (clampField 6 30 (field p 2)).2 := by
  simp [judgeLoadGrade, h, changeAt_stage h]

theorem judgeLoadPocket_refused (h : t.pockets[field p 1]? = none ∨ 1 < field p 4) :
    judgeLoadPocket t p = .refused := by
  unfold judgeLoadPocket
  rcases h with h | h
  · simp [h]
  · simp [boolOfCode_of_lt h]

theorem judgeLoadPocket_written {e : Entry PocketConfig} (h : t.pockets[field p 1]? = some e) (hen : field p 4 ≤ 1) :
    judgeLoadPocket t p = .written
      { t with
        pockets := t.pockets.set (field p 1)
          { e with pending := some { capacity := min 6000 (max 200 (field2 p 2)), enabled := field p 4 == 1 } } }
      (clampField 200 6000 (field2 p 2)).2 := by
  simp [judgeLoadPocket, h, boolOfCode_of_le hen, changeAt_stage h]

theorem judgeLoadTransport_refused (h : 1 < field p 6) : judgeLoadTransport t p = .refused := by
  simp [judgeLoadTransport, linkOfCode_of_lt h]

/-- R137, R139: the transport entry's part that a load carries. -/
def loadedTransport (p : List Data) : Transport :=
  { speed := min 800 (max 200 (field2 p 1)) / 10 * 10
    feedWindow := min 3000 (max 200 (field2 p 3))
    stall := min 30 (max 1 (field p 5))
    noticeLink := if field p 6 = 0 then .a else .b }

theorem judgeLoadTransport_written (h : field p 6 ≤ 1) : judgeLoadTransport t p = .written
    { t with transport := { t.transport with pending := some (loadedTransport p) } }
    ((clampSpeed (field2 p 1)).2 || (clampField 200 3000 (field2 p 3)).2 || (clampField 1 30 (field p 5)).2) := by
  simp [judgeLoadTransport, linkOfCode_of_le h, Entry.stage, loadedTransport, clampSpeed, clampTo]

/-- R139: a TRANSPORT load is taken as it came when each of its values is. -/
theorem transport_kept_iff {speed window stall : Nat} :
    ((clampSpeed speed).2 || (clampField 200 3000 window).2 || (clampField 1 30 stall).2) = false ↔
      200 ≤ speed ∧ speed ≤ 800 ∧ speed % 10 = 0 ∧ 200 ≤ window ∧ window ≤ 3000 ∧ 1 ≤ stall ∧ stall ≤ 30 := by
  rw [Bool.or_eq_false_iff, Bool.or_eq_false_iff, clampSpeed_kept_iff, clampField_kept_iff (by decide),
    clampField_kept_iff (by decide)]
  simp only [and_assoc]

end Lemmas

/-- Settles O23: each load by its judgement. -/
theorem gradePocketAndTransportLoads : Obligations.GradePocketAndTransportLoads := by
  unfold Obligations.GradePocketAndTransportLoads
  intro s l f h v u refused
  rw [exec_loadGrade, exec_loadPocket, exec_loadTransport]
  refine ⟨fun h5 => ⟨?_, ?_, ?_⟩, fun hc hg => ?_, fun hc hr => ?_, fun hc hr => ?_, fun e hc hg => ?_,
    fun e hc hk hen => ?_, fun hc hlink => ?_⟩
  · exact congrArg _ (handle_load_unnamed h (by decide) h5)
  · exact congrArg _ (handle_load_unnamed h (by decide) h5)
  · exact congrArg _ (handle_load_unnamed h (by decide) h5)
  · exact congrArg _ (handle_load_refused h hc (judgeLoadGrade_refused hg))
  · exact congrArg _ (handle_load_refused h hc (judgeLoadPocket_refused hr))
  · exact congrArg _ (handle_load_refused h hc (judgeLoadTransport_refused hr))
  · exact congrArg _ (handle_load_written h hc (judgeLoadGrade_written hg) (clampField_kept_iff (by decide)))
  · exact congrArg _ (handle_load_written h hc (judgeLoadPocket_written hk hen) (clampField_kept_iff (by decide)))
  · exact congrArg _ (handle_load_written h hc (judgeLoadTransport_written hlink) transport_kept_iff)

end Sys2Proof.Machine.TableLoading
end

section
/-!
PROOFS. The runs of a SEATS and of a PLAN load (R137, R139, R140): each is read item by item, and one bad item refuses
the whole.
-/
namespace Sys2Proof.Machine.TableLoading

section Lemmas
variable {p : List Data} {pos n k : Nat}

/-! ## Reading item by item -/

theorem mapM_of_all_some {α β : Type} {item : α → Option β} {value : α → β} {xs : List α}
    (h : ∀ x ∈ xs, item x = some (value x)) : xs.mapM item = some (xs.map value) := by
  induction xs with
  | nil => rfl
  | cons x xs ih => simp [h x (by simp), ih fun y hy => h y (by simp [hy])]

theorem mapM_of_mem_none {α β : Type} {item : α → Option β} {xs : List α} {x : α} (hx : x ∈ xs)
    (h : item x = none) : xs.mapM item = none := by
  induction xs with
  | nil => cases hx
  | cons y ys ih =>
    rcases List.mem_cons.1 hx with rfl | hx
    · simp [h]
    · cases item y <;> simp [ih hx]

/-- The items of a run of `n`, each `stride` characters long, from position `pos`. -/
def itemsFrom {β : Type} (item : Nat → Option β) (stride pos n : Nat) : Option (List β) :=
  (List.range n).mapM (fun k => item (pos + stride * k))

theorem itemsFrom_succ {β : Type} (item : Nat → Option β) (stride pos n : Nat) :
    itemsFrom item stride pos (n + 1) =
      (item pos).bind fun x => (itemsFrom item stride (pos + stride) n).map (x :: ·) := by
  have hshift : (fun k => item (pos + stride * (k + 1))) = fun k => item (pos + stride + stride * k) := by
    funext k
    congr 1
    ring
  simp only [itemsFrom, List.range_succ_eq_map, List.mapM_cons, List.mapM_map, Nat.mul_zero, Nat.add_zero,
    Function.comp_def, Nat.succ_eq_add_one, hshift]
  cases item pos with
  | none => rfl
  | some x => simp [Option.map_eq_bind]

/-! ## The items (R137, R139, R140) -/

/-- R140: the seat entry at a position and whether its offset was clamped; none when its withheld code names nothing. -/
def seatItem (p : List Data) (pos : Nat) : Option (SeatEntry × Bool) :=
  (boolOfCode (field p (pos + 1))).map fun w =>
    ({ offset := (clampField 0 39 (field p pos)).1, withheld := w }, (clampField 0 39 (field p pos)).2)

theorem seatRun_eq : seatRun p pos n = itemsFrom (seatItem p) 2 pos n := by
  induction n generalizing pos with
  | zero => rfl
  | succ n ih =>
    rw [itemsFrom_succ, ← ih, seatRun, seatItem]
    cases boolOfCode (field p (pos + 1)) <;> cases seatRun p (pos + 2) n <;> rfl

/-- R140: the part at a position and whether a count was clamped; none when its source names no link, or its min is above
its max after the clamps. -/
def partItem (p : List Data) (pos : Nat) : Option (PlanPart × Bool) :=
  (linkOfCode (field p pos)).bind fun l =>
    let lo := clampField 0 99 (field p (pos + 1))
    let hi := clampField 1 99 (field p (pos + 2))
    if hi.1 < lo.1 then none else some ({ source := l, minCount := lo.1, maxCount := hi.1 }, lo.2 || hi.2)

theorem partRun_eq : partRun p pos n = itemsFrom (partItem p) 3 pos n := by
  induction n generalizing pos with
  | zero => rfl
  | succ n ih =>
    rw [itemsFrom_succ, ← ih, partRun, partItem]
    cases linkOfCode (field p pos) with
    | none => rfl
    | some l =>
      cases partRun p (pos + 3) n <;> dsimp only [Option.bind_some] <;> split <;> rfl

/-! ## The seats of a SEATS load -/

/-- R139: the seat entry that is number `k` of a SEATS run. -/
def loadedSeat (p : List Data) (k : Nat) : SeatEntry :=
  { offset := min 39 (field p (4 + 2 * k)), withheld := field p (5 + 2 * k) == 1 }

/-- R139: the offset that is number `k` of a SEATS run was clamped. -/
def seatClamped (p : List Data) (k : Nat) : Bool := (clampField 0 39 (field p (4 + 2 * k))).2

theorem seatItem_of_le (h : field p (5 + 2 * k) ≤ 1) :
    seatItem p (4 + 2 * k) = some (loadedSeat p k, seatClamped p k) := by
  have hnext : 4 + 2 * k + 1 = 5 + 2 * k := by omega
  simp [seatItem, hnext, boolOfCode_of_le h, loadedSeat, seatClamped]

theorem seatItem_of_lt (h : 1 < field p (5 + 2 * k)) : seatItem p (4 + 2 * k) = none := by
  have hnext : 4 + 2 * k + 1 = 5 + 2 * k := by omega
  simp [seatItem, hnext, boolOfCode_of_lt h]

theorem seatRun_written (h : ∀ k, k < n → field p (5 + 2 * k) ≤ 1) :
    seatRun p 4 n = some ((List.range n).map fun k => (loadedSeat p k, seatClamped p k)) := by
  rw [seatRun_eq]
  exact mapM_of_all_some fun k hk => seatItem_of_le (h k (List.mem_range.1 hk))

theorem seatRun_refused (h : ∃ k, k < n ∧ 1 < field p (5 + 2 * k)) : seatRun p 4 n = none := by
  obtain ⟨k, hk, hbad⟩ := h
  rw [seatRun_eq]
  exact mapM_of_mem_none (List.mem_range.2 hk) (seatItem_of_lt hbad)

/-! ## The parts of a PLAN load -/

/-- R139: the least count of part `k` of a PLAN load. -/
def loadedMin (p : List Data) (k : Nat) : Nat := min 99 (field p (4 + 3 * k))

/-- R139: the greatest count of part `k` of a PLAN load. -/
def loadedMax (p : List Data) (k : Nat) : Nat := min 99 (max 1 (field p (5 + 3 * k)))

/-- R139: part `k` of a PLAN load. -/
def loadedPart (p : List Data) (k : Nat) : PlanPart :=
  { source := if field p (3 + 3 * k) = 0 then .a else .b, minCount := loadedMin p k, maxCount := loadedMax p k }

/-- R139: a count of part `k` of a PLAN load was clamped. -/
def partClamped (p : List Data) (k : Nat) : Bool :=
  (clampField 0 99 (field p (4 + 3 * k))).2 || (clampField 1 99 (field p (5 + 3 * k))).2

/-- R140: part `k` of a PLAN load names a link and has no min above its max. -/
def partSound (p : List Data) (k : Nat) : Prop := field p (3 + 3 * k) ≤ 1 ∧ loadedMin p k ≤ loadedMax p k

/-- The positions of three characters in a row of a PLAN load: those of a part, and its last three. -/
theorem three_from (n : Nat) : 3 + 3 * n + 1 = 4 + 3 * n ∧ 3 + 3 * n + 2 = 5 + 3 * n := by omega

theorem partItem_eq : partItem p (3 + 3 * k) = (linkOfCode (field p (3 + 3 * k))).bind fun l =>
    if loadedMax p k < loadedMin p k then none
    else some ({ source := l, minCount := loadedMin p k, maxCount := loadedMax p k }, partClamped p k) := by
  obtain ⟨h1, h2⟩ := three_from k
  have hmin : (clampField 0 99 (field p (4 + 3 * k))).1 = loadedMin p k := by simp [loadedMin]
  have hmax : (clampField 1 99 (field p (5 + 3 * k))).1 = loadedMax p k := rfl
  simp only [partItem, h1, h2, hmin, hmax]
  rfl

theorem partItem_of_sound (h : partSound p k) : partItem p (3 + 3 * k) = some (loadedPart p k, partClamped p k) := by
  obtain ⟨hlink, hcounts⟩ := h
  rw [partItem_eq, linkOfCode_of_le hlink, Option.bind_some, if_neg (Nat.not_lt.2 hcounts)]
  rfl

theorem partItem_of_not_sound (h : ¬ partSound p k) : partItem p (3 + 3 * k) = none := by
  rw [partItem_eq]
  rcases Nat.lt_or_ge 1 (field p (3 + 3 * k)) with hlink | hlink
  · rw [linkOfCode_of_lt hlink, Option.bind_none]
  · have hcounts : loadedMax p k < loadedMin p k := Nat.not_le.1 fun hle => h ⟨hlink, hle⟩
    rw [linkOfCode_of_le hlink, Option.bind_some, if_pos hcounts]

theorem partRun_written (h : ∀ k, k < n → partSound p k) :
    partRun p 3 n = some ((List.range n).map fun k => (loadedPart p k, partClamped p k)) := by
  rw [partRun_eq]
  exact mapM_of_all_some fun k hk => partItem_of_sound (h k (List.mem_range.1 hk))

theorem partRun_refused (hk : k < n) (h : ¬ partSound p k) : partRun p 3 n = none := by
  rw [partRun_eq]
  exact mapM_of_mem_none (List.mem_range.2 hk) (partItem_of_not_sound h)

end Lemmas

end Sys2Proof.Machine.TableLoading
end

section
/-!
PROOFS. The PLAN load (R137 to R140).
-/
namespace Sys2Proof.Machine.TableLoading

section Lemmas
variable {s : State} {l : Link} {t : Tables} {p : List Data} {n : Nat}

theorem exec_loadPlan : exec (.loadPlan l) s = .next (handle (isLoad 2) (load 2 judgeLoadPlan) l s) := rfl

/-- R137, R139: the plan that a PLAN load of `n` parts carries. -/
def loadedPlan (p : List Data) (n : Nat) : PlanBody :=
  { parts := (List.range n).map (loadedPart p)
    stapleMode := if field p (3 + 3 * n) = 0 then .none else if field p (3 + 3 * n) = 1 then .corner else .edge
    stapleRequired := field p (4 + 3 * n) == 1
    parkPermitted := field p (5 + 3 * n) == 1 }

theorem judgeLoadPlan_no_entry (h : t.plans[field p 1]? = none) : judgeLoadPlan t p = .refused := by
  simp [judgeLoadPlan, h]

theorem judgeLoadPlan_many_parts (h : 6 < field p 2) : judgeLoadPlan t p = .refused := by
  unfold judgeLoadPlan
  cases t.plans[field p 1]? <;> simp [h]

theorem judgeLoadPlan_bad_part {k : Nat} (hk : k < field p 2) (h : ¬ partSound p k) : judgeLoadPlan t p = .refused := by
  unfold judgeLoadPlan
  cases t.plans[field p 1]? <;> simp [partRun_refused hk h]

theorem judgeLoadPlan_bad_tail (h : 2 < field p (3 + 3 * field p 2) ∨ 1 < field p (4 + 3 * field p 2) ∨
    1 < field p (5 + 3 * field p 2)) : judgeLoadPlan t p = .refused := by
  obtain ⟨h1, h2⟩ := three_from (field p 2)
  unfold judgeLoadPlan
  cases t.plans[field p 1]? with
  | none => rfl
  | some e =>
    rcases h with hmode | hreq | hpark
    · simp [stapleModeOfCode_of_lt hmode]
    · simp [h1, boolOfCode_of_lt hreq]
    · simp [h2, boolOfCode_of_lt hpark]

theorem judgeLoadPlan_written {e : Entry PlanBody} (h : t.plans[field p 1]? = some e) (hn : field p 2 ≤ 6)
    (hparts : ∀ k, k < field p 2 → partSound p k) (hmode : field p (3 + 3 * field p 2) ≤ 2)
    (hreq : field p (4 + 3 * field p 2) ≤ 1) (hpark : field p (5 + 3 * field p 2) ≤ 1) :
    judgeLoadPlan t p = .written
      { t with plans := t.plans.set (field p 1) { e with pending := some (loadedPlan p (field p 2)) } }
      ((List.range (field p 2)).any (partClamped p)) := by
  obtain ⟨h1, h2⟩ := three_from (field p 2)
  simp [judgeLoadPlan, h, Nat.not_lt.2 hn, partRun_written hparts, h1, h2, stapleModeOfCode_of_le hmode,
    boolOfCode_of_le hreq, boolOfCode_of_le hpark, changeAt_stage h, loadedPlan, Function.comp_def]

/-- R139: the counts of part `k` were taken as they came. -/
theorem partClamped_eq_false_iff {k : Nat} : partClamped p k = false ↔
    loadedMin p k = field p (4 + 3 * k) ∧ loadedMax p k = field p (5 + 3 * k) := by
  simp [partClamped, loadedMin, loadedMax]

end Lemmas

/-- Settles O22: a PLAN load is refused at its first flaw, and otherwise its plan is the pending part. -/
theorem planLoadsWriteThePendingPart : Obligations.PlanLoadsWriteThePendingPart := by
  unfold Obligations.PlanLoadsWriteThePendingPart
  intro s l f h at' refused
  rw [exec_loadPlan]
  refine ⟨fun h5 => ?_, fun hc hp => ?_, fun e hc he => ?_⟩
  · exact congrArg _ (handle_load_unnamed h (by decide) h5)
  · exact congrArg _ (handle_load_refused h hc (judgeLoadPlan_no_entry hp))
  · intro n lo hi
    refine ⟨fun hbad => ?_, fun hn hparts hmode hreq hpark => ?_⟩
    · refine congrArg _ (handle_load_refused h hc ?_)
      rcases hbad with hmany | ⟨k, hk, hflaw⟩ | htail
      · exact judgeLoadPlan_many_parts hmany
      · refine judgeLoadPlan_bad_part hk fun ⟨hlink, hcounts⟩ => ?_
        exact hflaw.elim (Nat.not_lt.2 hlink) (Nat.not_lt.2 hcounts)
      · exact judgeLoadPlan_bad_tail htail
    · have hkept : (List.range n).any (partClamped f.payload) = false ↔
          ∀ k, k < n → lo k = at' (4 + 3 * k) ∧ hi k = at' (5 + 3 * k) := by
        simp only [List.any_eq_false, List.mem_range, Bool.not_eq_true, partClamped_eq_false_iff]
        rfl
      have hwritten := judgeLoadPlan_written he hn hparts hmode hreq hpark
      exact congrArg _ (handle_load_written h hc hwritten hkept)

end Sys2Proof.Machine.TableLoading
end

section
/-!
PROOFS. The CLASS and SEATS loads (R137 to R140).
-/
namespace Sys2Proof.Machine.TableLoading

section Lemmas
variable {s : State} {l : Link} {t : Tables} {p : List Data} {e : Entry ClassBody} {n : Nat}

theorem exec_loadClass : exec (.loadClass l) s = .next (handle (isLoad 0) (load 0 judgeLoadClass) l s) := rfl

theorem exec_loadSeats : exec (.loadSeats l) s = .next (handle (isLoad 1) (load 1 judgeLoadSeats) l s) := rfl

/-! ## CLASS -/

theorem judgeLoadClass_refused (h : t.classes[field p 1]? = none) : judgeLoadClass t p = .refused := by
  simp [judgeLoadClass, h]

/-- R137, R139: a class with the seat count and the pocket base of a CLASS load. -/
def withCountAndBase (p : List Data) (body : ClassBody) : ClassBody :=
  { body with seatCount := min 40 (field p 2), pocketBase := min 39 (field p 3) }

theorem judgeLoadClass_written (h : t.classes[field p 1]? = some e) : judgeLoadClass t p = .written
    { t with classes := t.classes.set (field p 1) { e with pending := some (withCountAndBase p e.staged) } }
    ((clampField 0 40 (field p 2)).2 || (clampField 0 39 (field p 3)).2) := by
  simp [judgeLoadClass, h, changeAt_stage h, withCountAndBase]

/-- R139: a CLASS load is taken as it came when both of its values are. -/
theorem class_kept_iff {count base : Nat} :
    ((clampField 0 40 count).2 || (clampField 0 39 base).2) = false ↔ count ≤ 40 ∧ base ≤ 39 := by
  rw [Bool.or_eq_false_iff, clampField_kept_iff (by decide), clampField_kept_iff (by decide)]
  simp only [Nat.zero_le, true_and]

/-! ## SEATS -/

theorem judgeLoadSeats_no_entry (h : t.classes[field p 1]? = none) : judgeLoadSeats t p = .refused := by
  simp [judgeLoadSeats, h]

theorem judgeLoadSeats_bad_run
    (h : field p 2 = 0 ∨ 40 < field p 2 ∨ field p 3 = 0 ∨ 20 < field p 3 ∨ 40 < field p 2 + field p 3 - 1) :
    judgeLoadSeats t p = .refused := by
  unfold judgeLoadSeats
  cases t.classes[field p 1]? with
  | none => rfl
  | some e => exact if_pos h

theorem judgeLoadSeats_bad_code (h : ∃ k, k < field p 3 ∧ 1 < field p (5 + 2 * k)) :
    judgeLoadSeats t p = .refused := by
  unfold judgeLoadSeats
  cases t.classes[field p 1]? <;> simp [seatRun_refused h]

/-- R137: a class with the run of a SEATS load written over its seat entries. -/
def withRun (p : List Data) (body : ClassBody) : ClassBody :=
  { body with seats := writeRun (field p 2 - 1) ((List.range (field p 3)).map (loadedSeat p)) body.seats }

theorem judgeLoadSeats_written (h : t.classes[field p 1]? = some e) (h1 : 1 ≤ field p 2) (hrun : 1 ≤ field p 3)
    (h20 : field p 3 ≤ 20) (h40 : field p 2 + field p 3 - 1 ≤ 40)
    (hcodes : ∀ k, k < field p 3 → field p (5 + 2 * k) ≤ 1) : judgeLoadSeats t p = .written
      { t with classes := t.classes.set (field p 1) { e with pending := some (withRun p e.staged) } }
      ((List.range (field p 3)).any (seatClamped p)) := by
  have hsound : ¬ (field p 2 = 0 ∨ 40 < field p 2 ∨ field p 3 = 0 ∨ 20 < field p 3 ∨
      40 < field p 2 + field p 3 - 1) := by omega
  unfold judgeLoadSeats
  simp only [h, if_neg hsound, seatRun_written hcodes, changeAt_stage h, withRun, List.map_map, List.any_map,
    Function.comp_def]

/-- R139: a SEATS load is taken as it came when each of its offsets is. -/
theorem seats_kept_iff : (List.range n).any (seatClamped p) = false ↔ ∀ k, k < n → field p (4 + 2 * k) ≤ 39 := by
  simp only [List.any_eq_false, List.mem_range, Bool.not_eq_true, seatClamped, clampField_kept_iff (Nat.zero_le 39),
    Nat.zero_le, true_and]

/-! ## The seat entries after a SEATS load -/

/-- A run written from index `i` on is what the seats hold there, and the others stay. -/
theorem writeRun_getElem? (run : List SeatEntry) : ∀ (i : Nat) (seats : List SeatEntry) {j : Nat}, j < seats.length →
    (writeRun i run seats)[j]? = if i ≤ j ∧ j < i + run.length then run[j - i]? else seats[j]? := by
  induction run with
  | nil =>
    intro i seats j _
    have hout : ¬ (i ≤ j ∧ j < i) := by omega
    simp [writeRun, hout]
  | cons x xs ih =>
    intro i seats j hj
    rw [writeRun, ih (i + 1) _ (by simpa using hj), changeAt_getElem?, List.length_cons]
    rcases Nat.lt_trichotomy j i with hlt | rfl | hgt
    · rw [if_neg (by omega), if_neg (by omega), if_neg (by omega)]
    · rw [if_neg (by omega), if_pos rfl, if_pos (by omega)]
      simp [hj]
    · have hshift : j - i = j - (i + 1) + 1 := by omega
      by_cases hin : j < i + 1 + xs.length
      · rw [if_pos ⟨hgt, hin⟩, if_pos (by omega), hshift, List.getElem?_cons_succ]
      · rw [if_neg (by omega), if_neg (by omega), if_neg (by omega)]

/-- R137: a SEATS load writes exactly its run. -/
theorem withRun_seatEntry {body : ClassBody} {seat : Nat} (hlen : body.seats.length = 40) (hfirst : 1 ≤ field p 2)
    (h1 : 1 ≤ seat) (h40 : seat ≤ 40) : (withRun p body).seatEntry seat =
      if field p 2 ≤ seat ∧ seat < field p 2 + field p 3 then loadedSeat p (seat - field p 2)
      else body.seatEntry seat := by
  unfold ClassBody.seatEntry withRun
  rw [writeRun_getElem? _ _ _ (by omega), List.length_map, List.length_range]
  by_cases hin : field p 2 ≤ seat ∧ seat < field p 2 + field p 3
  · have hindex : seat - 1 - (field p 2 - 1) = seat - field p 2 := by omega
    have hlt : seat - field p 2 < field p 3 := by omega
    rw [if_pos hin, if_pos (by omega), hindex]
    simp [hlt]
  · rw [if_neg hin, if_neg (by omega)]

end Lemmas

/-- Settles O21: a CLASS load writes two numbers of the staged class and a SEATS load its run of seat entries. -/
theorem classLoadsWriteThePendingPart : Obligations.ClassLoadsWriteThePendingPart := by
  unfold Obligations.ClassLoadsWriteThePendingPart
  intro s l f h i refused
  rw [exec_loadClass, exec_loadSeats]
  refine ⟨fun h5 => ⟨?_, ?_⟩, fun hn => ⟨fun hc => ?_, fun hc => ?_⟩, fun e he => ⟨fun hc => ?_, fun hc => ?_⟩⟩
  · exact congrArg _ (handle_load_unnamed h (by decide) h5)
  · exact congrArg _ (handle_load_unnamed h (by decide) h5)
  · exact congrArg _ (handle_load_refused h hc (judgeLoadClass_refused hn))
  · exact congrArg _ (handle_load_refused h hc (judgeLoadSeats_no_entry hn))
  · exact congrArg _ (handle_load_written h hc (judgeLoadClass_written he) class_kept_iff)
  · refine ⟨fun hrun => ?_, fun hcode => ?_, fun hfirst hrun h20 h40 hcodes hlen => ?_⟩
    · exact congrArg _ (handle_load_refused h hc (judgeLoadSeats_bad_run hrun))
    · exact congrArg _ (handle_load_refused h hc (judgeLoadSeats_bad_code hcode))
    · have hwritten := judgeLoadSeats_written he hfirst hrun h20 h40 hcodes
      refine ⟨withRun f.payload e.staged, ?_, rfl, rfl, fun seat h1 hle => withRun_seatEntry hlen hfirst h1 hle⟩
      exact congrArg _ (handle_load_written h hc hwritten seats_kept_iff)

end Sys2Proof.Machine.TableLoading
end

section
/-!
PROOFS. The queueing of a frame, and the link of an answer and of a notice (R145, R150, R153, R155, R156).
-/
namespace Sys2Proof.Machine.FeedLinks

section Lemmas
variable {s : State} {o : Outbound} {k : LinkPort}

@[simp] theorem enqueue_sending : (k.enqueue o).sending = k.sending := by
  unfold LinkPort.enqueue
  split <;> rfl

/-- R153: a transmitter that sends a frame starts no other. -/
theorem startNext_of_sending (address : BitVec 3) (h : k.sending.isSome = true) : k.startNext address = k := by
  obtain ⟨x, hx⟩ := Option.isSome_iff_exists.1 h
  simp [LinkPort.startNext, hx]

/-- R153: a port whose transmitter is busy takes the frame into its queue, or drops and counts it. -/
theorem enqueue_startNext_of_sending (address : BitVec 3) (h : k.sending.isSome = true) :
    (k.enqueue o).startNext address =
      if k.queue.length < 8 then { k with queue := k.queue ++ [o] } else { k with dropped := min 255 (k.dropped + 1) } := by
  rw [startNext_of_sending address (by simpa using h)]
  rfl

/-- R153: an idle port with nothing else to send starts the frame at once. -/
theorem enqueue_startNext_of_idle (address : BitVec 3) (hs : k.sending = none) (hl : k.lane = none)
    (hq : k.queue = []) :
    (k.enqueue o).startNext address = { k with sending := some o, line := frameChars address o } := by
  simp [LinkPort.enqueue, LinkPort.startNext, LinkPort.begin, Config.maxOutbound, hs, hl, hq]

theorem notifyJob_of_some {job : Nat} {j : Job} (h : findJob s job = some j) (body : NoticeBody) :
    notifyJob s job body = notify s j.replyTag job body := by
  simp [notifyJob, h]

theorem notifyJob_of_none {job : Nat} (h : findJob s job = none) (body : NoticeBody) :
    notifyJob s job body = notify s 0 0 body := by
  simp [notifyJob, h]

theorem answerTo_of_broadcast {f : Frame} (h : f.broadcast = true) (l : Link) (r : Result) (body : List Data) :
    answerTo s l f r body = s := if_pos h

theorem answerTo_of_addressed {f : Frame} (h : f.broadcast = false) (l : Link) (r : Result) (body : List Data) :
    answerTo s l f r body = queueOut s l (.answer { kind := f.kind, result := r, body := body }) := by
  simp [answerTo, answer, h]

end Lemmas

/-- Settles O14: a queued frame changes its own link's port, which is busy or idle. -/
theorem queueingAFrame : Obligations.QueueingAFrame := by
  unfold Obligations.QueueingAFrame
  refine ⟨fun s l o hp => ?_, fun s l f r body => ?_, fun s tag job body => ?_⟩
  · rw [queueOut_eq s l o hp]
    refine ⟨rfl, fun m hm => Pair.get_set_other _ _ hm, fun hbusy => ?_, fun hs hl hq => ?_⟩
    · exact (Pair.get_set_same _ _ _).trans (enqueue_startNext_of_sending _ hbusy)
    · exact (Pair.get_set_same _ _ _).trans (enqueue_startNext_of_idle _ hs hl hq)
  · exact ⟨fun h => answerTo_of_broadcast h l r body, fun h => answerTo_of_addressed h l r body⟩
  · exact ⟨rfl, rfl, fun j h => notifyJob_of_some h body, fun h => notifyJob_of_none h body⟩

end Sys2Proof.Machine.FeedLinks
end

section
/-!
PROOFS. The receivers (R147 to R152): a character outside a frame, inside a frame, and the END that completes one.
-/
namespace Sys2Proof.Machine.FeedLinks

section Lemmas
variable {s : State} {l m : Link} {c : Chr} {k : LinkPort} {unit : BitVec 3} {b : Bool} {taken : List Data}

/-! ## The kinds of character (R147) -/

theorem chrKind_of_lt (h : c.toNat < 128) : chrKind c = .data (c.setWidth 7) := if_pos h

/-- R147: the character is neither data nor one of the five that have a meaning. -/
structure Violates (c : Chr) : Prop where
  top : 128 ≤ c.toNat
  not_start : c ≠ 0xF1
  not_stop : c ≠ 0xF2
  not_abort : c ≠ 0xF4
  not_sync : c ≠ 0xF5
  not_idle : c ≠ 0xFF

theorem chrKind_of_violates (h : Violates c) : chrKind c = .violation :=
  calc chrKind c
    _ = _ := if_neg (Nat.not_lt.2 h.top)
    _ = _ := if_neg h.not_sync
    _ = _ := if_neg h.not_start
    _ = _ := if_neg h.not_stop
    _ = _ := if_neg h.not_abort
    _ = _ := if_neg h.not_idle

/-- R147: every character is data, one of the five with a meaning, or a violation. -/
theorem chr_cases (c : Chr) :
    c.toNat < 128 ∨ c = 0xF1 ∨ c = 0xF2 ∨ c = 0xF4 ∨ c = 0xF5 ∨ c = 0xFF ∨ Violates c := by
  by_cases hdata : c.toNat < 128
  · exact .inl hdata
  · by_cases hmeant : c = 0xF1 ∨ c = 0xF2 ∨ c = 0xF4 ∨ c = 0xF5 ∨ c = 0xFF
    · tauto
    · simp only [not_or] at hmeant
      obtain ⟨hstart, hstop, habort, hsync, hidle⟩ := hmeant
      have hviolates : Violates c := ⟨Nat.not_lt.1 hdata, hstart, hstop, habort, hsync, hidle⟩
      tauto

theorem ne_of_data {x : Chr} (h : c.toNat < 128) (hx : 128 ≤ x.toNat) : c ≠ x := fun e => Nat.not_lt.2 hx (e ▸ h)

/-! ## The receiver outside a frame (R149) -/

theorem rxStep_hunt : rxStep unit .hunt c = (if c = 0xF5 then .idle else .hunt, .nothing) := by
  rcases chr_cases c with hdata | rfl | rfl | rfl | rfl | rfl | hviolates
  · simp only [rxStep, chrKind_of_lt hdata, if_neg (ne_of_data (x := 0xF5) hdata (by decide))]
  · rfl
  · rfl
  · rfl
  · rfl
  · rfl
  · simp only [rxStep, chrKind_of_violates hviolates, if_neg hviolates.not_sync]

theorem rxStep_idle : rxStep unit .idle c =
    if c = 0xF1 then (.receiving false [], .nothing)
    else if c.toNat < 128 ∨ c = 0xF2 ∨ c = 0xF4 ∨ c = 0xF5 ∨ c = 0xFF then (.idle, .nothing)
    else (.hunt, .framingError) := by
  rcases chr_cases c with hdata | rfl | rfl | rfl | rfl | rfl | ⟨htop, hstart, hstop, habort, hsync, hidle⟩
  · simp only [rxStep, chrKind_of_lt hdata, if_neg (ne_of_data (x := 0xF1) hdata (by decide)), if_pos (Or.inl hdata)]
  · rfl
  · rfl
  · rfl
  · rfl
  · rfl
  · have hkind := chrKind_of_violates ⟨htop, hstart, hstop, habort, hsync, hidle⟩
    have hmeant : ¬ (c.toNat < 128 ∨ c = 0xF2 ∨ c = 0xF4 ∨ c = 0xF5 ∨ c = 0xFF) := by
      simp only [not_or]
      exact ⟨Nat.not_lt.2 htop, hstop, habort, hsync, hidle⟩
    rw [if_neg hstart, if_neg hmeant]
    simp only [rxStep, hkind]

theorem rxStep_skipping :
    rxStep unit .skipping c = (if c = 0xF2 ∨ c = 0xF4 then .idle else .skipping, .nothing) := by
  rcases chr_cases c with hdata | rfl | rfl | rfl | rfl | rfl | ⟨htop, hstart, hstop, habort, hsync, hidle⟩
  · have hstop : c ≠ 0xF2 := ne_of_data hdata (by decide)
    have habort : c ≠ 0xF4 := ne_of_data hdata (by decide)
    rw [if_neg (not_or.2 ⟨hstop, habort⟩)]
    simp only [rxStep, chrKind_of_lt hdata]
  · rfl
  · rfl
  · rfl
  · rfl
  · rfl
  · have hkind := chrKind_of_violates ⟨htop, hstart, hstop, habort, hsync, hidle⟩
    rw [if_neg (not_or.2 ⟨hstop, habort⟩)]
    simp only [rxStep, hkind]

/-! ## The port after a character (R149, R151, R152) -/

theorem received_nothing (r : Receiver) : k.received (r, .nothing) = { k with rx := r } := rfl

theorem received_framingError (r : Receiver) : k.received (r, .framingError) =
    { k with rx := r, framingErrors := min 65535 (k.framingErrors + 1) } := rfl

theorem received_checkError (r : Receiver) : k.received (r, .checkError) =
    { k with rx := r, checkErrors := min 65535 (k.checkErrors + 1) } := rfl

theorem received_frame (r : Receiver) (f : Frame) : k.received (r, .frame f) =
    if k.fifo.length < 4 then { k with rx := r, fifo := k.fifo ++ [f] }
    else { k with rx := r, overruns := min 65535 (k.overruns + 1) } := rfl

theorem port_with_rx {r : Receiver} (h : k.rx = r) : { k with rx := r } = k := by rw [← h]

/-! ## The state after a character (R149) -/

theorem receiveChr_absent (h : linkPresent s l = false) : receiveChr l c s = s := by simp [receiveChr, h]

theorem receiveChr_sameButLinks : s.SameButLinks (receiveChr l c s) := by
  unfold receiveChr
  split <;> rfl

theorem receiveChr_other (h : m ≠ l) : (receiveChr l c s).links.get m = s.links.get m := by
  unfold receiveChr
  split
  · exact Pair.get_set_other _ _ h
  · rfl

theorem receiveChr_port (h : linkPresent s l = true) : (receiveChr l c s).links.get l =
    (s.links.get l).received (rxStep s.straps.address (s.links.get l).rx c) := by
  rw [receiveChr_eq s l c h]
  exact Pair.get_set_same _ _ _

/-- A character's outcome at the receiver, from the receiver's state. -/
theorem receiveChr_port_of {rx : Receiver} {r : Receiver × RxEvent} (h : linkPresent s l = true)
    (hrx : (s.links.get l).rx = rx) (hstep : rxStep s.straps.address rx c = r) :
    (receiveChr l c s).links.get l = (s.links.get l).received r := by
  rw [receiveChr_port h, hrx, hstep]

theorem exec_characterReceived : exec (.characterReceived l c) s = .next (receiveChr l c s) := rfl

theorem exec_frameReceived : exec (.frameReceived l) s = .next (receiveChr l 0xF2 s) := rfl

/-! ## The receiver inside a frame (R148 to R150) -/

theorem rxStep_receiving_data (h : c.toNat < 128) :
    rxStep unit (.receiving b taken) c = takeData unit b taken (c.setWidth 7) := by
  simp only [rxStep, chrKind_of_lt h]

theorem rxStep_receiving_fill (h : c = 0xF5 ∨ c = 0xFF) :
    rxStep unit (.receiving b taken) c = (.receiving b taken, .nothing) := by
  rcases h with rfl | rfl
  · rfl
  · rfl

theorem rxStep_receiving_error
    (h : c = 0xF1 ∨ (128 ≤ c.toNat ∧ c ≠ 0xF2 ∧ c ≠ 0xF4 ∧ c ≠ 0xF5 ∧ c ≠ 0xFF)) :
    rxStep unit (.receiving b taken) c = (.hunt, .framingError) := by
  by_cases hstart : c = 0xF1
  · rw [hstart]
    rfl
  · obtain ⟨htop, hstop, habort, hsync, hidle⟩ := h.resolve_left hstart
    simp only [rxStep, chrKind_of_violates ⟨htop, hstart, hstop, habort, hsync, hidle⟩]

theorem checkTaken_iff : checkTaken taken = true ↔ 4 ≤ taken.length ∧ taken.length = 4 + field taken 2 := by
  simp [checkTaken, givenLength, Nat.succ_le_iff]

theorem takeEnd_early (h : taken.length < 4 ∨ taken.length ≠ 4 + field taken 2) :
    takeEnd b taken = (.hunt, .framingError) := by
  refine if_neg fun hcheck => ?_
  obtain ⟨hlong, hlength⟩ := checkTaken_iff.1 hcheck
  omega

theorem takeData_address (v : Data) (h : taken.length = 0) : takeData unit b taken v =
    if v.toNat = unit.toNat then (.receiving false [v], .nothing)
    else if v.toNat = 15 then (.receiving true [v], .nothing)
    else (.skipping, .nothing) := by
  simp only [takeData, h]
  rfl

theorem takeData_kind (v : Data) (h : taken.length = 1) :
    takeData unit b taken v = (.receiving b (taken ++ [v]), .nothing) := by
  simp only [takeData, h]

theorem takeData_length (v : Data) (h : taken.length = 2) : takeData unit b taken v =
    if 120 < v.toNat then (.hunt, .framingError) else (.receiving b (taken ++ [v]), .nothing) := by
  simp only [takeData, h]
  rfl

theorem takeData_body (v : Data) (h : 3 ≤ taken.length) : takeData unit b taken v =
    if taken.length < 4 + field taken 2 then (.receiving b (taken ++ [v]), .nothing) else (.hunt, .framingError) := by
  obtain ⟨n, hn⟩ := Nat.exists_eq_add_of_le' h
  simp only [takeData, hn]
  rfl

/-! ## The END that completes a frame (R148, R149) -/

/-- R148: the check of a frame is the sum of its characters modulo 128. -/
theorem checkOf_toNat (cs : List Data) : (checkOf cs).toNat = (cs.map (·.toNat)).sum % 128 := by
  have hfold : ∀ (xs : List Data) (a : Data),
      (xs.foldl (· + ·) a).toNat = (a.toNat + (xs.map (·.toNat)).sum) % 128 := by
    intro xs
    induction xs with
    | nil => exact fun a => (Nat.mod_eq_of_lt a.isLt).symm
    | cons x xs ih =>
      intro a
      rw [List.foldl_cons, ih, BitVec.toNat_add, List.map_cons, List.sum_cons, Nat.mod_add_mod, Nat.add_assoc]
  exact (hfold cs 0).trans (by simp)

theorem takeEnd_complete {addr kind len check : Data} {payload : List Data} (hlen : payload.length = len.toNat) :
    takeEnd b (addr :: kind :: len :: (payload ++ [check])) =
      if check.toNat = (addr.toNat + kind.toNat + len.toNat + (payload.map (·.toNat)).sum) % 128 then
        (.idle, .frame { broadcast := b, kind := kind.toNat, payload := payload })
      else (.idle, .checkError) := by
  have htaken : checkTaken (addr :: kind :: len :: (payload ++ [check])) = true := by
    rw [checkTaken_iff]
    simp [field, hlen]
    omega
  have hframe : completedFrame b (addr :: kind :: len :: (payload ++ [check])) =
      { broadcast := b, kind := kind.toNat, payload := payload } := by
    simp [completedFrame, givenLength, field, ← hlen]
  have hdrop : (addr :: kind :: len :: (payload ++ [check])).dropLast = addr :: kind :: len :: payload :=
    List.dropLast_concat (l₁ := addr :: kind :: len :: payload)
  have hlast : (addr :: kind :: len :: (payload ++ [check])).getLastD 0 = check :=
    List.getLastD_concat (l := addr :: kind :: len :: payload)
  have hcheck : checkOf (addr :: kind :: len :: payload) = check ↔
      check.toNat = (addr.toNat + kind.toNat + len.toNat + (payload.map (·.toNat)).sum) % 128 := by
    rw [← BitVec.toNat_inj, checkOf_toNat, eq_comm]
    simp [Nat.add_assoc]
  rw [takeEnd, if_pos htaken, hdrop, hlast, hframe]
  exact if_congr hcheck rfl rfl

end Lemmas

/-- Settles O10: outside a frame the receiver's next state follows from its state and the character's kind. -/
theorem receiverOutsideAFrame : Obligations.ReceiverOutsideAFrame := by
  unfold Obligations.ReceiverOutsideAFrame
  intro l c s
  refine ⟨receiveChr l c s, exec_characterReceived, receiveChr_sameButLinks, fun m hm => receiveChr_other hm,
    receiveChr_absent, fun h => ⟨fun hrx => ?_, fun hrx => ?_, fun hrx => ?_⟩⟩
  · rw [receiveChr_port_of h hrx rxStep_hunt, received_nothing]
    split
    · rfl
    · exact port_with_rx hrx
  · rw [receiveChr_port_of h hrx rxStep_idle]
    split
    · rfl
    · split
      · exact port_with_rx hrx
      · rfl
  · rw [receiveChr_port_of h hrx rxStep_skipping, received_nothing]
    split
    · rfl
    · exact port_with_rx hrx

/-- Settles O11: inside a frame the receiver judges a character by its kind and by its place in the frame. -/
theorem receiverInsideAFrame : Obligations.ReceiverInsideAFrame := by
  unfold Obligations.ReceiverInsideAFrame
  intro l c b taken s h hrx k v len error more
  have port {r : Receiver × RxEvent} (hstep : rxStep s.straps.address (.receiving b taken) c = r) :
      (receiveChr l c s).links.get l = k.received r := receiveChr_port_of h hrx hstep
  have data (hc : c.toNat < 128) {r : Receiver × RxEvent} (hv : takeData s.straps.address b taken v = r) :
      (receiveChr l c s).links.get l = k.received r := port ((rxStep_receiving_data hc).trans hv)
  refine ⟨receiveChr l c s, exec_characterReceived, fun hc => ?_, fun hc => ?_, fun hc => ?_, fun hc hend => ?_,
    fun hc h0 => ?_, fun hc h1 => ?_, fun hc h2 => ?_, fun hc h3 => ?_⟩
  · subst hc
    exact port rfl
  · exact (port (rxStep_receiving_fill hc)).trans (port_with_rx hrx)
  · exact port (rxStep_receiving_error hc)
  · subst hc
    exact port (takeEnd_early hend)
  · rw [data hc (takeData_address v h0)]
    split
    · rfl
    · split <;> rfl
  · exact data hc (takeData_kind v h1)
  · rw [data hc (takeData_length v h2)]
    split <;> rfl
  · rw [data hc (takeData_body v h3)]
    split <;> rfl

/-- Settles O12: the END of a frame with its check is an offer to the FIFO or a check error. -/
theorem completedFrameIsOffered : Obligations.CompletedFrameIsOffered := by
  unfold Obligations.CompletedFrameIsOffered
  intro l b addr kind len payload check s h hlen hrx k sum
  refine ⟨receiveChr l 0xF2 s, exec_frameReceived, exec_characterReceived, receiveChr_sameButLinks,
    fun m hm => receiveChr_other hm, ?_⟩
  have hstep : rxStep s.straps.address (.receiving b (addr :: kind :: len :: (payload ++ [check]))) 0xF2 = _ :=
    takeEnd_complete hlen
  rw [receiveChr_port_of h hrx hstep]
  split
  · exact received_frame _ _
  · exact received_checkError _

end Sys2Proof.Machine.FeedLinks
end

section
/-!
PROOFS. CLEAR-COUNTS (R151).
-/
namespace Sys2Proof.Machine.FeedLinks

section Lemmas
variable {s : State} {l m : Link} {f : Frame}

/-- R152: the handler takes a frame out of its own link's FIFO only. -/
theorem takeFrame_port : (takeFrame s l).links.get m =
    { s.links.get m with fifo := if m = l then (s.links.get m).fifo.tail else (s.links.get m).fifo } := by
  by_cases h : m = l
  · subst h
    rw [if_pos rfl]
    exact Pair.get_set_same _ _ _
  · rw [if_neg h]
    exact Pair.get_set_other _ _ h

theorem clearAllCounts_port : (clearAllCounts s).links.get m = (s.links.get m).clearCounts := by
  cases m with
  | a => rfl
  | b => rfl

theorem exec_clearCounts (h : s.requests l f 0x0A) :
    exec (.clearCounts l) s = .next (answerTo (clearAllCounts (takeFrame s l)) l f .done []) := by
  obtain ⟨hoffered, hkind, hlength⟩ := h
  exact congrArg _ (handle_request s hoffered (by simp [ofKind, hkind, kindClearCounts]) hlength)

end Lemmas

/-- Settles O17: the counts are cleared on the state in which the frame has left its FIFO. -/
theorem clearCountsZeroesAllCounts : Obligations.ClearCountsZeroesAllCounts := by
  unfold Obligations.ClearCountsZeroesAllCounts
  intro s l f h
  refine ⟨clearAllCounts (takeFrame s l), exec_clearCounts h, rfl, fun m => ?_⟩
  rw [clearAllCounts_port, takeFrame_port]
  rfl

end Sys2Proof.Machine.FeedLinks
end

section
/-!
PROOFS. The frames the part sends (R147, R148, R154 to R157): the envelope, the fields, the payloads and the notices.
-/
namespace Sys2Proof.Machine.FeedLinks

section Lemmas
variable {address : BitVec 3} {o : Outbound} {n : Nat}

/-! ## The envelope (R148) -/

theorem dataChr_toNat (d : Data) : (dataChr d).toNat = d.toNat :=
  BitVec.toNat_setWidth_of_le (by decide)

theorem outbound_kind_lt (o : Outbound) : o.kind < 128 := by
  cases o with
  | grant tag route => exact (by decide : kindGrant < 128)
  | withdraw tag => exact (by decide : kindWithdraw < 128)
  | answer a => exact (by decide : kindAnswer < 128)
  | notice n => exact (by decide : kindNotice < 128)

/-- R148: the characters the check of a frame sums. -/
def innerChars (address : BitVec 3) (o : Outbound) : List Data :=
  address.setWidth 7 :: BitVec.ofNat 7 o.kind :: BitVec.ofNat 7 o.payload.length :: o.payload

theorem innerChars_toNat (h : o.payload.length ≤ 120) : (innerChars address o).map (·.toNat) =
    [address.toNat, o.kind, o.payload.length] ++ o.payload.map (·.toNat) := by
  have haddress : (address.setWidth 7).toNat = address.toNat := BitVec.toNat_setWidth_of_le (by decide)
  have hkind : o.kind % 128 = o.kind := Nat.mod_eq_of_lt (outbound_kind_lt o)
  have hlength : o.payload.length % 128 = o.payload.length := Nat.mod_eq_of_lt (by omega)
  simp only [innerChars, List.map_cons, haddress, BitVec.toNat_ofNat, Nat.reducePow, hkind, hlength, List.cons_append,
    List.nil_append]

theorem frameChars_toNat (address : BitVec 3) (o : Outbound) : (frameChars address o).map (·.toNat) =
    [0xF5, 0xF1] ++ (innerChars address o).map (·.toNat) ++
      [((innerChars address o).map (·.toNat)).sum % 128, 0xF2] := by
  have hchars : (frameChars address o).map (·.toNat) = [0xF5, 0xF1] ++
      ((innerChars address o ++ [checkOf (innerChars address o)]).map dataChr).map (·.toNat) ++ [0xF2] := by
    simp [frameChars, innerChars, Config.sync, Config.start, Config.stop]
  have hdata : (fun d : Data => (dataChr d).toNat) = (·.toNat) := funext dataChr_toNat
  rw [hchars, List.map_map, ← checkOf_toNat]
  simp [Function.comp_def, hdata]

/-! ## The fields (R147, R156) -/

theorem enc1_toNat (n : Nat) : (enc1 n).map (·.toNat) = [n % 128] := rfl

theorem enc2_toNat (n : Nat) : (enc2 n).map (·.toNat) = [n % 128, n / 128 % 128] := rfl

theorem enc3_toNat (n : Nat) : (enc3 n).map (·.toNat) = [n % 128, n / 128 % 128, n / 16384 % 128] := rfl

theorem encBool_eq (b : Bool) : encBool b = enc1 (if b = true then 1 else 0) := by
  cases b with
  | false => rfl
  | true => rfl

theorem toNat_mul (b : Bool) (n : Nat) : n * b.toNat = if b = true then n else 0 := by
  cases b with
  | false => rfl
  | true => exact Nat.mul_one n

theorem setFlags_bits (f : SetFlags) (jam : Bool) : f.bits jam =
    (if f.short then 1 else 0) + (if f.incomplete then 2 else 0) + (if f.gap then 4 else 0) +
    (if f.withheld then 8 else 0) + (if f.routeException then 16 else 0) + (if f.unstapled then 32 else 0) +
    (if jam then 64 else 0) := by
  have hshort : f.short.toNat = if f.short = true then 1 else 0 := by rw [← toNat_mul, Nat.one_mul]
  simp only [SetFlags.bits, toNat_mul, hshort]

/-! ## The payloads (R154 to R156) -/

theorem answer_payload_done (kind : Nat) (body : List Data) :
    (Outbound.answer { kind := kind, result := .done, body := body }).payload = enc1 kind ++ enc1 0 ++ body := rfl

theorem answer_payload_clamped (kind : Nat) (body : List Data) :
    (Outbound.answer { kind := kind, result := .clamped, body := body }).payload = enc1 kind ++ enc1 1 ++ body := rfl

theorem answer_payload_accepted (kind : Nat) (body : List Data) :
    (Outbound.answer { kind := kind, result := .accepted, body := body }).payload = enc1 kind ++ enc1 2 ++ body := rfl

theorem answer_payload_refused (kind : Nat) (why : Reason) (body : List Data) :
    (Outbound.answer { kind := kind, result := .refused why, body := body }).payload =
      enc1 kind ++ enc1 3 ++ enc1 why.code ++ body := rfl

end Lemmas

/-- Settles O13: the envelope and its check are computed from the frame; the encodings, the codes and the bodies of the
notices are read off their definitions. -/
theorem sentFrameLayout : Obligations.SentFrameLayout := by
  unfold Obligations.SentFrameLayout
  refine ⟨fun address o h => ?_, fun n => ⟨enc1_toNat n, enc2_toNat n, enc3_toNat n⟩, encBool_eq,
    fun α enc x xs => ⟨rfl, rfl, rfl⟩, setFlags_bits, ?codes⟩
  · rw [frameChars_toNat, innerChars_toNat h]
  case codes =>
    refine ⟨rfl, rfl, rfl, rfl, rfl, rfl, rfl, rfl, rfl, rfl, rfl, rfl, rfl, rfl, fun _ => rfl, rfl, ?payloads⟩
    case payloads =>
      refine ⟨fun tag route => ⟨rfl, rfl⟩, fun tag => ⟨rfl, rfl⟩, fun kind body => ?_,
        fun n => ⟨rfl, rfl⟩, ?notices⟩
      · exact ⟨fun _ => rfl, answer_payload_done kind body, answer_payload_clamped kind body,
          answer_payload_accepted kind body, fun why => answer_payload_refused kind why body⟩
      case notices =>
        intro sends sheet place
        refine ⟨fun d => ?delivered, fun seat segment total final jam flags => ⟨?lost, ?empty⟩,
          fun l d cause expected measured reason count => ⟨?rejected, ?purged, ?faulty, ?overflow, ?missed⟩,
          fun es granted => ?conflict, fun p fill capacity failed st => ⟨?full, ?withdrawn, ?returned⟩,
          fun seat segment charge fill count => ⟨?stackerFull, ?stackerEmptied, ?purgeFull, ?purgeEmptied, ?jam, ?low,
            ?cartridge, ?commit⟩,
          fun m => ?closed, fun seat target fill expected inserted at' cause => ⟨?ready, ?done⟩,
          fun was now d => ⟨?state, ?fault, ?retention⟩⟩
        all_goals exact ⟨rfl, rfl⟩

end Sys2Proof.Machine.FeedLinks
end

section
/-!
PROOFS. An ASK at the frame handler (R152, R158): what the judgement of its contents makes of the answer.
-/
namespace Sys2Proof.Machine.FeedLinks

section Lemmas
variable {s : State} {l m : Link} {f : Frame} {p body : List Data} {code : Nat} {r : Reason}
  {contents : List Data → State → Except Reason (List Data)}

/-! ## The handler (R152, R158) -/

/-- An ASK of the command's subject code, or of a code that names nothing, is handed to its owner. -/
theorem handle_isAsk {owner : Link → Frame → State → State} (h : s.requests l f 0x0C)
    (hc : field f.payload 0 = code ∨ 6 < field f.payload 0) :
    handle (isAsk code) owner l s = owner l f (takeFrame s l) := by
  obtain ⟨hoffered, hkind, hlength⟩ := h
  exact handle_request s hoffered (by simp [isAsk, hkind, kindAsk, TableLoading.selects_of_field hc]) hlength

theorem handle_ask_done (h : s.requests l f 0x0C) (hc : field f.payload 0 = code)
    (hb : contents f.payload (takeFrame s l) = .ok body) :
    handle (isAsk code) (ask code contents) l s = answerTo (takeFrame s l) l f .done body := by
  rw [handle_isAsk h (.inl hc), ask, if_pos hc, hb]
  rfl

theorem handle_ask_refused (h : s.requests l f 0x0C) (hc : field f.payload 0 = code)
    (hb : contents f.payload (takeFrame s l) = .error r) :
    handle (isAsk code) (ask code contents) l s = answerTo (takeFrame s l) l f (.refused r) [] := by
  rw [handle_isAsk h (.inl hc), ask, if_pos hc, hb]
  rfl

/-- R158: a subject code that names nothing is refused. -/
theorem handle_ask_unnamed (h : s.requests l f 0x0C) (hcode : code ≤ 6) (h6 : 6 < field f.payload 0) :
    handle (isAsk code) (ask code contents) l s = answerTo (takeFrame s l) l f (.refused .range) [] := by
  have hne : field f.payload 0 ≠ code := by omega
  rw [handle_isAsk h (.inr h6), ask, if_neg hne]
  rfl

/-! ## The commands -/

theorem exec_askStatus : exec (.askStatus l) s =
    .next (handle (isAsk 0) (ask 0 fun _ t => .ok (statusBody t)) l s) := rfl

theorem exec_askJob : exec (.askJob l) s = .next (handle (isAsk 1) (ask 1 askedJob) l s) := rfl

theorem exec_askPocket : exec (.askPocket l) s = .next (handle (isAsk 2) (ask 2 askedPocket) l s) := rfl

theorem exec_askQueue : exec (.askQueue l) s = .next (handle (isAsk 3) (ask 3 askedQueue) l s) := rfl

theorem exec_askCapture : exec (.askCapture l) s = .next (handle (isAsk 4) (ask 4 askedCapture) l s) := rfl

theorem exec_askEntry : exec (.askEntry l) s = .next (handle (isAsk 5) (ask 5 askedEntry) l s) := rfl

theorem exec_askSet : exec (.askSet l) s = .next (handle (isAsk 6) (ask 6 fun _ t => .ok (setBody t)) l s) := rfl

/-! ## The judgements (R160, R161) -/

theorem askedJob_found {j : Job} (h1 : 1 ≤ field p 1) (h63 : field p 1 ≤ 63) (hj : findJob s (field p 1) = some j) :
    askedJob p s = .ok (jobBody j) := by
  have hrange : ¬ (field p 1 = 0 ∨ 63 < field p 1) := by omega
  simp only [askedJob, Config.maxJobNumber, if_neg hrange, hj]

theorem askedJob_unknown (h1 : 1 ≤ field p 1) (h63 : field p 1 ≤ 63) (hj : findJob s (field p 1) = none) :
    askedJob p s = .error .unknownJob := by
  have hrange : ¬ (field p 1 = 0 ∨ 63 < field p 1) := by omega
  simp only [askedJob, Config.maxJobNumber, if_neg hrange, hj]

theorem askedJob_range (h : field p 1 = 0 ∨ 63 < field p 1) : askedJob p s = .error .range := if_pos h

theorem askedPocket_range (h : ¬ field p 1 ≤ 39) : askedPocket p s = .error .range :=
  if_neg fun hlt => h (Nat.le_of_lt_succ hlt)

theorem askedPocket_found (h : field p 1 ≤ 39) : askedPocket p s = .ok (pocketBody s (field p 1)) :=
  if_pos (Nat.lt_succ_of_le h)

theorem linkOfCode_code (m : Link) : linkOfCode (Link.code m) = some m := by
  cases m with
  | a => rfl
  | b => rfl

theorem askedQueue_found (hm : field p 1 = Link.code m) (h11 : field p 2 ≤ 11) :
    askedQueue p s = .ok (queueBody s m (field p 2)) := by
  rw [askedQueue, hm, linkOfCode_code]
  exact if_pos (Nat.lt_succ_of_le h11)

theorem askedQueue_range (h : 1 < field p 1 ∨ 11 < field p 2) : askedQueue p s = .error .range := by
  unfold askedQueue
  rcases Nat.lt_or_ge 1 (field p 1) with hlink | hlink
  · rw [TableLoading.linkOfCode_of_lt hlink]
  · rw [TableLoading.linkOfCode_of_le hlink]
    have h11 : 11 < field p 2 := h.resolve_left (Nat.not_lt.2 hlink)
    exact if_neg (Nat.not_lt.2 h11)

theorem askedCapture_found (hm : field p 1 = Link.code m) : askedCapture p s = .ok (captureBody s m) := by
  rw [askedCapture, hm, linkOfCode_code]

theorem askedCapture_range (h : 1 < field p 1) : askedCapture p s = .error .range := by
  rw [askedCapture, TableLoading.linkOfCode_of_lt h]

theorem askedEntry_found (h : entryBody s (field p 1) (field p 2) (field p 3) = some body) :
    askedEntry p s = .ok body := by
  rw [askedEntry, h]

theorem askedEntry_range (h : entryBody s (field p 1) (field p 2) (field p 3) = none) :
    askedEntry p s = .error .range := by
  rw [askedEntry, h]

end Lemmas

end Sys2Proof.Machine.FeedLinks
end

section
/-!
PROOFS. The contents of the ASK answers (R159 to R161).
-/
namespace Sys2Proof.Machine.FeedLinks

section Lemmas
variable {s : State} {l : Link}

/-! ## STATUS (R159) -/

theorem encGrant_eq (g : Grant) : encGrant g =
    enc1 (Link.code g.link) ++ enc1 g.tag ++ enc1 (if g.purpose = .tray then 0 else 1) := by
  cases h : g.purpose <;> simp [encGrant, h, Route.code]

/-- R159: the target of a CARRYING tower, in the carried segment's item. -/
def shownTarget (t : Tower) : List Data :=
  match t.target with
  | some o => if t.phase = .carrying then enc1 1 ++ enc1 o.dest.code ++ enc1 o.place.code else enc1 0
  | none => enc1 0

/-- R159: the carried segment of a CARRYING or BLOCKED tower. -/
def shownCarried (t : Tower) : List Data :=
  match t.carried with
  | some g => if t.phase = .carrying ∨ t.phase = .blocked
    then enc1 1 ++ enc1 g.job ++ enc1 g.seat ++ enc1 g.segment ++ shownTarget t else enc1 0
  | none => enc1 0

theorem encCarried_eq (t : Tower) : encCarried t = shownCarried t := by
  unfold encCarried shownCarried shownTarget
  cases t.carried with
  | none => cases t.phase <;> rfl
  | some g =>
    cases t.target with
    | none => cases t.phase <;> rfl
    | some o => cases t.phase <;> rfl

theorem jobsAscending_numbers : ((jobsAscending s).map (·.number)).Pairwise (· < ·) := by
  rw [List.pairwise_map, jobsAscending, List.pairwise_filterMap]
  refine List.Pairwise.imp ?_ List.pairwise_lt_range
  intro n k hlt i hi j hj
  rwa [(findJob_some hi).1, (findJob_some hj).1]

theorem mem_jobsAscending (hn : (s.jobs.map (·.number)).Nodup) (h63 : ∀ j ∈ s.jobs, j.number ≤ 63) {j : Job} :
    j ∈ jobsAscending s ↔ j ∈ s.jobs := by
  simp only [jobsAscending, List.mem_filterMap, List.mem_range]
  constructor
  · rintro ⟨n, -, hj⟩
    exact (findJob_some hj).2
  · intro hj
    exact ⟨j.number, Nat.lt_succ_of_le (h63 j hj), findJob_mem hn hj⟩

/-- R8: the ascending list holds exactly the jobs of the list. -/
theorem jobsAscending_perm (hn : (s.jobs.map (·.number)).Nodup) (h63 : ∀ j ∈ s.jobs, j.number ≤ 63) :
    (jobsAscending s).Perm s.jobs := by
  have hascending : ((jobsAscending s).map (·.number)).Nodup := jobsAscending_numbers.imp Nat.ne_of_lt
  exact (List.perm_ext_iff_of_nodup hascending.of_map hn.of_map).2 fun j => mem_jobsAscending hn h63

/-! ## POCKET (R160) -/

theorem pocketBody_eq {p : Nat} {k : Pocket} {e : Entry PocketConfig} (hk : s.pockets[p]? = some k)
    (he : s.tables.pockets[p]? = some e) : pocketBody s p =
      enc1 k.state.code ++ encOpt (fun st : PocketState => enc1 st.code) k.remembered ++ enc2 k.fill ++
      enc2 k.setCount ++ enc1 k.side.code ++ enc2 e.active.capacity ++ encBool e.active.enabled ++
      enc1 (if k.floorEmpty = true then 0 else 1) := by
  have hpocket : pocketOf s p = k := by rw [pocketOf, hk, Option.getD_some]
  simp only [pocketBody, hpocket, capacityOf, he, Option.map_some, Option.getD_some]

/-! ## QUEUE (R161) -/

theorem encDesc_eq (d : Desc) : encDesc d =
    enc1 d.tag ++ enc1 d.job ++ enc1 d.seat ++ enc1 d.part ++ enc1 d.index ++ encBool d.last ++ enc1 d.grade ++
      enc1 d.size ++ encOpt enc1 d.note := rfl

theorem encQueueEntry_eq (e : QueueEntry) : encQueueEntry e =
    encDesc e.desc ++ enc1 e.standing.code ++
      (match e.standing with | .granted r => enc1 1 ++ enc1 r.code | .queued | .waiting => enc1 0) ++
      encBool e.checked ++ encOpt (fun r : FaultyReason => enc1 r.code) e.faulty := by
  unfold encQueueEntry
  cases e.standing <;> rfl

/-- R148: the items that fit are a front of the list and take at most the room there is. -/
theorem fitting_front (items : List (List Data)) : ∀ room, fitting room items <+: items ∧
    (fitting room items).flatten.length ≤ room := by
  induction items with
  | nil => exact fun room => ⟨List.nil_prefix, Nat.zero_le _⟩
  | cons x xs ih =>
    intro room
    unfold fitting
    split
    · rename_i hx
      obtain ⟨hfront, hlength⟩ := ih (room - x.length)
      refine ⟨List.cons_prefix_cons.2 ⟨rfl, hfront⟩, ?_⟩
      rw [List.flatten_cons, List.length_append]
      omega
    · exact ⟨List.nil_prefix, Nat.zero_le _⟩

/-- R161: every front of the list that takes at most the room there is is a front of the items that fit. -/
theorem fitting_maximal (items : List (List Data)) : ∀ (room m : Nat), (items.take m).flatten.length ≤ room →
    items.take m <+: fitting room items := by
  induction items with
  | nil => exact fun room m _ => by simp
  | cons x xs ih =>
    intro room m hroom
    cases m with
    | zero => exact List.nil_prefix
    | succ m =>
      rw [List.take_succ_cons, List.flatten_cons, List.length_append] at hroom
      have hx : x.length ≤ room := by omega
      rw [List.take_succ_cons, fitting, if_pos hx]
      exact List.cons_prefix_cons.2 ⟨rfl, ih _ _ (by omega)⟩

/-- R161: the answer of ASK QUEUE with the descriptors of `entries`, of a queue of `n`. -/
def queueAnswer (n : Nat) (entries : List QueueEntry) : List Data := enc1 n ++ encList encQueueEntry entries

theorem queueAnswer_length (n : Nat) (entries : List QueueEntry) :
    (queueAnswer n entries).length = 2 + (entries.map encQueueEntry).flatten.length := by
  simp only [queueAnswer, encList, enc1, List.flatMap_def, List.length_append, List.length_singleton]
  omega

theorem queueBody_eq {first : Nat} {entries shown : List QueueEntry} (hq : (s.feeds.get l).entries = entries)
    (hshown : fitting queueRoom (((entries.drop first).take 8).map encQueueEntry) = shown.map encQueueEntry) :
    queueBody s l first = queueAnswer entries.length shown := by
  simp only [queueBody, hq, hshown, queueAnswer, encList, List.length_map, List.flatMap_def, List.map_id]

/-- R161, R148: the answer gives the most descriptors, up to 8, that keep the payload within its limit. -/
theorem queueBody_most (s : State) (l : Link) (first : Nat) :
    let entries := (s.feeds.get l).entries
    let body (k : Nat) : List Data := queueAnswer entries.length ((entries.drop first).take k)
    ∃ k, k ≤ 8 ∧ queueBody s l first = body k ∧ (body k).length ≤ 118 ∧
      ∀ m, m ≤ 8 → (body m).length ≤ 118 → (body m).length ≤ (body k).length := by
  intro entries body
  let offered := ((entries.drop first).take 8).map encQueueEntry
  obtain ⟨hfit, hroom⟩ := fitting_front offered queueRoom
  let k := (fitting queueRoom offered).length
  have hfront (m : Nat) (hm : m ≤ 8) : ((entries.drop first).take m).map encQueueEntry = offered.take m := by
    simp only [offered, ← List.map_take, List.take_take, Nat.min_eq_left hm]
  have hk : k ≤ 8 := hfit.length_le.trans (by simp [offered])
  have hshown : fitting queueRoom offered = ((entries.drop first).take k).map encQueueEntry := by
    obtain ⟨rest, hrest⟩ := hfit
    exact List.take_left.symm.trans ((congrArg (List.take k) hrest).trans (hfront k hk).symm)
  have hlength (m : Nat) : (body m).length = 2 + (((entries.drop first).take m).map encQueueEntry).flatten.length :=
    queueAnswer_length _ _
  refine ⟨k, hk, queueBody_eq rfl hshown, ?_, fun m hm h118 => ?_⟩
  · rw [hlength, ← hshown]
    exact Nat.add_le_add_left hroom 2
  · rw [hlength, hfront m hm] at h118 ⊢
    rw [hlength, ← hshown]
    obtain ⟨rest, hrest⟩ := fitting_maximal offered queueRoom m (Nat.le_of_add_le_add_left h118)
    rw [← hrest, List.flatten_append, List.length_append]
    omega

/-! ## CAPTURE (R161) -/

theorem captureBody_empty (h : (s.feeds.get l).capture.held = none) :
    captureBody s l = enc3 (s.feeds.get l).capture.count ++ enc1 0 ++ enc1 0 := by
  simp only [captureBody, h, encOpt]

theorem captureBody_held {d : Desc} {r : FaultyReason} (h : (s.feeds.get l).capture.held = some (d, r)) :
    captureBody s l = enc3 (s.feeds.get l).capture.count ++ enc1 1 ++ enc1 r.code ++ enc1 1 ++ encDesc d ++ enc1 1 ++
      enc1 r.code := by
  simp only [captureBody, h, encOpt, List.append_assoc]

/-! ## ENTRY (R161) -/

variable {i first : Nat}

theorem entryBody_class {e : Entry ClassBody} (h1 : 1 ≤ first) (h40 : first ≤ 40)
    (he : s.tables.classes[i]? = some e) :
    entryBody s 0 i first = some (encEntry (encClass first) e ++ enc1 e.refs) := by
  have hrange : ¬ (first = 0 ∨ 40 < first) := by omega
  simp only [entryBody, if_neg hrange, he, Option.map_some]

theorem entryBody_plan {e : Entry PlanBody} (he : s.tables.plans[i]? = some e) :
    entryBody s 1 i first = some (encEntry encPlan e ++ enc1 e.refs) := by
  simp only [entryBody, he, Option.map_some]

theorem entryBody_grade {e : Entry Nat} (he : s.tables.grades[i]? = some e) :
    entryBody s 2 i first = some (encEntry enc1 e) := by
  simp only [entryBody, he, Option.map_some]

theorem entryBody_pocket {e : Entry PocketConfig} (he : s.tables.pockets[i]? = some e) :
    entryBody s 3 i first = some (encEntry encPocketConfig e) := by
  simp only [entryBody, he, Option.map_some]

theorem entryBody_no_class (h : first = 0 ∨ 40 < first ∨ s.tables.classes[i]? = none) :
    entryBody s 0 i first = none := by
  by_cases hrange : first = 0 ∨ 40 < first
  · exact if_pos hrange
  · have hnone : s.tables.classes[i]? = none := by tauto
    simp only [entryBody, if_neg hrange, hnone, Option.map_none]

theorem entryBody_no_plan (h : s.tables.plans[i]? = none) : entryBody s 1 i first = none := by
  simp only [entryBody, h, Option.map_none]

theorem entryBody_no_grade (h : s.tables.grades[i]? = none) : entryBody s 2 i first = none := by
  simp only [entryBody, h, Option.map_none]

theorem entryBody_no_pocket (h : s.tables.pockets[i]? = none) : entryBody s 3 i first = none := by
  simp only [entryBody, h, Option.map_none]

theorem entryBody_no_transport (h : 1 ≤ i) : entryBody s 4 i first = none := if_neg (Nat.pos_iff_ne_zero.1 h)

theorem entryBody_no_group {group : Nat} (h : 5 ≤ group) : entryBody s group i first = none := by
  rw [entryBody] <;> omega

/-! ## SET (R159) -/

theorem openSet_of_not_final (h : ∀ c, s.tray.close = some c → c.kind ≠ .final) : openSet s = s.tray.held := by
  unfold openSet
  split
  · rename_i c hc
    split
    · rename_i hkind
      exact absurd hkind (h c hc)
    · rfl
  · rfl

theorem openSet_of_final {c : SegClose} (hc : s.tray.close = some c) (hkind : c.kind = .final) : openSet s = none := by
  simp only [openSet, hc, hkind]

/-- R159: the milliseconds of a running stall timer are its ticks, rounded up. -/
theorem stall_ms_bounds (n : Nat) : n ≤ 10 * ceilDiv n 10 ∧ 10 * ceilDiv n 10 < n + 10 := by
  unfold ceilDiv
  omega

/-- R159: the contents of ASK SET for the open set the part shows. -/
theorem setBody_shown {opened : Option SetRec} (h : openSet s = opened) : setBody s =
    encOpt encSetRec opened ++ encOpt encGrant s.grant ++ encStall s.timers.stall ++ enc1 s.shelf.motion.code ++
      encList encSetRec s.shelf.stack := by
  rw [setBody, h]

end Lemmas

/-- Settles O31: each ASK goes through the handler to its judgement, and the contents are read item by item. -/
theorem asksAreAnswered : Obligations.AsksAreAnswered := by
  unfold Obligations.AsksAreAnswered
  refine ⟨?answers, rfl, rfl, rfl, fun _ _ => rfl, rfl, rfl, fun _ => rfl, rfl, rfl, rfl, rfl, ?contents⟩
  case answers =>
    intro s l f h u v done refused
    rw [exec_askStatus, exec_askJob, exec_askPocket, exec_askQueue, exec_askCapture, exec_askEntry, exec_askSet]
    refine ⟨fun hc => ?_, fun hc => ⟨fun j h1 h63 hj => ?_, fun h1 h63 hj => ?_, fun hr => ?_⟩, fun hc => ?_,
      fun hc => ⟨fun m hm h11 => ?_, fun hr => ?_⟩, fun hc => ⟨fun m hm => ?_, fun hr => ?_⟩,
      fun hc => ⟨fun body hb => ?_, fun hb => ?_⟩, fun hc => ?_, fun h6 => ?_⟩
    · exact congrArg _ (handle_ask_done h hc rfl)
    · exact congrArg _ (handle_ask_done h hc (askedJob_found h1 h63 hj))
    · exact congrArg _ (handle_ask_refused h hc (askedJob_unknown h1 h63 hj))
    · exact congrArg _ (handle_ask_refused h hc (askedJob_range hr))
    · split
      · rename_i h39
        exact congrArg _ (handle_ask_done h hc (askedPocket_found h39))
      · rename_i h39
        exact congrArg _ (handle_ask_refused h hc (askedPocket_range h39))
    · exact congrArg _ (handle_ask_done h hc (askedQueue_found hm h11))
    · exact congrArg _ (handle_ask_refused h hc (askedQueue_range hr))
    · exact congrArg _ (handle_ask_done h hc (askedCapture_found hm))
    · exact congrArg _ (handle_ask_refused h hc (askedCapture_range hr))
    · exact congrArg _ (handle_ask_done h hc (askedEntry_found hb))
    · exact congrArg _ (handle_ask_refused h hc (askedEntry_range hb))
    · exact congrArg _ (handle_ask_done h hc rfl)
    · exact congrArg _ (handle_ask_unnamed h (by decide) h6)
  case contents =>
    intro grant desc reason
    have hgrant : encGrant = grant := funext encGrant_eq
    refine ⟨fun s hn h63 => ?status, fun j => rfl, fun s p k e => pocketBody_eq, fun s l first => ?queue,
      fun s l => ⟨captureBody_empty, fun d r => captureBody_held⟩, fun s i first => ?entry, fun s => ?set⟩
    case status =>
      intro port target carried
      refine ⟨jobsAscending s, jobsAscending_perm hn h63, jobsAscending_numbers, ?_⟩
      rw [statusBody, encCarried_eq, hgrant]
      rfl
    case queue =>
      intro entry body
      have hentry : encQueueEntry = entry := funext encQueueEntry_eq
      have hbody (k : Nat) :
          queueAnswer (s.feeds.get l).entries.length (((s.feeds.get l).entries.drop first).take k) = body k := by
        rw [queueAnswer, hentry]
      obtain ⟨k, hk, hq, hlength, hmost⟩ := queueBody_most s l first
      simp only [hbody] at hq hlength hmost
      exact ⟨k, hk, hq, hlength, hmost⟩
    case entry =>
      intro cls plan pocket transport
      exact ⟨fun e => entryBody_class, fun e => entryBody_plan, fun e => entryBody_grade, fun e => entryBody_pocket,
        rfl, entryBody_no_class, entryBody_no_plan, entryBody_no_grade, entryBody_no_pocket, entryBody_no_transport,
        fun group => entryBody_no_group⟩
    case set =>
      intro set shown
      have hshown {opened : Option SetRec} (hopen : openSet s = opened) : shown opened := by
        refine ⟨encStall s.timers.stall, ?_, fun hnone => ?_,
          fun n hsome => ⟨ceilDiv n 10, ?_, stall_ms_bounds n⟩⟩
        · rw [setBody_shown hopen, hgrant]
          rfl
        · rw [hnone]
          rfl
        · rw [hsome]
          rfl
      exact ⟨fun h => hshown (openSet_of_not_final h), fun c hc hkind => hshown (openSet_of_final hc hkind)⟩

end Sys2Proof.Machine.FeedLinks
end

section
/-!
PROOFS. FAULTED is the state with a recorded cause, and frozen (R165, R166): what coherence reads of the state, and how the
shared operations keep it.
-/
namespace Sys2Proof.Machine.RunStates

open SetAssembly PocketRecords InsertSession

section Lemmas
variable {s t : State}

/-! ## What coherence reads (R105, R165) -/

/-- R105: the timers that do not run in FAULTED, the stapler's own two left out. -/
def frozenTimers (ts : Timers) : Timers := { ts with completion := none, recovery := none }

/-- R165: what coherence reads of the state. -/
def faultView (s : State) :
    RunState × Option FaultDetail × Option Grant × Option Session × Motion × TowerPhase × Timers :=
  (s.run, s.fault.first, s.grant, s.session, s.shelf.motion, s.tower.phase, frozenTimers s.timers)

theorem coherent_of_view (h : s.FaultCoherent) (hv : faultView t = faultView s) : t.FaultCoherent := by
  simp only [faultView, frozenTimers, Prod.mk.injEq, Timers.mk.injEq] at hv
  obtain ⟨hrun, hfirst, hgrant, hsession, hmotion, hphase, hwarmup, hwindow, hstall, hmotionTimer, -, -, heject,
    hdelivery⟩ := hv
  constructor
  case recorded => rw [hrun, hfirst]; exact h.recorded
  case grant => rw [hrun, hgrant]; exact h.grant
  case session => rw [hrun, hsession]; exact h.session
  case shelf => rw [hrun, hmotion]; exact h.shelf
  case tower => rw [hrun, hphase]; exact h.tower
  case timers => rw [hrun, hwarmup, hwindow, hstall, hmotionTimer, heject, hdelivery]; exact h.timers

/-- Outside FAULTED coherence asks for no recorded cause, and for nothing else. -/
theorem coherent_of_unrecorded (hr : t.run ≠ .faulted) (hf : t.fault.first = none) : t.FaultCoherent := by
  constructor
  case recorded => simp [hr, hf]
  all_goals exact fun h => absurd h hr

/-- An event in a part that is not FAULTED, which raises no fault. -/
theorem coherent_of_working (h : s.FaultCoherent) (hs : s.run ≠ .faulted) (hr : t.run ≠ .faulted)
    (hf : t.fault = s.fault) : t.FaultCoherent := by
  refine coherent_of_unrecorded hr ?_
  rw [hf]
  exact Option.not_isSome_iff_eq_none.1 (mt h.recorded.2 hs)

/-- An event in a part that works (RUNNING or HALTING), which leaves the run state as it is. -/
theorem coherent_of_active (h : s.FaultCoherent) (ha : active s = true) (hr : t.run = s.run) (hf : t.fault = s.fault) :
    t.FaultCoherent :=
  coherent_of_working h (run_ne_faulted_of_active ha) (hr ▸ run_ne_faulted_of_active ha) hf

/-- R165: nothing happens of itself in FAULTED: no session waits. -/
theorem still_of_faulted (h : s.FaultCoherent) (hr : s.run = .faulted) : s.still :=
  ⟨by simp [active, hr], h.session hr⟩

/-- An operation that raises no fault and does nothing where nothing happens of itself. -/
theorem coherent_of_still (h : s.FaultCoherent) (hr : s.run ≠ .faulted → t.run ≠ .faulted) (hf : t.fault = s.fault)
    (hs : s.still → t = s) : t.FaultCoherent := by
  by_cases hrun : s.run = .faulted
  · rw [hs (still_of_faulted h hrun)]
    exact h
  · exact coherent_of_working h hrun (hr hrun) hf

theorem run_ne_faulted_of_session (h : s.FaultCoherent) {z : Session} (hz : s.session = some z) : s.run ≠ .faulted := by
  intro hr
  rw [h.session hr] at hz
  cases hz

/-! ## What the part does of itself -/

theorem settle_run_ne_faulted (h : s.run ≠ .faulted) : (settle s).run ≠ .faulted := by
  rcases (settle_onward s).run with hr | ⟨-, hr⟩
  · simpa [hr] using h
  · simp [hr]

theorem settle_coherent (h : s.FaultCoherent) : (settle s).FaultCoherent :=
  coherent_of_still h settle_run_ne_faulted (by simp) settle_of_still

theorem elapse_coherent (h : s.FaultCoherent) (n : Nat) : (elapse n s).FaultCoherent := by
  constructor
  case recorded => exact h.recorded
  case grant => exact h.grant
  case session =>
    intro hr
    have hnone : s.session = none := h.session hr
    simp [elapse, hnone]
  case shelf => exact h.shelf
  case tower => exact h.tower
  case timers =>
    intro hr
    obtain ⟨hwarmup, hwindow, hstall, hmotion, heject, hdelivery⟩ := h.timers hr
    simp [Timers.elapse, countDown, hwarmup, hwindow, hstall, hmotion, heject, hdelivery]

/-! ## Faults (R165, R166) -/

theorem freeHeldTower_phase : (freeHeldTower s).tower.phase ≠ .held := by
  unfold freeHeldTower
  split <;> simp_all

theorem faultSession_timers : (faultSession s).timers = s.timers := by
  unfold faultSession
  split
  next z _ => cases ht : z.towerTaken <;> simp [endSession_eq, sessionGone, ht]
  next => rfl

/-- R165: the entry into FAULTED records the cause and freezes the part, whatever state it is entered from. -/
theorem enterFaulted_coherent (s : State) (d : FaultDetail) : (enterFaulted s d).FaultCoherent := by
  constructor
  case recorded => simp [enterFaulted]
  case grant => simp [enterFaulted, withdrawGrant_grant]
  case session => simp [enterFaulted, faultSession_session]
  case shelf => simp [enterFaulted]
  case tower => exact fun _ => freeHeldTower_phase
  case timers => simp [enterFaulted, faultSession_timers, freeze]

theorem raiseFault_coherent (h : s.FaultCoherent) (d : FaultDetail) : (raiseFault s d).FaultCoherent := by
  unfold raiseFault
  split
  · exact coherent_of_view h rfl
  · exact enterFaulted_coherent s d

/-! ## The tower, the session and the transmitter -/

theorem retry_coherent (h : s.FaultCoherent) : (retry s).FaultCoherent :=
  coherent_of_still h (by simp) (by simp) fun hs => retry_of_not (.inr hs.1)

theorem endSessionAt_coherent (h : s.FaultCoherent) (p : Nat) (c : EndCause) : (endSessionAt s p c).FaultCoherent :=
  coherent_of_still h (by simp) (by simp) fun hs => by simp [endSessionAt, hs.2]

theorem answerDrawerOpen_coherent (h : s.FaultCoherent) (p : Nat) : (answerDrawerOpen s p).FaultCoherent := by
  refine coherent_of_still h (by simp) (by simp) fun hs => ?_
  unfold answerDrawerOpen
  split
  · exact retry_of_not (.inr hs.1)
  all_goals exact retarget_of_stopped hs.1

theorem afterPockets_coherent (h : s.FaultCoherent) (ps : List Nat) : (afterPockets ps s).FaultCoherent :=
  coherent_of_still h (by simp) (by simp) fun hs => afterPockets_of_still hs ps

theorem noteGrantSending_of_no_grant (l : Link) (hg : s.grant = none) : (noteGrantSending s l).grant = none := by
  unfold noteGrantSending
  split <;> simp [hg]

/-- R47: with no grant outstanding a finished frame starts no feed window. -/
theorem finishFrame_of_no_grant (l : Link) (hg : s.grant = none) :
    (finishFrame s l).grant = none ∧ (finishFrame s l).timers = s.timers := by
  unfold finishFrame
  split
  · exact ⟨hg, rfl⟩
  · simp only [hg]
    exact ⟨noteGrantSending_of_no_grant l (by simpa using hg), by simp⟩

theorem finishFrame_coherent (h : s.FaultCoherent) (l : Link) : (finishFrame s l).FaultCoherent := by
  by_cases hr : s.run = .faulted
  · obtain ⟨hgrant, htimers⟩ := finishFrame_of_no_grant l (h.grant hr)
    exact coherent_of_view h (by simp [faultView, hgrant, htimers, h.grant hr])
  · exact coherent_of_working h hr (by simpa using hr) (by simp)

end Lemmas

end Sys2Proof.Machine.RunStates
end


section
/-!
PROOFS. FAULTED stays the state with a recorded cause, and frozen, through every command and every step (R165, R166).
-/
namespace Sys2Proof.Machine.RunStates

open SetAssembly PocketRecords

section Commands
variable {s t : State} {l : Link} {f : Frame}

/-- The answer is no next state that is not coherent. -/
def Coherent (o : Out) : Prop := ∀ t, o = .next t → t.FaultCoherent

theorem coherent_next (h : t.FaultCoherent) : Coherent (.next t) := by
  intro u hu
  cases hu
  exact h

theorem coherent_fault (r : Fault) : Coherent (.fault r) := fun _ h => nomatch h

/-- A command that the frame handler takes. -/
theorem coherent_handle (h : s.FaultCoherent) {wanted : Frame → Bool} {owner : Link → Frame → State → State}
    (ho : ∀ f x, x.FaultCoherent → (owner l f x).FaultCoherent) : Coherent (.next (handle wanted owner l s)) := by
  have htaken : (takeFrame s l).FaultCoherent := coherent_of_view h rfl
  refine coherent_next ?_
  rcases handle_cases s wanted owner l with hs | ⟨f, -, -, hs | hs⟩
  · rwa [hs]
  · exact hs ▸ ho f _ htaken
  · exact hs ▸ coherent_of_view htaken (by simp [faultView])

/-! ## Requests -/

theorem ask_coherent (h : s.FaultCoherent) (code : Nat) (contents : List Data → State → Except Reason (List Data)) :
    (ask code contents l f s).FaultCoherent := by
  refine coherent_of_view h ?_
  unfold ask answerAsk
  split <;> simp [faultView]

theorem ownOpenJob_coherent (h : s.FaultCoherent) : (ownOpenJob l f s).FaultCoherent := by
  refine coherent_of_view h ?_
  unfold ownOpenJob
  dsimp only
  split <;> simp [faultView]

theorem ownCloseJob_coherent (h : s.FaultCoherent) : (ownCloseJob l f s).FaultCoherent := by
  refine coherent_of_view h ?_
  unfold ownCloseJob
  dsimp only
  repeat' split
  all_goals simp [faultView]

/-- R142: the reactions of the pocket records touch nothing that coherence reads. -/
theorem foldl_reactPocket_view (ps : List (Nat × PocketConfig)) : ∀ s : State,
    faultView (ps.foldl (fun x e => reactPocket x e.1 e.2) s) = faultView s := by
  induction ps with
  | nil => exact fun _ => rfl
  | cons x ps ih => exact fun s => (ih _).trans (by simp [faultView])

theorem applyCommit_coherent (h : s.FaultCoherent) : (applyCommit s).FaultCoherent := by
  have happlied : ({ s with tables := s.tables.apply } : State).FaultCoherent := coherent_of_view h rfl
  let pockets := readyPockets 0 s.tables.pockets
  have hreacted := coherent_of_view happlied (foldl_reactPocket_view pockets _)
  exact coherent_of_view (afterPockets_coherent hreacted (pockets.map (·.1))) (by simp [applyCommit, faultView, pockets])

theorem ownCommit_coherent (h : s.FaultCoherent) (pins : PocketPins) : (ownCommit pins l f s).FaultCoherent := by
  unfold ownCommit
  dsimp only
  split
  · exact coherent_of_view h (by simp [faultView])
  · exact settle_coherent (applyCommit_coherent (coherent_of_view h (by simp [faultView])))

/-- R126: an INSERT in FAULTED is refused. -/
theorem run_ne_faulted_of_judgeInsert {job seat grade expected : Nat} {x : Job × (Nat × Place)}
    (hj : judgeInsert s job seat grade expected = .ok x) : s.run ≠ .faulted := by
  intro hr
  simp [judgeInsert, hr] at hj

theorem ownInsert_coherent (h : s.FaultCoherent) : (ownInsert l f s).FaultCoherent := by
  unfold ownInsert
  dsimp only
  split
  next => exact coherent_of_view h (by simp [faultView])
  next j target hj =>
    have hworks := run_ne_faulted_of_judgeInsert hj
    exact settle_coherent (coherent_of_working h hworks (by simpa using hworks) (by simp))

theorem ownRun_coherent (h : s.FaultCoherent) : (ownRun l f s).FaultCoherent := by
  unfold ownRun
  split
  next hr => exact coherent_of_working h (by simp [hr]) (by simp [changeRun]) (by simp)
  all_goals exact coherent_of_view h (by simp [faultView])

theorem haltCheck_run_ne_faulted (h : s.run ≠ .faulted) : (haltCheck s).run ≠ .faulted := by
  rcases (haltCheck_onward s).run with hr | ⟨-, hr⟩ <;> simp [hr, h]

theorem ownStandby_coherent (h : s.FaultCoherent) : (ownStandby l f s).FaultCoherent := by
  unfold ownStandby
  split
  next hr => exact coherent_of_view h (by simp [faultView])
  next hr => exact coherent_of_working h (by simp [hr]) (by simp [changeRun]) (by simp)
  next hr =>
    exact coherent_of_working h (by simp [hr]) (haltCheck_run_ne_faulted (by simp [changeRun])) (by simp)
  next hr => exact coherent_of_view h (by simp [faultView])
  next hr => exact coherent_of_view h (by simp [faultView])

/-- R167: an accepted CLEAR leaves STANDBY with no recorded cause. -/
theorem clearAll_coherent (s : State) : (clearAll s).FaultCoherent := by
  unfold clearAll
  exact coherent_of_unrecorded (by simp [changeRun]) (by simp [changeRun])

theorem ownClear_coherent (h : s.FaultCoherent) (pins : Pins) : (ownClear pins l f s).FaultCoherent := by
  unfold ownClear
  dsimp only
  split
  · exact clearAll_coherent _
  · exact coherent_of_view h (by simp [faultView])

/-! ## The sheet path (R71 to R87) -/

theorem captureLead_coherent (h : s.FaultCoherent) (ha : active s = true) (x : Tick) :
    (captureLead s l x).FaultCoherent := by
  unfold captureLead
  split
  · exact raiseFault_coherent h _
  · split <;> exact coherent_of_active h ha (by simp) (by simp)

theorem active_of_entryTaken (h : entryTaken s l = true) : active s = true := by
  rw [entryTaken, Bool.and_eq_true] at h
  exact h.1

theorem leadCapture_coherent (h : s.FaultCoherent) (x : Tick) : Coherent (execLeadCapture l x s) := by
  have hsensed : (senseEntry s l true).FaultCoherent := coherent_of_view h (by simp [faultView])
  unfold execLeadCapture
  refine coherent_next ?_
  split
  next htaken =>
    have hactive := active_of_entryTaken htaken
    have hcaught : active (advanceTo x (senseEntry s l true)) = true := (active_congr (by simp)).trans hactive
    exact settle_coherent (captureLead_coherent (elapse_coherent hsensed _) hcaught x)
  next => exact hsensed

theorem trailCapture_coherent (h : s.FaultCoherent) (x : Tick) : Coherent (execTrailCapture l x s) := by
  have hsensed : (senseEntry s l false).FaultCoherent := coherent_of_view h (by simp [faultView])
  unfold execTrailCapture
  refine coherent_next ?_
  split
  · exact coherent_of_view (elapse_coherent hsensed _) rfl
  · exact hsensed

theorem gateDecision_coherent (h : s.FaultCoherent) : Coherent (execGateDecision s) := by
  unfold execGateDecision
  refine coherent_next ?_
  split
  next => exact h
  next e _ =>
    split
    next ha => exact settle_coherent (coherent_of_active h ha (by simp) (by simp))
    next => exact h

theorem missDeadline_coherent (h : s.FaultCoherent) (i : Nat) (e : PathEntry) (x : Tick) :
    (missDeadline s i e x).FaultCoherent := by
  have hreached : (if active s then advanceTo x s else s).FaultCoherent := by
    split
    · exact elapse_coherent h _
    · exact h
  unfold missDeadline
  dsimp only
  refine raiseFault_coherent ?_ _
  exact coherent_of_view hreached rfl

theorem arrivalDeadline_coherent (h : s.FaultCoherent) (i : Nat) : Coherent (execArrivalDeadline i s) := by
  unfold execArrivalDeadline
  refine coherent_next ?_
  split
  · exact h
  · split
    · exact h
    · split
      · exact missDeadline_coherent h _ _ _
      · exact h

/-- R72: no lead edge is taken beyond the gate in FAULTED. -/
theorem run_ne_faulted_of_exitTaken (h : exitTaken s = true) : s.run ≠ .faulted := by
  intro hr
  simp [exitTaken, hr] at h

theorem sensorFault_coherent (h : s.FaultCoherent) (x : PathSensor) : (sensorFault s x).FaultCoherent :=
  raiseFault_coherent h _

theorem stLeadEdge_coherent (h : s.FaultCoherent) : Coherent (execStLeadEdge s) := by
  unfold execStLeadEdge
  refine coherent_next ?_
  split
  next htaken =>
    have hworks : s.run ≠ .faulted := run_ne_faulted_of_exitTaken htaken
    split
    · refine sensorFault_coherent ?_ _
      exact coherent_of_view h rfl
    · exact settle_coherent (coherent_of_working h hworks (by simpa using hworks) (by simp))
  next => exact coherent_of_view h rfl

theorem spLeadEdge_coherent (h : s.FaultCoherent) : Coherent (execSpLeadEdge s) := by
  unfold execSpLeadEdge
  refine coherent_next ?_
  split
  next htaken =>
    have hworks : s.run ≠ .faulted := run_ne_faulted_of_exitTaken htaken
    split
    · refine sensorFault_coherent ?_ _
      exact coherent_of_view h rfl
    · exact settle_coherent (coherent_of_working h hworks (by simpa using hworks) (by simp))
  next => exact coherent_of_view h rfl

/-! ## The sequencer and the shelf (R49, R53, R62, R63) -/

theorem feedWindowExpiry_coherent (h : s.FaultCoherent) : Coherent (execFeedWindowExpiry s) := by
  unfold execFeedWindowExpiry
  refine coherent_next ?_
  split
  next g _ hg =>
    have hworks : s.run ≠ .faulted := fun hr => by simp [h.grant hr] at hg
    split
    · exact settle_coherent (coherent_of_working h hworks (by simpa using hworks) (by simp))
    · exact h
  next => exact h

theorem stallTimerExpiry_coherent (h : s.FaultCoherent) : Coherent (execStallTimerExpiry s) := by
  unfold execStallTimerExpiry
  refine coherent_next ?_
  split
  next r _ hr =>
    obtain ⟨-, -, -, -, hactive⟩ := assemblingSet_eq_some_iff.1 hr
    exact settle_coherent (coherent_of_active h hactive (by simp) (by simp))
  next => exact h

theorem shelfUp_coherent (h : s.FaultCoherent) : Coherent (execShelfUp s) := by
  unfold execShelfUp
  refine coherent_next ?_
  split
  next r hm _ =>
    have hworks : s.run ≠ .faulted := fun hr => by simp [h.shelf hr] at hm
    exact settle_coherent (coherent_of_working h hworks (by simpa using hworks) (by simp))
  next => exact h

theorem shelfDown_coherent (h : s.FaultCoherent) : Coherent (execShelfDown s) := by
  unfold execShelfDown
  refine coherent_next ?_
  split
  next r rs hm _ =>
    have hworks : s.run ≠ .faulted := fun hr => by simp [h.shelf hr] at hm
    exact settle_coherent (coherent_of_working h hworks (by simpa using hworks) (by simp))
  next => exact h

/-- An expiry that raises a fault while its timer runs. -/
theorem faultExpiry_coherent (h : s.FaultCoherent) (timer : Option Nat) (d : FaultDetail) :
    Coherent (.next (match timer with | some _ => raiseFault s d | none => s)) := by
  cases timer with
  | none => exact coherent_next h
  | some _ => exact coherent_next (raiseFault_coherent h d)

/-! ## The stapler (R99 to R101, R105) -/

/-- R105: in FAULTED the tray is not told. -/
theorem run_ne_faulted_of_reportTaken (h : reportTaken s = true) : s.run ≠ .faulted := by
  intro hr
  simp [reportTaken, hr] at h

theorem staplerCompletion_coherent (h : s.FaultCoherent) : Coherent (execStaplerCompletion s) := by
  have hfired : (staplesLowTest (finishFire s) s.stapler.cartridge).FaultCoherent :=
    coherent_of_view h (by simp [faultView, finishFire, frozenTimers])
  unfold execStaplerCompletion
  refine coherent_next ?_
  split
  · dsimp only
    split
    next htaken =>
      have hworks := run_ne_faulted_of_reportTaken htaken
      exact settle_coherent (coherent_of_working h hworks (by simpa using hworks) (by simp))
    next => exact hfired
  all_goals exact h

theorem completionTimerExpiry_coherent (h : s.FaultCoherent) : Coherent (execCompletionTimerExpiry s) := by
  unfold execCompletionTimerExpiry
  refine coherent_next ?_
  split
  next o _ _ =>
    split
    next htaken =>
      have hworks := run_ne_faulted_of_reportTaken htaken
      exact settle_coherent (coherent_of_working h hworks (by simpa using hworks) (by simp))
    next => exact coherent_of_view h (by simp [faultView, jamStapler, frozenTimers])
  next => exact h

theorem endRecovery_view : faultView (endRecovery s) = faultView s := by
  unfold endRecovery
  split <;> rfl

theorem recoveryWindowEnd_coherent (h : s.FaultCoherent) : Coherent (execRecoveryWindowEnd s) := by
  unfold execRecoveryWindowEnd
  refine coherent_next ?_
  split
  · exact coherent_of_view h endRecovery_view
  · exact h

theorem staplerHome_coherent (h : s.FaultCoherent) : Coherent (execStaplerHome s) := by
  unfold execStaplerHome
  refine coherent_next ?_
  split
  · exact coherent_of_view h rfl
  all_goals exact h

/-! ## The tower, the pockets and the insert session (R103 to R134) -/

theorem setReceived_coherent (h : s.FaultCoherent) : Coherent (execSetReceived s) := by
  unfold execSetReceived
  refine coherent_next ?_
  split
  next x hx =>
    unfold segmentArriving at hx
    split at hx
    · split at hx
      next ha => exact settle_coherent (coherent_of_active h ha (by simp) (by simp))
      next => cases hx
    · cases hx
  next => exact h

theorem depositComplete_coherent (h : s.FaultCoherent) : Coherent (execDepositComplete s) := by
  unfold execDepositComplete
  refine coherent_next ?_
  split
  next x hx =>
    unfold depositing at hx
    split at hx
    · split at hx
      next ha => exact settle_coherent (coherent_of_active h ha (by simp) (by simp))
      next => cases hx
    · cases hx
  next => exact h

theorem drawerOpen_coherent (h : s.FaultCoherent) (p : Nat) : Coherent (execDrawerOpen p s) := by
  have hwithdrawn : (withdrawPocket (senseDrawer s p false) p).FaultCoherent :=
    coherent_of_view h (by simp [faultView])
  unfold execDrawerOpen
  split
  · refine coherent_next ?_
    split
    · exact settle_coherent (endSessionAt_coherent (answerDrawerOpen_coherent hwithdrawn p) p _)
    · exact coherent_of_view h rfl
  · exact coherent_fault _

theorem drawerClose_coherent (h : s.FaultCoherent) (p : Nat) (empty : Bool) : Coherent (execDrawerClose p empty s) := by
  unfold execDrawerClose
  split
  · refine coherent_next ?_
    split
    · exact settle_coherent (retry_coherent (coherent_of_view h (by simp [faultView])))
    · exact coherent_of_view h rfl
  · exact coherent_fault _

theorem floorEmpty_coherent (h : s.FaultCoherent) (p : Nat) : Coherent (execFloorEmpty p s) := by
  unfold execFloorEmpty
  split
  · refine coherent_next ?_
    split
    · exact settle_coherent (retry_coherent (coherent_of_view h (by simp [faultView])))
    · exact coherent_of_view h rfl
  · exact coherent_fault _

theorem positioningSession_session {z : Session} (h : positioningSession s = some z) : s.session = some z := by
  unfold positioningSession at h
  repeat' split at h
  all_goals simp_all

theorem activeSession_session {z : Session} (h : activeSession s = some z) : s.session = some z := by
  unfold activeSession at h
  repeat' split at h
  all_goals simp_all

theorem timedSession_session {k : SessionTimer} {z : Session} (h : timedSession s k = some z) : s.session = some z := by
  unfold timedSession at h
  repeat' split at h
  all_goals simp_all

theorem insertPosition_coherent (h : s.FaultCoherent) : Coherent (execInsertPosition s) := by
  unfold execInsertPosition
  refine coherent_next ?_
  split
  next z hz =>
    have hworks := run_ne_faulted_of_session h (positioningSession_session hz)
    exact coherent_of_working h hworks (by simpa using hworks) (by simp)
  next => exact h

theorem positioningTimerExpiry_coherent (h : s.FaultCoherent) : Coherent (execPositioningTimerExpiry s) := by
  unfold execPositioningTimerExpiry
  refine coherent_next ?_
  split
  · exact raiseFault_coherent h _
  · exact h

theorem siEvent_coherent (h : s.FaultCoherent) : Coherent (execSiEvent s) := by
  unfold execSiEvent
  refine coherent_next ?_
  split
  next z hz =>
    have hworks := run_ne_faulted_of_session h (activeSession_session hz)
    exact settle_coherent (coherent_of_working h hworks (by simpa using hworks) (by simp))
  next => exact h

theorem insDone_coherent (h : s.FaultCoherent) : Coherent (execInsDone s) := by
  unfold execInsDone
  refine coherent_next ?_
  split
  next z hz =>
    have hworks := run_ne_faulted_of_session h (activeSession_session hz)
    exact settle_coherent (coherent_of_working h hworks (by simpa using hworks) (by simp))
  next => exact h

/-- R132: the expiry of the session's timer `k`, which ends the session with cause `c`. -/
theorem sessionExpiry_coherent (h : s.FaultCoherent) (k : SessionTimer) (c : EndCause) :
    Coherent (.next (match timedSession s k with | some z => settle (endSession s z c) | none => s)) := by
  refine coherent_next ?_
  split
  next z hz =>
    have hworks := run_ne_faulted_of_session h (timedSession_session hz)
    exact settle_coherent (coherent_of_working h hworks (by simpa using hworks) (by simp))
  next => exact h

theorem homeEvent_coherent (h : s.FaultCoherent) : Coherent (execHomeEvent s) := by
  unfold execHomeEvent
  refine coherent_next ?_
  split
  next hreturns =>
    obtain ⟨hheld, -⟩ := InsertSession.elevatorReturning_iff.1 hreturns
    have hworks : s.run ≠ .faulted := fun hr => h.tower hr hheld
    exact settle_coherent (coherent_of_working h hworks (by simpa using hworks) (by simp))
  next => exact h

/-! ## The run controller and the links (R149 to R153, R163, R169) -/

theorem atSpeed_coherent (h : s.FaultCoherent) : Coherent (execAtSpeed s) := by
  unfold execAtSpeed
  refine coherent_next ?_
  split
  next hr =>
    exact settle_coherent (coherent_of_working h (by simp [hr]) (by simp [startRunning, changeRun]) (by simp))
  all_goals exact h

theorem startUpReads_coherent (h : s.FaultCoherent) : (startUpReads s).FaultCoherent := by
  have hread (x : State) (hx : x.FaultCoherent) (b : Bool) (d : FaultDetail) :
      (if b then raiseFault x d else x).FaultCoherent := by
    cases b
    · exact hx
    · exact raiseFault_coherent hx d
  exact hread _ (hread s h _ _) _ _

/-- R169: a start leaves STANDBY with no recorded cause, before the sensors are read. -/
theorem startKept_coherent (pins : Pins) (s : State) : (startKept pins s).FaultCoherent := by
  apply coherent_of_unrecorded <;> simp [startKept, rescanPockets, keptPart, clearedPart, State.reset]

theorem startCleared_coherent (pins : Pins) (s : State) : (startCleared pins s).FaultCoherent := by
  apply coherent_of_unrecorded <;> simp [startCleared, clearedPart, State.reset]

theorem powerOn_coherent (pins : Pins) (s : State) : Coherent (execPowerOn pins s) := by
  unfold execPowerOn
  refine coherent_next (startUpReads_coherent ?_)
  split
  · exact startKept_coherent pins s
  · exact startCleared_coherent pins s

theorem receiveChr_coherent (h : s.FaultCoherent) (c : Chr) : (receiveChr l c s).FaultCoherent :=
  coherent_of_view h (by simp [faultView])

theorem unknownKind_coherent (h : s.FaultCoherent) : Coherent (execUnknownKind l s) := by
  unfold execUnknownKind
  refine coherent_next ?_
  split
  · exact h
  · split
    · exact h
    · exact coherent_of_view h (by simp [faultView])

theorem transmitComplete_coherent (h : s.FaultCoherent) : Coherent (execTransmitComplete l s) := by
  unfold execTransmitComplete
  refine coherent_next ?_
  split
  · exact settle_coherent (finishFrame_coherent h l)
  · exact finishFrame_coherent h l

/-! ## Every command -/

/-- R165, R166: no command leaves a state that is not coherent. -/
theorem exec_coherent (h : s.FaultCoherent) (c : Instr) : Coherent (exec c s) := by
  cases c with
  | frameReceived l => exact coherent_next (receiveChr_coherent h _)
  | unknownKind l => exact unknownKind_coherent h
  | announce l => exact coherent_handle h fun f x hx => settle_coherent (coherent_of_view hx (by simp [faultView]))
  | openJob l => exact coherent_handle h fun f x hx => ownOpenJob_coherent hx
  | closeJob l => exact coherent_handle h fun f x hx => ownCloseJob_coherent hx
  | loadClass l | loadSeats l | loadPlan l | loadGrade l | loadPocket l | loadTransport l =>
    exact coherent_handle h fun f x hx => coherent_of_view hx (by simp [faultView])
  | commit l pins => exact coherent_handle h fun f x hx => ownCommit_coherent hx pins
  | insert l => exact coherent_handle h fun f x hx => ownInsert_coherent hx
  | run l => exact coherent_handle h fun f x hx => ownRun_coherent hx
  | standby l => exact coherent_handle h fun f x hx => ownStandby_coherent hx
  | clear l pins => exact coherent_handle h fun f x hx => ownClear_coherent hx pins
  | markRetained l =>
    exact coherent_handle h fun f x hx => coherent_of_view hx (by simp [faultView, ownMarkRetained])
  | clearCounts l => exact coherent_handle h fun f x hx => coherent_of_view hx (by simp [faultView])
  | askStatus l | askJob l | askPocket l | askQueue l | askCapture l | askEntry l | askSet l =>
    exact coherent_handle h fun f x hx => ask_coherent hx _ _
  | transmitComplete l => exact transmitComplete_coherent h
  | leadCapture l x => exact leadCapture_coherent h x
  | trailCapture l x => exact trailCapture_coherent h x
  | gateDecision => exact gateDecision_coherent h
  | arrivalDeadline i => exact arrivalDeadline_coherent h i
  | stLeadEdge => exact stLeadEdge_coherent h
  | spLeadEdge => exact spLeadEdge_coherent h
  | stSpTrailEdge x => exact coherent_next (coherent_of_view h rfl)
  | binEmptied => exact coherent_next (settle_coherent (coherent_of_view h (by simp [faultView])))
  | feedWindowExpiry => exact feedWindowExpiry_coherent h
  | stallTimerExpiry => exact stallTimerExpiry_coherent h
  | shelfUp => exact shelfUp_coherent h
  | shelfDown => exact shelfDown_coherent h
  | motionTimerExpiry => exact faultExpiry_coherent h s.timers.motion FaultCause.shelfJam.plain
  | staplerCompletion => exact staplerCompletion_coherent h
  | completionTimerExpiry => exact completionTimerExpiry_coherent h
  | recoveryWindowEnd => exact recoveryWindowEnd_coherent h
  | staplerHome => exact staplerHome_coherent h
  | cartridgeInserted => exact coherent_next (coherent_of_view h (by simp [faultView]))
  | setReceived => exact setReceived_coherent h
  | ejectTimerExpiry => exact faultExpiry_coherent h s.timers.eject FaultCause.towerJam.plain
  | depositComplete => exact depositComplete_coherent h
  | deliveryTimerExpiry => exact faultExpiry_coherent h s.timers.delivery FaultCause.towerJam.plain
  | drawerOpen p => exact drawerOpen_coherent h p
  | drawerClose p empty => exact drawerClose_coherent h p empty
  | floorEmpty p => exact floorEmpty_coherent h p
  | stackerEmptied => exact coherent_next (settle_coherent (retry_coherent (coherent_of_view h (by simp [faultView]))))
  | insertPosition => exact insertPosition_coherent h
  | positioningTimerExpiry => exact positioningTimerExpiry_coherent h
  | siEvent => exact siEvent_coherent h
  | insDone => exact insDone_coherent h
  | firstSheetTimerExpiry => exact sessionExpiry_coherent h .firstSheet .noFirstSheet
  | betweenSheetsTimerExpiry => exact sessionExpiry_coherent h .betweenSheets .sheetGap
  | homeEvent => exact homeEvent_coherent h
  | atSpeed => exact atSpeed_coherent h
  | warmupTimerExpiry => exact faultExpiry_coherent h s.timers.warmup FaultCause.warmup.plain
  | retLow => exact coherent_next (coherent_of_view h (by simp [faultView]))
  | powerOn pins => exact powerOn_coherent pins s
  | resetLine pins => exact coherent_next (startUpReads_coherent (startKept_coherent pins s))
  | characterReceived l c => exact coherent_next (receiveChr_coherent h c)

/-- R71: what the part does by its own clock: a due command, or one tick. -/
theorem selfStep_coherent (h : s.FaultCoherent) : Coherent (selfStep s) := by
  have hraced : s.raced.FaultCoherent := coherent_of_view h rfl
  unfold selfStep
  split
  · exact coherent_next (elapse_coherent h 1)
  · exact exec_coherent h _
  · exact exec_coherent hraced _

end Commands

/-- Settles O8: every command keeps coherence (`exec_coherent`), and so does a tick. -/
theorem everyStepKeepsTheFaultCoherent : Obligations.EveryStepKeepsTheFaultCoherent := by
  unfold Obligations.EveryStepKeepsTheFaultCoherent
  intro s t h hstep
  unfold step at hstep
  split at hstep
  next => exact selfStep_coherent h t hstep
  next c rest _ =>
    have hpending : (s.withPending rest).FaultCoherent := coherent_of_view h rfl
    exact exec_coherent hpending c t hstep

end Sys2Proof.Machine.RunStates
end

section
/-!
PROOFS. RUN, STANDBY, the at-speed event and the warm-up timer, by run state (R162 to R164).
-/
namespace Sys2Proof.Machine.RunStates

open SetAssembly ParkingShelf

section Lemmas
variable {s : State} {l : Link} {f : Frame}

/-! ## The at-speed event (R163) -/

theorem startRunning_eq (h : s.run = .warming) : startRunning s = notifyPlain
    { s with run := .running, timers := { s.timers with warmup := none } } (.stateChange .warming .running) := by
  simp [startRunning, changeRun, h]

theorem sameBesides_startRunning : s.SameBesides (startRunning s) := by constructor <;> simp [startRunning, changeRun]

theorem startRunning_run : (startRunning s).run = .running := by simp [startRunning, changeRun]

theorem startRunning_warmup : (startRunning s).timers.warmup = none := by simp [startRunning, changeRun]

/-- R164: only a HALTING part ends RUNNING of itself. -/
theorem settle_run_of_running (h : s.run = .running) : (settle s).run = .running := by
  rcases (settle_onward s).run with hr | ⟨hr, -⟩
  · simpa [h] using hr
  · simp [h] at hr

/-- R133: an end of the session starts no timer but the elevator's return. -/
theorem endSession_warmup (z : Session) (c : EndCause) : (endSession s z c).timers.warmup = s.timers.warmup := by
  have hgone : (InsertSession.sessionGone s z c).timers.warmup = s.timers.warmup := by
    unfold InsertSession.sessionGone
    split
    · rfl
    · split <;> rfl
  simp [InsertSession.endSession_eq, hgone]

theorem sessionTakesTower_warmup : (sessionTakesTower s).timers.warmup = s.timers.warmup := by
  unfold sessionTakesTower
  split
  · split
    · split
      · exact endSession_warmup _ _
      · rfl
    · rfl
  · rfl

theorem settle_warmup : (settle s).timers.warmup = s.timers.warmup :=
  (settle_onward s).warmup.trans sessionTakesTower_warmup

theorem exec_atSpeed_of_warming (h : s.run = .warming) : exec .atSpeed s = .next (settle (startRunning s)) := by
  have harm : exec .atSpeed s = execAtSpeed s := rfl
  rw [harm, execAtSpeed, h]

theorem exec_atSpeed_of_not_warming (h : s.run ≠ .warming) : exec .atSpeed s = .next s := by
  have harm : exec .atSpeed s = execAtSpeed s := rfl
  rw [harm, execAtSpeed]
  cases hr : s.run with
  | warming => exact absurd hr h
  | standby | running | halting | faulted => rfl

/-! ## RUN and STANDBY (R163, R164) -/

theorem exec_run (h : s.requests l f 0x06) : exec (.run l) s = .next (ownRun l f (takeFrame s l)) := by
  obtain ⟨hoffered, hkind, hlength⟩ := h
  exact congrArg _ (handle_request s hoffered (by simp [ofKind, hkind, kindRun]) hlength)

theorem exec_standby (h : s.requests l f 0x07) : exec (.standby l) s = .next (ownStandby l f (takeFrame s l)) := by
  obtain ⟨hoffered, hkind, hlength⟩ := h
  exact congrArg _ (handle_request s hoffered (by simp [ofKind, hkind, kindStandby]) hlength)

theorem ownRun_of_standby (h : s.run = .standby) : ownRun l f s = notifyPlain
    { answerTo { s with timers := { s.timers with warmup := some 30000 } } l f .accepted [] with run := .warming }
    (.stateChange .standby .warming) := by
  simp [ownRun, h, changeRun, msTicks, Config.warmupMs, Config.ticksPerMs]

theorem ownRun_of_not_standby (h : s.run ≠ .standby) :
    ownRun l f s = answerTo s l f (.refused .badState) [] := by
  unfold ownRun
  cases hr : s.run with
  | standby => exact absurd hr h
  | warming | running | halting | faulted => rfl

theorem ownStandby_of_standby (h : s.run = .standby) : ownStandby l f s = answerTo s l f .done [] := by
  simp [ownStandby, h]

theorem ownStandby_of_warming (h : s.run = .warming) : ownStandby l f s = notifyPlain
    { answerTo { s with timers := { s.timers with warmup := none } } l f .done [] with run := .standby }
    (.stateChange .warming .standby) := by
  simp [ownStandby, h, changeRun]

theorem ownStandby_of_halting (h : s.run = .halting) : ownStandby l f s = answerTo s l f .accepted [] := by
  simp [ownStandby, h]

theorem ownStandby_of_faulted (h : s.run = .faulted) : ownStandby l f s = answerTo s l f (.refused .badState) [] := by
  simp [ownStandby, h, refuse]

/-- R164: what a halting part still has to end. -/
def Halted (s : State) : Prop :=
  s.tray.phase = .empty ∧ s.path.entries = [] ∧ (s.tower.phase = .idle ∨ s.tower.phase = .held) ∧ s.grant = none

theorem haltDone_halting_iff : haltDone { s with run := .halting } = true ↔ Halted s :=
  haltDone_iff.trans (and_iff_right rfl)

theorem ownStandby_of_running (h : s.run = .running) : ownStandby l f s = haltCheck (changeRun
    (answerTo s l f (if haltDone { s with run := .halting } = true then .done else .accepted) []) .halting) := by
  simp only [ownStandby, h]

theorem ownStandby_of_not_halted (h : s.run = .running) (hd : ¬Halted s) : ownStandby l f s = notifyPlain
    { answerTo s l f .accepted [] with run := .halting } (.stateChange .running .halting) := by
  have hcheck : ¬haltDone (changeRun (answerTo s l f .accepted []) .halting) = true := fun h =>
    hd (by simpa [changeRun, Halted] using (haltDone_iff.1 h).2)
  rw [ownStandby_of_running h, if_neg (mt haltDone_halting_iff.1 hd), haltCheck, if_neg hcheck]
  simp [changeRun, h]

theorem ownStandby_of_halted (h : s.run = .running) (hd : Halted s) : ownStandby l f s = notifyPlain
    { notifyPlain { answerTo s l f .done [] with run := .halting } (.stateChange .running .halting) with run := .standby }
    (.stateChange .halting .standby) := by
  have hcheck : haltDone (changeRun (answerTo s l f .done []) .halting) = true :=
    haltDone_iff.2 ⟨by simp [changeRun], by simpa [changeRun, Halted] using hd⟩
  rw [ownStandby_of_running h, if_pos (haltDone_halting_iff.2 hd), haltCheck, if_pos hcheck]
  simp [changeRun, h]

end Lemmas

/-- Settles O27: each request and event from the lemma about its run state. -/
theorem runStateCommands : Obligations.RunStateCommands := by
  unfold Obligations.RunStateCommands
  intro s l f
  refine ⟨fun hw => ⟨?_, fun ht => ?_⟩, exec_atSpeed_of_not_warming, fun hreq => ?_, fun hreq => ?_⟩
  · refine ⟨_, exec_atSpeed_of_warming hw, sameBesides_trans sameBesides_startRunning sameBesides_settle,
      settle_run_of_running startRunning_run, settle_warmup.trans startRunning_warmup, ?_⟩
    rw [startRunning_eq hw]
  · obtain ⟨n, hn⟩ := Option.ne_none_iff_exists'.1 ht
    exact exec_warmupTimerExpiry hn
  · rw [exec_run hreq]
    exact ⟨fun hr => congrArg _ (ownRun_of_standby hr), fun hr => congrArg _ (ownRun_of_not_standby hr)⟩
  · rw [exec_standby hreq]
    refine ⟨fun hr => ?_, fun hr => ?_, fun hr => ?_, fun hr => ?_, fun hr => ⟨fun hd => ?_, fun hd => ?_⟩⟩
    · exact congrArg _ (ownStandby_of_standby hr)
    · exact congrArg _ (ownStandby_of_warming hr)
    · exact congrArg _ (ownStandby_of_halting hr)
    · exact congrArg _ (ownStandby_of_faulted hr)
    · exact congrArg _ (ownStandby_of_not_halted hr hd)
    · exact congrArg _ (ownStandby_of_halted hr hd)

end Sys2Proof.Machine.RunStates
end

section
/-!
PROOFS. The retention-valid flag: the two events that change it, what a start reads of it, and ASK STATUS (R170).
-/
namespace Sys2Proof.Machine.RunStates

section Lemmas
variable {s t : State} {l : Link} {f : Frame}

/-- The answer is no next state with another retention-valid flag. -/
def KeepsRetention (s : State) (o : Out) : Prop := ∀ t, o = .next t → t.retentionValid = s.retentionValid

theorem keepsRetention_next (h : t.retentionValid = s.retentionValid) : KeepsRetention s (.next t) := by
  intro u hu
  cases hu
  exact h

theorem keepsRetention_fault (r : Fault) : KeepsRetention s (.fault r) := fun _ h => nomatch h

theorem keepsRetention_handle {wanted : Frame → Bool} {owner : Link → Frame → State → State}
    (ho : ∀ f x, (owner l f x).retentionValid = x.retentionValid) :
    KeepsRetention s (.next (handle wanted owner l s)) := by
  refine keepsRetention_next ?_
  rcases handle_cases s wanted owner l with hs | ⟨f, -, -, hs | hs⟩
  · rw [hs]
  · simp [hs, ho]
  · simp [hs]

/-! ## Requests that leave the flag as it is -/

theorem ownOpenJob_retention : (ownOpenJob l f s).retentionValid = s.retentionValid := by
  unfold ownOpenJob
  dsimp only
  split <;> simp

theorem ownCloseJob_retention : (ownCloseJob l f s).retentionValid = s.retentionValid := by
  unfold ownCloseJob
  dsimp only
  repeat' split
  all_goals simp

theorem foldl_reactPocket_retention (ps : List (Nat × PocketConfig)) : ∀ s : State,
    (ps.foldl (fun x e => reactPocket x e.1 e.2) s).retentionValid = s.retentionValid := by
  induction ps with
  | nil => exact fun _ => rfl
  | cons x ps ih => exact fun s => (ih _).trans (by simp)

theorem ownCommit_retention (pins : PocketPins) : (ownCommit pins l f s).retentionValid = s.retentionValid := by
  unfold ownCommit
  dsimp only
  split
  · simp
  · simp [applyCommit, foldl_reactPocket_retention]

theorem ownInsert_retention : (ownInsert l f s).retentionValid = s.retentionValid := by
  unfold ownInsert
  dsimp only
  split <;> simp

theorem ownRun_retention : (ownRun l f s).retentionValid = s.retentionValid := by
  unfold ownRun
  split <;> simp [changeRun]

theorem ownStandby_retention : (ownStandby l f s).retentionValid = s.retentionValid := by
  unfold ownStandby
  split <;> simp [changeRun]

theorem ownClear_retention (pins : Pins) : (ownClear pins l f s).retentionValid = s.retentionValid := by
  unfold ownClear
  dsimp only
  split <;> simp

theorem ask_retention (code : Nat) (contents : List Data → State → Except Reason (List Data)) :
    (ask code contents l f s).retentionValid = s.retentionValid := by
  unfold ask answerAsk
  split <;> simp

/-! ## Starts (R169, R170) -/

theorem startUpReads_retention : (startUpReads s).retentionValid = s.retentionValid := by
  unfold startUpReads
  dsimp only
  repeat' split
  all_goals simp

theorem startKept_retention (pins : Pins) : (startKept pins s).retentionValid = s.retentionValid := by
  simp [startKept, rescanPockets, keptPart]

/-- A start at the defaults leaves the flag clear. -/
theorem startCleared_retention (pins : Pins) : (startCleared pins s).retentionValid = false := rfl

/-- R169, R170: with the flag set a power-on keeps it with the rest of the region, and with the flag clear its default is
clear too. -/
theorem powerOn_retention (pins : Pins) :
    (startUpReads (if s.retentionValid then startKept pins s else startCleared pins s)).retentionValid =
      s.retentionValid := by
  rw [startUpReads_retention]
  split
  next => exact startKept_retention pins
  next hclear => rw [startCleared_retention, Bool.eq_false_iff.2 hclear]

/-! ## Every other command -/

theorem arrivalDeadline_retention (i : Nat) : KeepsRetention s (execArrivalDeadline i s) := by
  unfold execArrivalDeadline missDeadline
  refine keepsRetention_next ?_
  repeat' split
  all_goals simp

theorem unknownKind_retention : KeepsRetention s (execUnknownKind l s) := by
  unfold execUnknownKind
  refine keepsRetention_next ?_
  repeat' split
  all_goals simp

theorem drawerOpen_retention (p : Nat) : KeepsRetention s (execDrawerOpen p s) := by
  unfold execDrawerOpen
  split
  · refine keepsRetention_next ?_
    split <;> simp
  · exact keepsRetention_fault _

theorem drawerClose_retention (p : Nat) (empty : Bool) : KeepsRetention s (execDrawerClose p empty s) := by
  unfold execDrawerClose
  split
  · refine keepsRetention_next ?_
    split <;> simp
  · exact keepsRetention_fault _

theorem floorEmpty_retention (p : Nat) : KeepsRetention s (execFloorEmpty p s) := by
  unfold execFloorEmpty
  split
  · refine keepsRetention_next ?_
    split <;> simp
  · exact keepsRetention_fault _

/-- R170: nothing but RETLOW and MARK-RETAINED changes the flag. -/
theorem exec_keepsRetention (c : Instr) (hlow : c ≠ .retLow) (hmark : ∀ l, c ≠ .markRetained l) :
    KeepsRetention s (exec c s) := by
  cases c with
  | retLow => exact absurd rfl hlow
  | markRetained l => exact absurd rfl (hmark l)
  | announce l => exact keepsRetention_handle fun f x => by simp [ownAnnounce]
  | openJob l => exact keepsRetention_handle fun f x => ownOpenJob_retention
  | closeJob l => exact keepsRetention_handle fun f x => ownCloseJob_retention
  | loadClass l | loadSeats l | loadPlan l | loadGrade l | loadPocket l | loadTransport l | clearCounts l =>
    exact keepsRetention_handle fun f x => by simp
  | commit l pins => exact keepsRetention_handle fun f x => ownCommit_retention pins
  | insert l => exact keepsRetention_handle fun f x => ownInsert_retention
  | run l => exact keepsRetention_handle fun f x => ownRun_retention
  | standby l => exact keepsRetention_handle fun f x => ownStandby_retention
  | clear l pins => exact keepsRetention_handle fun f x => ownClear_retention pins
  | askStatus l | askJob l | askPocket l | askQueue l | askCapture l | askEntry l | askSet l =>
    exact keepsRetention_handle fun f x => ask_retention _ _
  | unknownKind l => exact unknownKind_retention
  | arrivalDeadline i => exact arrivalDeadline_retention i
  | drawerOpen p => exact drawerOpen_retention p
  | drawerClose p empty => exact drawerClose_retention p empty
  | floorEmpty p => exact floorEmpty_retention p
  | powerOn pins => exact keepsRetention_next (powerOn_retention pins)
  | resetLine pins => exact keepsRetention_next (startUpReads_retention.trans (startKept_retention pins))
  | _ =>
    -- a test of the state at most, then operations whose frames hold the flag
    refine keepsRetention_next ?_
    repeat' split
    all_goals simp

/-! ## MARK-RETAINED and ASK STATUS -/

theorem exec_markRetained (h : s.requests l f 0x09) : exec (.markRetained l) s =
    .next (answerTo { takeFrame s l with retentionValid := true } l f .done []) := by
  obtain ⟨hoffered, hkind, hlength⟩ := h
  exact congrArg _ (handle_request s hoffered (by simp [ofKind, hkind, kindMarkRetained]) hlength)

/-- R159: the STATUS contents before the flag. -/
def statusBefore (s : State) : List Data :=
  enc1 s.run.code ++ enc1 s.tray.phase.code ++ enc1 s.shelf.stack.length ++ enc1 s.tower.phase.code ++
  encCarried s.tower ++ enc1 s.stapler.phase.code ++ enc2 s.stapler.cartridge ++ enc3 s.stacker.fill ++
  enc3 s.path.purgeCount ++ encPort s.links.a ++ encPort s.links.b

/-- R159: the STATUS contents after the flag. -/
def statusAfter (s : State) : List Data :=
  encOpt (fun d : FaultDetail => enc1 d.cause.code) s.fault.first ++ enc2 s.fault.further ++
  encOpt encGrant s.grant ++ encList (fun j : Job => enc1 j.number ++ enc1 j.phase.code) (jobsAscending s)

theorem encBool_eq_singleton (b : Bool) : encBool b = [if b = true then 1 else 0] := by
  cases b with
  | false => rfl
  | true => rfl

theorem statusBody_retention (b : Bool) : statusBody { s with retentionValid := b } =
    statusBefore s ++ [if b = true then 1 else 0] ++ statusAfter s := by
  have hbody : statusBody { s with retentionValid := b } = statusBefore s ++ encBool b ++ statusAfter s := by
    simp only [statusBody, statusBefore, statusAfter, List.append_assoc]
    rfl
  rw [hbody, encBool_eq_singleton]

/-- R170: ASK STATUS returns the flag. -/
theorem exec_askStatus_retention (h : s.requests l f 0x0C) (hsubject : field f.payload 0 = 0) (b : Bool) :
    exec (.askStatus l) { s with retentionValid := b } = .next (answerTo { takeFrame s l with retentionValid := b } l f
      .done (statusBefore (takeFrame s l) ++ [if b = true then 1 else 0] ++ statusAfter (takeFrame s l))) := by
  have hflag : ({ s with retentionValid := b } : State).requests l f 0x0C := h
  have htaken : takeFrame { s with retentionValid := b } l = { takeFrame s l with retentionValid := b } := rfl
  rw [FeedLinks.exec_askStatus, FeedLinks.handle_ask_done hflag hsubject rfl, htaken, statusBody_retention]

end Lemmas

/-- Settles O30: no other command changes the flag (`exec_keepsRetention`), and the lemmas about the two that do, a start
and ASK STATUS. -/
theorem retentionFlagIsClearedAndSet : Obligations.RetentionFlagIsClearedAndSet := by
  unfold Obligations.RetentionFlagIsClearedAndSet
  intro s
  refine ⟨fun c t hlow hmark hexec => exec_keepsRetention c hlow hmark t hexec, rfl, fun l f h => exec_markRetained h,
    fun pins hclear => ⟨_, rfl, (powerOn_retention pins).trans hclear⟩, fun l f h hsubject => ?_⟩
  exact ⟨_, _, exec_askStatus_retention h hsubject⟩

end Sys2Proof.Machine.RunStates
end

section
/-!
PROOFS. The step of a command that waits, and the state after reset: a start with the retained region at its defaults
(R169), whose lists are empty, whose counts are 0 and whose table entries hold nothing staged.
-/
namespace Sys2Proof.Machine.RunStates

open PocketRecords

section Lemmas
variable {s : State} {c : Instr} {rest : List Instr}

/-! ## The step -/

theorem step_of_pending_cons (h : s.pending = c :: rest) :
    step s = exec c (s.withPending rest) := by
  unfold step
  rw [h]

/-! ## Reset is a start with the retention-valid flag clear -/

/-- R123: with its drawer in and its floor empty, a pocket of the tower starts as one outside it does. -/
theorem freshPocket_reset (size : Nat) {p : Nat} (hp : p < 40) :
    freshPocket size p Pins.reset.pockets = Pocket.fresh := by
  have hsensed : Pins.reset.pockets.drawersIn.getLsbD p = true ∧ Pins.reset.pockets.floorsEmpty.getLsbD p = true :=
    ⟨BitVec.getLsbD_allOnes.trans (decide_eq_true hp), BitVec.getLsbD_allOnes.trans (decide_eq_true hp)⟩
  obtain ⟨hdrawer, hfloor⟩ := hsensed
  by_cases hsize : size ≤ p
  · simp [freshPocket, hsize]
  · simp [freshPocket, hsize, hdrawer, hfloor, Pocket.fresh]

/-- R169: a start from reset with the lines at reset's levels is reset again. -/
theorem startCleared_reset : startCleared Pins.reset State.reset = State.reset := by
  have hpockets (size : Nat) : (List.range Config.pocketCount).map (fun p => freshPocket size p Pins.reset.pockets) =
      State.reset.pockets := by
    refine List.eq_replicate_iff.2 ⟨by simp [Config.pocketCount], fun k hk => ?_⟩
    obtain ⟨p, hp, rfl⟩ := List.mem_map.1 hk
    exact freshPocket_reset size (List.mem_range.1 hp)
  unfold startCleared
  dsimp only
  rw [hpockets]
  rfl

theorem reset_capacityLaw : State.reset.CapacityLaw :=
  startCleared_reset ▸ startCleared_law Pins.reset

theorem reset_faultCoherent : State.reset.FaultCoherent :=
  startCleared_reset ▸ startCleared_coherent Pins.reset State.reset

/-! ## The bounds and the grant at reset -/

theorem reset_links (l : Link) : State.reset.links.get l = LinkPort.reset := by
  cases l <;> rfl

theorem reset_feeds (l : Link) : State.reset.feeds.get l = Feed.reset := by
  cases l <;> rfl

theorem linkPort_reset_bounded : LinkPort.reset.Bounded := by
  constructor <;> exact Nat.zero_le _

theorem feed_reset_bounded : Feed.reset.Bounded := by
  constructor <;> exact Nat.zero_le _

/-- A table of fresh entries holds nothing but the default contents, active and with nothing pending. -/
theorem fresh_forall {α : Type} {P : α → Prop} {x : α} (n : Nat) (hx : P x) :
    ∀ e ∈ List.replicate n (Entry.fresh x), P e.active ∧ ∀ b ∈ e.pending, P b := by
  intro e he
  obtain rfl := List.eq_of_mem_replicate he
  exact ⟨hx, fun _ hb => nomatch hb⟩

theorem reset_bounded : State.reset.Bounded where
  links l := reset_links l ▸ linkPort_reset_bounded
  feeds l := reset_feeds l ▸ feed_reset_bounded
  path := Nat.zero_le _
  purgeCount := Nat.zero_le _
  shelf := Nat.zero_le _
  lifting h := nomatch h
  jobs := Nat.zero_le _
  jobRecords := ⟨List.nodup_nil, List.forall_mem_nil _⟩
  cartridge := Nat.zero_le _
  further := Nat.zero_le _
  pockets := List.length_replicate
  tables := ⟨List.length_replicate, List.length_replicate, rfl, List.length_replicate⟩
  seatCounts := fresh_forall (P := fun b : ClassBody => b.seatCount ≤ 40) 24 (Nat.zero_le _)
  planParts := fresh_forall (P := fun b : PlanBody => b.parts.length ≤ 6) 16 (Nat.zero_le _)
  setCounts k hk := by
    obtain rfl := List.eq_of_mem_replicate hk
    exact Nat.zero_le _
  heights := ⟨(fun _ hr => nomatch hr), List.forall_mem_nil _⟩
  session _ hz := nomatch hz

/-- R42: no grant is outstanding and no queue has a descriptor. -/
theorem reset_grantCoherent : State.reset.GrantCoherent where
  none _ l := by
    rw [reset_feeds]
    exact List.forall_mem_nil _
  some _ hg := nomatch hg

end Lemmas

/-- Settles O1: `step` by the front of the queue. -/
theorem stepTakesTheFrontCommand : Obligations.StepTakesTheFrontCommand := by
  unfold Obligations.StepTakesTheFrontCommand
  exact fun _ _ _ h => step_of_pending_cons h

/-- Settles O9: the capacity law and the coherence of the fault record as a start with the flag clear has them
(`startCleared_reset`), the bounds and the grant field by field. -/
theorem resetMeetsTheInvariants : Obligations.ResetMeetsTheInvariants := by
  unfold Obligations.ResetMeetsTheInvariants
  exact ⟨reset_bounded, reset_capacityLaw, reset_grantCoherent, reset_faultCoherent⟩

end Sys2Proof.Machine.RunStates
end

section
/-!
PROOFS. What coherence of the single grant reads of the state (R27, R42), and how the shared operations keep it.
-/
namespace Sys2Proof.Machine.FeedQueues

open SetAssembly

section Lemmas
variable {s t : State} {g : Grant} {e : QueueEntry} {l m : Link}

/-! ## The queues after the operations on heads -/

/-- R27: no descriptor of the queue is GRANTED. -/
def Ungranted (es : List QueueEntry) : Prop := ∀ e ∈ es, e.isGranted = false

theorem ungranted_cons_iff {es : List QueueEntry} :
    Ungranted (e :: es) ↔ e.isGranted = false ∧ Ungranted es := List.forall_mem_cons

theorem ungranted_append {es : List QueueEntry} :
    Ungranted (es ++ [e]) ↔ Ungranted es ∧ e.isGranted = false := by
  simp [Ungranted, or_imp, forall_and]

theorem isGranted_of_waiting (h : e.standing = .waiting) : e.isGranted = false := by simp [QueueEntry.isGranted, h]

theorem eq_or_eq_otherLink (l m : Link) : m = l ∨ m = otherLink l := by cases l <;> cases m <;> simp [otherLink]

theorem otherLink_ne (l : Link) : otherLink l ≠ l := by cases l <;> simp [otherLink]

theorem changeHead_entries (l m : Link) (f : QueueEntry → QueueEntry) :
    ((changeHead s l f).feeds.get m).entries =
      if m = l then changeAt 0 f (s.feeds.get l).entries else (s.feeds.get m).entries := by
  by_cases hm : m = l
  · subst hm
    simp [changeHead]
  · simp [changeHead, hm, Pair.get_set_other _ _ hm]

theorem dropHead_entries (l m : Link) :
    ((dropHead s l).feeds.get m).entries =
      if m = l then (s.feeds.get l).entries.tail else (s.feeds.get m).entries := by
  by_cases hm : m = l
  · subst hm
    simp [dropHead]
  · simp [dropHead, hm, Pair.get_set_other _ _ hm]

/-- R24, R26: the place a descriptor takes behind the queue `es`. -/
def queuedEntry (es : List QueueEntry) (d : Desc) : QueueEntry :=
  { desc := d, standing := .queued, checked := false, faulty := arrivalMark es d }

theorem appendDesc_entries (l m : Link) (d : Desc) :
    ((appendDesc s l d).feeds.get m).entries =
      if m = l then (s.feeds.get l).entries ++ [queuedEntry (s.feeds.get l).entries d]
      else (s.feeds.get m).entries := by
  by_cases hm : m = l
  · subst hm
    simp [appendDesc, queuedEntry]
  · simp [appendDesc, hm, Pair.get_set_other _ _ hm]

/-- R32: a captured head stands in its queue as before. -/
theorem captureHead_entries (l m : Link) (d : Desc) (r : FaultyReason) :
    ((captureHead s l d r).feeds.get m).entries = (s.feeds.get m).entries := by
  by_cases hm : m = l
  · subst hm
    simp [captureHead]
  · simp [captureHead, Pair.get_set_other _ _ hm]

/-- R27: a descriptor that becomes the head is WAITING. -/
theorem judgedHead_standing (l : Link) (e : QueueEntry) : (judgedHead s l e).standing = .waiting := by
  unfold judgedHead
  repeat' split
  all_goals rfl

theorem headOf_eq_some_iff : headOf s l = some e ↔ ∃ rest, (s.feeds.get l).entries = e :: rest := by
  simp [headOf, List.head?_eq_some_iff]

theorem newHead_entries (l m : Link) :
    ((newHead s l).feeds.get m).entries =
      if m = l then changeAt 0 (judgedHead s l) (s.feeds.get l).entries else (s.feeds.get m).entries := by
  unfold newHead
  split
  next hnone =>
    have hnil : (s.feeds.get l).entries = [] := by simpa [headOf] using hnone
    split <;> simp_all [changeAt]
  next e he =>
    obtain ⟨rest, hrest⟩ := headOf_eq_some_iff.1 he
    dsimp only
    split <;> simp [captureHead_entries, changeHead_entries, hrest, changeAt]

theorem newHead_ungranted (l : Link) (h : ∀ m, Ungranted (s.feeds.get m).entries) (m : Link) :
    Ungranted ((newHead s l).feeds.get m).entries := by
  rw [newHead_entries]
  split
  next =>
    have hl := h l
    cases hes : (s.feeds.get l).entries with
    | nil => exact fun _ h => nomatch h
    | cons e rest =>
      rw [hes, ungranted_cons_iff] at hl
      exact ungranted_cons_iff.2 ⟨isGranted_of_waiting (judgedHead_standing l e), hl.2⟩
  next => exact h m

/-! ## Coherence -/

/-- R42, R47: the grant beside how far its frame has come. -/
def grantCore (g : Grant) : Link × Nat × Purpose := (g.link, g.tag, g.purpose)

/-- R42: the grant outstanding on link `l`. -/
def grantAt (s : State) (l : Link) : Option (Link × Nat × Purpose) := (s.grant.map grantCore).filter (·.1 = l)

/-- R27, R42: the queue stands as the grant outstanding on its link says. -/
def Fits : Option (Link × Nat × Purpose) → List QueueEntry → Prop
  | none, es => Ungranted es
  | some g, es => ∃ e rest, es = e :: rest ∧ e.desc.tag = g.2.1 ∧ e.standing = .granted g.2.2.route ∧ Ungranted rest

theorem grantAt_of_none (hg : s.grant = none) (l : Link) : grantAt s l = none := by simp [grantAt, hg]

theorem grantAt_of_some (hg : s.grant = some g) : grantAt s g.link = some (grantCore g) := by
  simp [grantAt, hg, grantCore]

theorem grantAt_of_other (hg : s.grant = some g) : grantAt s (otherLink g.link) = none := by
  have hne : g.link ≠ otherLink g.link := (otherLink_ne _).symm
  simp [grantAt, hg, grantCore, hne]

/-- Coherence, link by link. -/
theorem coherent_iff : s.GrantCoherent ↔ ∀ l, Fits (grantAt s l) (s.feeds.get l).entries := by
  constructor
  · intro h l
    cases hg : s.grant with
    | none =>
      rw [grantAt_of_none hg]
      exact h.none hg l
    | some g =>
      obtain ⟨hhead, hother⟩ := h.some g hg
      rcases eq_or_eq_otherLink g.link l with rfl | rfl
      · rw [grantAt_of_some hg]
        exact hhead
      · rw [grantAt_of_other hg]
        exact hother
  · intro h
    constructor
    case none =>
      intro hg l
      have hl := h l
      rwa [grantAt_of_none hg] at hl
    case some =>
      intro g hg
      have hhead := h g.link
      have hother := h (otherLink g.link)
      rw [grantAt_of_some hg] at hhead
      rw [grantAt_of_other hg] at hother
      exact ⟨hhead, hother⟩

/-- Coherence reads the queues, and the grant beside its stage. -/
theorem coherent_of_view (h : s.GrantCoherent) (hf : t.feeds = s.feeds)
    (hg : t.grant.map grantCore = s.grant.map grantCore) : t.GrantCoherent := by
  rw [coherent_iff] at h ⊢
  intro l
  rw [hf, grantAt, hg]
  exact h l

theorem coherent_of_frame (h : s.GrantCoherent) (hf : t.feeds = s.feeds) (hg : t.grant = s.grant) : t.GrantCoherent :=
  coherent_of_view h hf (by rw [hg])

theorem coherent_of_no_grant (hg : t.grant = none) (h : ∀ l, Ungranted (t.feeds.get l).entries) : t.GrantCoherent :=
  coherent_iff.2 fun l => grantAt_of_none hg l ▸ h l

/-- R42: with a grant outstanding its head alone is GRANTED: the queues without that head hold none. -/
theorem dropHead_ungranted (h : s.GrantCoherent) (hg : s.grant = some g) (l : Link) :
    Ungranted ((dropHead s g.link).feeds.get l).entries := by
  obtain ⟨⟨e, rest, hes, -, -, hrest⟩, hother⟩ := h.some g hg
  rw [dropHead_entries]
  rcases eq_or_eq_otherLink g.link l with rfl | rfl
  · rw [if_pos rfl, hes]
    exact hrest
  · rw [if_neg (otherLink_ne _)]
    exact hother

/-- R24: an arrival joins the tail, or becomes the head of a queue that was empty. -/
theorem arrive_coherent (h : s.GrantCoherent) (d : Desc) : (arrive s l d).GrantCoherent := by
  unfold arrive
  split
  next => exact coherent_of_frame h (by simp) (by simp)
  next =>
    rw [coherent_iff] at h
    have hgrant (m : Link) : grantAt (appendDesc s l d) m = grantAt s m := by simp [grantAt]
    split
    next hempty =>
      have hnil : (s.feeds.get l).entries = [] := List.isEmpty_iff.1 hempty
      have hgrant' (m : Link) : grantAt (newHead (appendDesc s l d) l) m = grantAt s m := by simp [grantAt]
      refine coherent_iff.2 fun m => ?_
      rw [hgrant', newHead_entries]
      by_cases hm : m = l
      · subst hm
        have hl := h m
        rw [hnil] at hl
        cases hg : grantAt s m with
        | none =>
          rw [if_pos rfl, appendDesc_entries, if_pos rfl, hnil]
          exact List.forall_mem_singleton.2 (isGranted_of_waiting (judgedHead_standing _ _))
        | some g =>
          rw [hg] at hl
          obtain ⟨e, rest, hes, -⟩ := hl
          cases hes
      · rw [if_neg hm, appendDesc_entries, if_neg hm]
        exact h m
    next hsome =>
      refine coherent_iff.2 fun m => ?_
      rw [hgrant, appendDesc_entries]
      split
      next hm =>
        subst hm
        have hl := h m
        cases hg : grantAt s m with
        | none =>
          rw [hg] at hl
          exact ungranted_append.2 ⟨hl, rfl⟩
        | some g =>
          rw [hg] at hl
          obtain ⟨e, rest, hes, htag, hst, hrest⟩ := hl
          rw [hes]
          exact ⟨e, _, rfl, htag, hst, ungranted_append.2 ⟨hrest, rfl⟩⟩
      next => exact h m

/-! ## Grants (R42 to R47) -/

theorem noteGrantSending_core (l : Link) :
    (noteGrantSending s l).grant.map grantCore = s.grant.map grantCore := by
  have hkept (g : Grant) :
      grantCore (if g.link == l && g.stage == .inLane then { g with stage := .sending } else g) = grantCore g := by
    split <;> rfl
  unfold noteGrantSending
  split
  · simp only [Option.map_map, Function.comp_def, hkept]
  · rfl

theorem setGrantStage_core (l : Link) (st : GrantStage) :
    (setGrantStage s l st).grant.map grantCore = s.grant.map grantCore := by
  have hkept (g : Grant) : grantCore (if g.link == l then { g with stage := st } else g) = grantCore g := by
    split <;> rfl
  simp only [setGrantStage, Option.map_map, Function.comp_def, hkept]

theorem finishFrame_coherent (h : s.GrantCoherent) (l : Link) : (finishFrame s l).GrantCoherent := by
  refine coherent_of_view h (by simp) ?_
  unfold finishFrame
  split
  · rfl
  · dsimp only
    rw [noteGrantSending_core]
    split
    · split
      · simpa using setGrantStage_core l .sent
      · simp
    · simp

/-- R47: a grant made of the head of its link, while none is outstanding. -/
theorem issueGrant_coherent (h : s.GrantCoherent) (hg : s.grant = none) (he : headOf s l = some e) (p : Purpose) :
    (issueGrant s l e p).GrantCoherent := by
  obtain ⟨rest, hrest⟩ := headOf_eq_some_iff.1 he
  have hcore : (issueGrant s l e p).grant.map grantCore = some (l, e.desc.tag, p) := by
    simp [issueGrant, sendGrant, noteGrantSending_core, grantCore]
  rw [coherent_iff] at h ⊢
  intro m
  have hm := h m
  rw [grantAt_of_none hg] at hm
  rw [issueGrant_feeds, changeHead_entries, grantAt, hcore]
  by_cases hml : m = l
  · subst hml
    rw [hrest, Fits, ungranted_cons_iff] at hm
    simp only [Option.filter, hrest, changeAt, decide_true, if_true]
    exact ⟨_, rest, rfl, rfl, rfl, hm.2⟩
  · have hlm : l ≠ m := fun e => hml e.symm
    simpa [Option.filter, hlm, hml, Fits] using hm

end Lemmas
end Sys2Proof.Machine.FeedQueues
end

section
/-!
PROOFS. The single grant stays single, and the grant of a head, through every command and every step (R27, R42).
-/
namespace Sys2Proof.Machine.FeedQueues

open SetAssembly

section Commands
variable {s t : State} {g : Grant} {e : QueueEntry} {l : Link} {f : Frame}

/-! ## The arbiter (R43 to R46) -/

theorem headOf_congr (h : t.feeds = s.feeds) (l : Link) : headOf t l = headOf s l := by simp [headOf, h]

/-- R45: a purge grant is chosen for the head of its link. -/
theorem purgeChoice_head {p : Purpose} (h : purgeChoice s = some (l, e, p)) : headOf s l = some e := by
  unfold purgeChoice at h
  repeat' split at h
  all_goals simp_all

/-- R44: the needed sheet is the head of its link. -/
theorem neededSheet_head {r : SetRec} (h : neededSheet s r = some (l, e)) : headOf s l = some e := by
  unfold neededSheet at h
  repeat' split at h
  all_goals simp_all

/-- R40, R41, R51: a TRAY grant, made once the open set has been told of its sheet. -/
theorem trayGrant_coherent {u : State} (h : s.GrantCoherent) (hg : s.grant = none) (he : headOf s l = some e)
    (hfeeds : u.feeds = s.feeds) (hgrant : u.grant = s.grant) (d : Desc) :
    (endPartAtGrant (issueGrant u l e .tray) d).GrantCoherent := by
  have hhead : headOf u l = some e := (headOf_congr hfeeds l).trans he
  have hissued := issueGrant_coherent (coherent_of_frame h hfeeds hgrant) (hgrant.trans hg) hhead .tray
  exact coherent_of_frame hissued (by simp) (by simp)

theorem startSet_coherent (h : s.GrantCoherent) (hg : s.grant = none) (he : headOf s l = some e) (j : Job) :
    (startSet s l e j).GrantCoherent :=
  trayGrant_coherent h hg he (by simp) (by simp) e.desc

theorem grantNeeded_coherent (h : s.GrantCoherent) (hg : s.grant = none) (he : headOf s l = some e) :
    (grantNeeded s l e).GrantCoherent :=
  trayGrant_coherent h hg he (by simp) (by simp) e.desc

theorem startSelection_coherent (h : s.GrantCoherent) (hg : s.grant = none) : (startSelection s).GrantCoherent := by
  unfold startSelection
  split
  · split
    next => exact h
    next => exact coherent_of_frame h (by simp) (by simp)
    next l _ =>
      split
      next => exact h
      next e he =>
        split
        next => exact h
        next j _ =>
          split
          · exact startSet_coherent h hg he j
          · exact h
  · exact h

theorem servePurgeOrStart_coherent (h : s.GrantCoherent) (hg : s.grant = none) :
    (servePurgeOrStart s).GrantCoherent := by
  unfold servePurgeOrStart
  split
  next l e p hchoice =>
    split
    · exact issueGrant_coherent h hg (purgeChoice_head hchoice) p
    · exact h
  next => exact startSelection_coherent h hg

theorem serve_coherent (h : s.GrantCoherent) : (serve s).GrantCoherent := by
  unfold serve
  split
  next hgrantable =>
    have hg : s.grant = none := by simp_all [grantable]
    split
    next => exact servePurgeOrStart_coherent h hg
    next r _ =>
      split
      next => exact servePurgeOrStart_coherent h hg
      next l e hneeded =>
        split
        · exact servePurgeOrStart_coherent (coherent_of_frame h (by simp) (by simp)) (by simpa using hg)
        · split
          · exact grantNeeded_coherent h hg (neededSheet_head hneeded)
          · exact h
  next => exact h

/-- Of what the part does of itself, the arbiter alone makes a grant. -/
theorem settle_coherent (h : s.GrantCoherent) : (settle s).GrantCoherent := by
  cases ha : active s with
  | false =>
    rw [settle_of_stopped ha]
    exact coherent_of_frame h (by simp) (by simp)
  | true =>
    rw [settle_of_active ha]
    have hready : (handOver (advance (preempt (tryEject (sessionTakesTower s))))).GrantCoherent :=
      coherent_of_frame h (by simp) (by simp)
    exact coherent_of_frame (serve_coherent hready) (by simp) (by simp)

/-! ## The ends of a grant (R29, R48, R49) -/

/-- R29: the withdrawn grant's head returns to WAITING. -/
theorem withdrawGrant_ungranted (h : s.GrantCoherent) (l : Link) :
    Ungranted ((withdrawGrant s).feeds.get l).entries := by
  cases hg : s.grant with
  | none =>
    rw [withdrawGrant, hg]
    exact h.none hg l
  | some g =>
    obtain ⟨⟨e, rest, hes, -, -, hrest⟩, hother⟩ := h.some g hg
    have hfeeds : (withdrawGrant s).feeds = (changeHead s g.link (fun e => { e with standing := .waiting })).feeds := by
      simp [withdrawGrant, hg, changeHead]
    rw [hfeeds, changeHead_entries]
    rcases eq_or_eq_otherLink g.link l with rfl | rfl
    · rw [if_pos rfl, hes]
      exact ungranted_cons_iff.2 ⟨rfl, hrest⟩
    · rw [if_neg (otherLink_ne _)]
      exact hother

theorem raiseFault_coherent (h : s.GrantCoherent) (d : FaultDetail) : (raiseFault s d).GrantCoherent := by
  unfold raiseFault
  split
  · exact coherent_of_frame h rfl rfl
  · refine coherent_of_no_grant (by simp [enterFaulted, withdrawGrant_grant]) fun l => ?_
    simpa [enterFaulted] using withdrawGrant_ungranted h l

/-- The grant ends, its head leaves its queue, and the descriptor behind it becomes the head (R27, R48, R49). -/
theorem coherent_of_next_head {u v : State} (h : s.GrantCoherent) (hg : s.grant = some g)
    (hu : u.feeds = (dropHead s g.link).feeds) (hv : v.feeds = (newHead u g.link).feeds) (hn : v.grant = none) :
    v.GrantCoherent := by
  refine coherent_of_no_grant hn fun l => ?_
  rw [hv]
  exact newHead_ungranted g.link (fun m => hu ▸ dropHead_ungranted h hg m) l

theorem captureLead_coherent (h : s.GrantCoherent) (x : Tick) : (captureLead s l x).GrantCoherent := by
  unfold captureLead
  split
  · exact raiseFault_coherent h _
  · split
    next y hy =>
      obtain ⟨g, hg, hl⟩ : ∃ g, s.grant = some g ∧ g.link = l := by
        unfold grantedOn at hy
        repeat' split at hy
        all_goals simp_all
      subst hl
      exact coherent_of_next_head h hg (by simp [dropHead]) rfl (by simp [captureGranted])
    next => exact coherent_of_frame h (by simp) (by simp)

/-- R27, R49: the descriptor behind becomes the head when the missed sheet has left its queue. -/
theorem missFeed_eq : ∃ u, missFeed s g e = removeClosed (newHead u g.link) ∧
    u.feeds = (dropHead s g.link).feeds ∧ u.grant = none := by
  cases hp : g.purpose <;>
  · simp only [missFeed, hp]
    exact ⟨_, rfl, by simp [dropHead], by simp⟩

theorem missFeed_coherent (h : s.GrantCoherent) (hg : s.grant = some g) : (missFeed s g e).GrantCoherent := by
  obtain ⟨u, hmissed, hfeeds, hgrant⟩ := missFeed_eq (s := s) (g := g) (e := e)
  rw [hmissed]
  exact coherent_of_next_head h hg hfeeds (by simp) (by simpa using hgrant)

/-! ## The commands -/

/-- The answer is no next state that is not coherent. -/
def Single (o : Out) : Prop := ∀ t, o = .next t → t.GrantCoherent

theorem single_next (h : t.GrantCoherent) : Single (.next t) := by
  intro u hu
  cases hu
  exact h

theorem single_fault (r : Fault) : Single (.fault r) := fun _ h => nomatch h

/-- A command that reaches neither the queues nor the grant. -/
theorem single_of_frame (h : s.GrantCoherent) (hf : t.feeds = s.feeds) (hg : t.grant = s.grant) : Single (.next t) :=
  single_next (coherent_of_frame h hf hg)

/-- An event that reaches neither the queues nor the grant, and what the part then does of itself. -/
theorem single_settle (h : s.GrantCoherent) (hf : t.feeds = s.feeds) (hg : t.grant = s.grant) :
    Single (.next (settle t)) :=
  single_next (settle_coherent (coherent_of_frame h hf hg))

/-- A command that the frame handler takes. -/
theorem single_handle (h : s.GrantCoherent) {wanted : Frame → Bool} {owner : Link → Frame → State → State}
    (ho : ∀ f x, x.GrantCoherent → (owner l f x).GrantCoherent) : Single (.next (handle wanted owner l s)) := by
  have htaken : (takeFrame s l).GrantCoherent := coherent_of_frame h (by simp) (by simp)
  refine single_next ?_
  rcases handle_cases s wanted owner l with hs | ⟨f, -, -, hs | hs⟩
  · rwa [hs]
  · exact hs ▸ ho f _ htaken
  · exact hs ▸ coherent_of_frame htaken (by simp) (by simp)

theorem ask_frame (code : Nat) (contents : List Data → State → Except Reason (List Data)) :
    (ask code contents l f s).feeds = s.feeds ∧ (ask code contents l f s).grant = s.grant := by
  unfold ask answerAsk
  split <;> simp

theorem ownOpenJob_frame : (ownOpenJob l f s).feeds = s.feeds ∧ (ownOpenJob l f s).grant = s.grant := by
  unfold ownOpenJob
  dsimp only
  split <;> simp

theorem ownCloseJob_frame : (ownCloseJob l f s).feeds = s.feeds ∧ (ownCloseJob l f s).grant = s.grant := by
  unfold ownCloseJob
  dsimp only
  repeat' split
  all_goals simp

theorem applyCommit_frame : (applyCommit s).feeds = s.feeds ∧ (applyCommit s).grant = s.grant := by
  have hreacted (ps : List (Nat × PocketConfig)) : ∀ s : State,
      (ps.foldl (fun x e => reactPocket x e.1 e.2) s).feeds = s.feeds ∧
      (ps.foldl (fun x e => reactPocket x e.1 e.2) s).grant = s.grant := by
    induction ps with
    | nil => exact fun _ => ⟨rfl, rfl⟩
    | cons x ps ih => exact fun s => ⟨(ih _).1.trans (by simp), (ih _).2.trans (by simp)⟩
  simp [applyCommit, hreacted]

theorem ownCommit_coherent (h : s.GrantCoherent) (pins : PocketPins) : (ownCommit pins l f s).GrantCoherent := by
  unfold ownCommit
  dsimp only
  split
  · exact coherent_of_frame h (by simp) (by simp)
  · exact settle_coherent (coherent_of_frame h (by simp [applyCommit_frame]) (by simp [applyCommit_frame]))

theorem ownInsert_coherent (h : s.GrantCoherent) : (ownInsert l f s).GrantCoherent := by
  unfold ownInsert
  dsimp only
  split
  · exact coherent_of_frame h (by simp) (by simp)
  · exact settle_coherent (coherent_of_frame h (by simp) (by simp))

theorem ownRun_frame : (ownRun l f s).feeds = s.feeds ∧ (ownRun l f s).grant = s.grant := by
  unfold ownRun
  split <;> simp

theorem ownStandby_frame : (ownStandby l f s).feeds = s.feeds ∧ (ownStandby l f s).grant = s.grant := by
  unfold ownStandby
  split <;> simp

theorem ownClear_frame (pins : Pins) :
    (ownClear pins l f s).feeds = s.feeds ∧ (ownClear pins l f s).grant = s.grant := by
  unfold ownClear
  dsimp only
  split <;> simp

theorem leadCapture_single (h : s.GrantCoherent) (x : Tick) : Single (execLeadCapture l x s) := by
  unfold execLeadCapture
  dsimp only
  split
  · exact single_next (settle_coherent (captureLead_coherent (coherent_of_frame h (by simp) (by simp)) x))
  · exact single_of_frame h (by simp) (by simp)

theorem arrivalDeadline_single (h : s.GrantCoherent) (i : Nat) : Single (execArrivalDeadline i s) := by
  unfold execArrivalDeadline
  refine single_next ?_
  split
  · exact h
  · split
    · exact h
    · split
      · unfold missDeadline
        dsimp only
        refine raiseFault_coherent (coherent_of_frame h ?_ ?_) _ <;> split <;> simp
      · exact h

theorem sensorFault_coherent (h : s.GrantCoherent) (x : PathSensor) : (sensorFault s x).GrantCoherent :=
  raiseFault_coherent h _

theorem stLeadEdge_single (h : s.GrantCoherent) : Single (execStLeadEdge s) := by
  unfold execStLeadEdge
  refine single_next ?_
  split
  · split
    · refine sensorFault_coherent ?_ _
      exact coherent_of_frame h rfl rfl
    · exact settle_coherent (coherent_of_frame h (by simp) (by simp))
  · exact coherent_of_frame h rfl rfl

theorem spLeadEdge_single (h : s.GrantCoherent) : Single (execSpLeadEdge s) := by
  unfold execSpLeadEdge
  refine single_next ?_
  split
  · split
    · refine sensorFault_coherent ?_ _
      exact coherent_of_frame h rfl rfl
    · exact settle_coherent (coherent_of_frame h (by simp) (by simp))
  · exact coherent_of_frame h rfl rfl

theorem feedWindowExpiry_single (h : s.GrantCoherent) : Single (execFeedWindowExpiry s) := by
  unfold execFeedWindowExpiry
  refine single_next ?_
  split
  next g _ hg =>
    split
    · exact settle_coherent (missFeed_coherent h hg)
    · exact h
  next => exact h

/-- An expiry that raises a fault while its timer runs. -/
theorem faultExpiry_single (h : s.GrantCoherent) (timer : Option Nat) (d : FaultDetail) :
    Single (.next (match timer with | some _ => raiseFault s d | none => s)) := by
  cases timer with
  | none => exact single_next h
  | some _ => exact single_next (raiseFault_coherent h d)

/-- The end of a session that the command names, if it names one. -/
theorem sessionEnd_single (h : s.GrantCoherent) (z : Option Session) (c : EndCause) :
    Single (.next (match z with | some z => settle (endSession s z c) | none => s)) := by
  cases z with
  | none => exact single_next h
  | some z => exact single_settle h (by simp) (by simp)

theorem drawerOpen_single (h : s.GrantCoherent) (p : Nat) : Single (execDrawerOpen p s) := by
  unfold execDrawerOpen
  split
  · dsimp only
    split
    · exact single_settle h (by simp) (by simp)
    · exact single_of_frame h (by simp) (by simp)
  · exact single_fault _

theorem drawerClose_single (h : s.GrantCoherent) (p : Nat) (empty : Bool) : Single (execDrawerClose p empty s) := by
  unfold execDrawerClose
  split
  · dsimp only
    split
    · exact single_settle h (by simp) (by simp)
    · exact single_of_frame h (by simp) (by simp)
  · exact single_fault _

theorem floorEmpty_single (h : s.GrantCoherent) (p : Nat) : Single (execFloorEmpty p s) := by
  unfold execFloorEmpty
  split
  · dsimp only
    split
    · exact single_settle h (by simp) (by simp)
    · exact single_of_frame h (by simp) (by simp)
  · exact single_fault _

/-- R169: a start leaves empty queues and no grant, before the sensors are read. -/
theorem cleared_coherent (hf : t.feeds = State.reset.feeds) (hg : t.grant = none) : t.GrantCoherent := by
  refine coherent_of_no_grant hg fun l => ?_
  rw [hf]
  cases l <;> exact fun _ hx => nomatch hx

theorem startKept_coherent (pins : Pins) (s : State) : (startKept pins s).GrantCoherent :=
  cleared_coherent (by simp [startKept, rescanPockets, keptPart, clearedPart])
    (by simp [startKept, rescanPockets, keptPart, clearedPart, State.reset])

theorem startUpReads_coherent (h : s.GrantCoherent) : (startUpReads s).GrantCoherent := by
  have hread (x : State) (hx : x.GrantCoherent) (b : Bool) (d : FaultDetail) :
      (if b then raiseFault x d else x).GrantCoherent := by
    cases b
    · exact hx
    · exact raiseFault_coherent hx d
  exact hread _ (hread s h _ _) _ _

theorem powerOn_single (pins : Pins) (s : State) : Single (execPowerOn pins s) := by
  unfold execPowerOn
  refine single_next (startUpReads_coherent ?_)
  split
  · exact startKept_coherent pins s
  · exact cleared_coherent rfl rfl

/-! ## Every command -/

/-- R27, R42: no command leaves a grant that is not single. -/
theorem exec_single (h : s.GrantCoherent) (c : Instr) : Single (exec c s) := by
  cases c with
  | frameReceived l => exact single_of_frame h (by simp) (by simp)
  | unknownKind l =>
    refine single_next ?_
    split
    · exact h
    · split
      · exact h
      · exact coherent_of_frame h (by simp) (by simp)
  | announce l => exact single_handle h fun f x hx => settle_coherent (arrive_coherent hx _)
  | openJob l => exact single_handle h fun f x hx => coherent_of_frame hx ownOpenJob_frame.1 ownOpenJob_frame.2
  | closeJob l => exact single_handle h fun f x hx => coherent_of_frame hx ownCloseJob_frame.1 ownCloseJob_frame.2
  | loadClass l | loadSeats l | loadPlan l | loadGrade l | loadPocket l | loadTransport l =>
    exact single_handle h fun f x hx => coherent_of_frame hx (by simp) (by simp)
  | commit l pins => exact single_handle h fun f x hx => ownCommit_coherent hx pins
  | insert l => exact single_handle h fun f x hx => ownInsert_coherent hx
  | run l => exact single_handle h fun f x hx => coherent_of_frame hx ownRun_frame.1 ownRun_frame.2
  | standby l => exact single_handle h fun f x hx => coherent_of_frame hx ownStandby_frame.1 ownStandby_frame.2
  | clear l pins =>
    exact single_handle h fun f x hx => coherent_of_frame hx (ownClear_frame pins).1 (ownClear_frame pins).2
  | markRetained l =>
    exact single_handle h fun f x hx => coherent_of_frame hx (by simp [ownMarkRetained]) (by simp [ownMarkRetained])
  | clearCounts l => exact single_handle h fun f x hx => coherent_of_frame hx (by simp) (by simp)
  | askStatus l | askJob l | askPocket l | askQueue l | askCapture l | askEntry l | askSet l =>
    exact single_handle h fun f x hx => coherent_of_frame hx (ask_frame _ _).1 (ask_frame _ _).2
  | transmitComplete l =>
    refine single_next ?_
    split
    · exact settle_coherent (finishFrame_coherent h l)
    · exact finishFrame_coherent h l
  | leadCapture l x => exact leadCapture_single h x
  | trailCapture l x =>
    refine single_next ?_
    split <;> exact coherent_of_frame h (by simp) (by simp)
  | gateDecision =>
    refine single_next ?_
    split
    · exact h
    · split
      · exact settle_coherent (coherent_of_frame h (by simp) (by simp))
      · exact h
  | arrivalDeadline i => exact arrivalDeadline_single h i
  | stLeadEdge => exact stLeadEdge_single h
  | spLeadEdge => exact spLeadEdge_single h
  | stSpTrailEdge x => exact single_of_frame h rfl rfl
  | binEmptied => exact single_settle h (by simp) (by simp)
  | feedWindowExpiry => exact feedWindowExpiry_single h
  | stallTimerExpiry =>
    refine single_next ?_
    split
    · exact settle_coherent (coherent_of_frame h (by simp) (by simp))
    · exact h
  | shelfUp =>
    refine single_next ?_
    split
    · exact settle_coherent (coherent_of_frame h (by simp) (by simp))
    · exact h
  | shelfDown =>
    refine single_next ?_
    split
    · exact settle_coherent (coherent_of_frame h (by simp) (by simp))
    · exact h
  | motionTimerExpiry => exact faultExpiry_single h s.timers.motion FaultCause.shelfJam.plain
  | staplerCompletion =>
    refine single_next ?_
    split
    · dsimp only
      split
      · exact settle_coherent (coherent_of_frame h (by simp) (by simp))
      · exact coherent_of_frame h (by simp) (by simp)
    all_goals exact h
  | completionTimerExpiry =>
    refine single_next ?_
    split
    · split
      · exact settle_coherent (coherent_of_frame h (by simp) (by simp))
      · exact coherent_of_frame h (by simp) (by simp)
    · exact h
  | recoveryWindowEnd =>
    refine single_next ?_
    split
    · exact coherent_of_frame h (by simp) (by simp)
    · exact h
  | staplerHome =>
    refine single_next ?_
    split
    · exact coherent_of_frame h rfl rfl
    all_goals exact h
  | cartridgeInserted => exact single_of_frame h (by simp) (by simp)
  | setReceived =>
    refine single_next ?_
    split
    · exact settle_coherent (coherent_of_frame h (by simp) (by simp))
    · exact h
  | ejectTimerExpiry => exact faultExpiry_single h s.timers.eject FaultCause.towerJam.plain
  | depositComplete =>
    refine single_next ?_
    split
    · exact settle_coherent (coherent_of_frame h (by simp) (by simp))
    · exact h
  | deliveryTimerExpiry => exact faultExpiry_single h s.timers.delivery FaultCause.towerJam.plain
  | drawerOpen p => exact drawerOpen_single h p
  | drawerClose p empty => exact drawerClose_single h p empty
  | floorEmpty p => exact floorEmpty_single h p
  | stackerEmptied => exact single_settle h (by simp) (by simp)
  | insertPosition =>
    refine single_next ?_
    split
    · exact coherent_of_frame h (by simp) (by simp)
    · exact h
  | positioningTimerExpiry =>
    refine single_next ?_
    split
    · exact raiseFault_coherent h _
    · exact h
  | siEvent =>
    refine single_next ?_
    split
    · exact settle_coherent (coherent_of_frame h (by simp) (by simp))
    · exact h
  | insDone => exact sessionEnd_single h (activeSession s) .insDone
  | firstSheetTimerExpiry => exact sessionEnd_single h (timedSession s .firstSheet) .noFirstSheet
  | betweenSheetsTimerExpiry => exact sessionEnd_single h (timedSession s .betweenSheets) .sheetGap
  | homeEvent =>
    refine single_next ?_
    split
    · exact settle_coherent (coherent_of_frame h (by simp) (by simp))
    · exact h
  | atSpeed =>
    refine single_next ?_
    split
    · exact settle_coherent (coherent_of_frame h (by simp) (by simp))
    all_goals exact h
  | warmupTimerExpiry => exact faultExpiry_single h s.timers.warmup FaultCause.warmup.plain
  | retLow => exact single_of_frame h (by simp) (by simp)
  | powerOn pins => exact powerOn_single pins s
  | resetLine pins => exact single_next (startUpReads_coherent (startKept_coherent pins s))
  | characterReceived l c => exact single_of_frame h (by simp) (by simp)

/-- R71: what the part does by its own clock: a due command, or one tick. -/
theorem selfStep_single (h : s.GrantCoherent) : Single (selfStep s) := by
  have hraced : s.raced.GrantCoherent := coherent_of_frame h rfl rfl
  unfold selfStep
  split
  · exact single_of_frame h rfl rfl
  · exact exec_single h _
  · exact exec_single hraced _

end Commands

/-- Settles O7: every command keeps the grant single (`exec_single`), and so does a tick. -/
theorem everyStepKeepsTheGrantSingle : Obligations.EveryStepKeepsTheGrantSingle := by
  unfold Obligations.EveryStepKeepsTheGrantSingle
  intro s t h hstep
  unfold step at hstep
  split at hstep
  next => exact selfStep_single h t hstep
  next c rest _ =>
    have hpending : (s.withPending rest).GrantCoherent := coherent_of_frame h rfl rfl
    exact exec_single hpending c t hstep

end Sys2Proof.Machine.FeedQueues
end

section
/-!
PROOFS. The bounds of the part's lists and counts, component by component, and the shared operations of the links, the
jobs, the tables, the feed queues and the pockets that keep them (R8, R9, R17, R24, R118, R135, R151 to R153).
-/
namespace Sys2Proof.Machine.Bounds

section Lemmas
variable {s t u : State}

/-! ## The components -/

def LinksWithin (p : Pair LinkPort) : Prop := ∀ l, (p.get l).Bounded

def FeedsWithin (p : Pair Feed) : Prop := ∀ l, (p.get l).Bounded

def PathWithin (p : Path) : Prop := p.entries.length ≤ 4 ∧ p.purgeCount ≤ 65535

def TrayWithin (x : Tray) : Prop := ∀ r ∈ x.held, r.trayHeight ≤ 1200

def ShelfWithin (x : Shelf) : Prop :=
  x.stack.length ≤ 2 ∧ (x.motion = .lifting → x.stack.length < 2) ∧ ∀ r ∈ x.stack, r.trayHeight ≤ 1200

def JobsWithin (js : List Job) : Prop := js.length ≤ 16 ∧ (js.map (·.number)).Nodup ∧ ∀ j ∈ js, j.Bounded

def PocketsWithin (ks : List Pocket) : Prop := ks.length = 40 ∧ ∀ k ∈ ks, k.setCount ≤ 255

def ClassWithin (e : Entry ClassBody) : Prop := e.active.seatCount ≤ 40 ∧ ∀ b ∈ e.pending, b.seatCount ≤ 40

def PlanWithin (e : Entry PlanBody) : Prop := e.active.parts.length ≤ 6 ∧ ∀ b ∈ e.pending, b.parts.length ≤ 6

structure TablesWithin (x : Tables) : Prop where
  sizes : x.classes.length = 24 ∧ x.plans.length = 16 ∧ x.grades.length = 8 ∧ x.pockets.length = 40
  classes : ∀ e ∈ x.classes, ClassWithin e
  plans : ∀ e ∈ x.plans, PlanWithin e

def SessionWithin (o : Option Session) : Prop := ∀ z ∈ o, z.inserted < z.expected ∧ z.expected ≤ 20

/-- From the first state to the second no component leaves its bounds. -/
structure Keeps (s t : State) : Prop where
  links : LinksWithin s.links → LinksWithin t.links
  feeds : FeedsWithin s.feeds → FeedsWithin t.feeds
  path : PathWithin s.path → PathWithin t.path
  tray : TrayWithin s.tray → TrayWithin t.tray
  shelf : ShelfWithin s.shelf → ShelfWithin t.shelf
  jobs : JobsWithin s.jobs → JobsWithin t.jobs
  cartridge : s.stapler.cartridge ≤ 5000 → t.stapler.cartridge ≤ 5000
  further : s.fault.further ≤ 255 → t.fault.further ≤ 255
  pockets : PocketsWithin s.pockets → PocketsWithin t.pockets
  tables : TablesWithin s.tables → TablesWithin t.tables
  session : SessionWithin s.session → SessionWithin t.session

theorem tables_within (h : s.Bounded) : TablesWithin s.tables := ⟨h.tables, h.seatCounts, h.planParts⟩

theorem Keeps.bounded (h : Keeps s t) (hs : s.Bounded) : t.Bounded := by
  obtain ⟨hpath, hpurge⟩ := h.path ⟨hs.path, hs.purgeCount⟩
  obtain ⟨hshelf, hlifting, hstack⟩ := h.shelf ⟨hs.shelf, hs.lifting, hs.heights.2⟩
  obtain ⟨hjobs, hnumbers, hrecords⟩ := h.jobs ⟨hs.jobs, hs.jobRecords.1, hs.jobRecords.2⟩
  obtain ⟨hpockets, hcounts⟩ := h.pockets ⟨hs.pockets, hs.setCounts⟩
  have htables := h.tables (tables_within hs)
  exact
    { links := h.links hs.links, feeds := h.feeds hs.feeds, path := hpath, purgeCount := hpurge, shelf := hshelf
      lifting := hlifting, jobs := hjobs, jobRecords := ⟨hnumbers, hrecords⟩, cartridge := h.cartridge hs.cartridge
      further := h.further hs.further, pockets := hpockets, tables := htables.sizes, seatCounts := htables.classes
      planParts := htables.plans, setCounts := hcounts, heights := ⟨h.tray hs.heights.1, hstack⟩
      session := h.session hs.session }

theorem Keeps.refl : Keeps s s := ⟨id, id, id, id, id, id, id, id, id, id, id⟩

theorem Keeps.trans (h : Keeps s t) (g : Keeps t u) : Keeps s u :=
  ⟨g.links ∘ h.links, g.feeds ∘ h.feeds, g.path ∘ h.path, g.tray ∘ h.tray, g.shelf ∘ h.shelf, g.jobs ∘ h.jobs,
    g.cartridge ∘ h.cartridge, g.further ∘ h.further, g.pockets ∘ h.pockets, g.tables ∘ h.tables, g.session ∘ h.session⟩

theorem Keeps.after (g : Keeps t u) (h : Keeps s t) : Keeps s u := h.trans g

/-- What the bounds speak of. -/
def boundsView (s : State) : Pair LinkPort × Pair Feed × Path × Tray × Shelf × List Job × Nat × Nat × List Pocket ×
    Tables × Option Session :=
  (s.links, s.feeds, s.path, s.tray, s.shelf, s.jobs, s.stapler.cartridge, s.fault.further, s.pockets, s.tables,
    s.session)

theorem Keeps.of_view (h : boundsView t = boundsView s) : Keeps s t := by
  simp only [boundsView, Prod.mk.injEq] at h
  obtain ⟨hlinks, hfeeds, hpath, htray, hshelf, hjobs, hcartridge, hfurther, hpockets, htables, hsession⟩ := h
  constructor
  case links => exact hlinks ▸ id
  case feeds => exact hfeeds ▸ id
  case path => exact hpath ▸ id
  case tray => exact htray ▸ id
  case shelf => exact hshelf ▸ id
  case jobs => exact hjobs ▸ id
  case cartridge => exact hcartridge ▸ id
  case further => exact hfurther ▸ id
  case pockets => exact hpockets ▸ id
  case tables => exact htables ▸ id
  case session => exact hsession ▸ id

theorem satSucc_le (top n : Nat) : satSucc top n ≤ top := Nat.min_le_left _ _

/-! ## Links (R151 to R153) -/

variable {l : Link} {k : LinkPort} {o : Outbound}

theorem pairWithin_set {α : Type} {P : α → Prop} {p : Pair α} (l : Link) {v : α} (h : ∀ m, P (p.get m))
    (hv : P (p.get l) → P v) (m : Link) : P ((p.set l v).get m) := by
  by_cases hm : m = l
  · subst hm
    rw [Pair.get_set_same]
    exact hv (h m)
  · rw [Pair.get_set_other _ _ hm]
    exact h m

theorem changePort_keeps (l : Link) {f : LinkPort → LinkPort} (hf : ∀ k : LinkPort, k.Bounded → (f k).Bounded) :
    Keeps s (changePort s l f) := by
  constructor
  case links => exact fun h => pairWithin_set l h (hf _)
  all_goals simp

theorem enqueue_bounded (o : Outbound) (h : k.Bounded) : (k.enqueue o).Bounded := by
  unfold LinkPort.enqueue
  split
  next hroom =>
    have hlength : (k.queue ++ [o]).length ≤ 8 := List.length_append.trans_le hroom
    exact { h with queue := hlength }
  next => exact { h with dropped := satSucc_le _ _ }

theorem startNext_bounded (address : BitVec 3) (h : k.Bounded) : (k.startNext address).Bounded := by
  unfold LinkPort.startNext
  split
  · exact h
  · split
    · exact { h with }
    · split
      next o rest hq =>
        have hlength := h.queue
        rw [hq, List.length_cons] at hlength
        exact { h with queue := Nat.le_of_succ_le hlength }
      next => exact h

theorem received_bounded (h : k.Bounded) (r : Receiver × RxEvent) : (k.received r).Bounded := by
  unfold LinkPort.received
  split
  · exact { h with }
  · exact { h with framingErrors := satSucc_le _ _ }
  · exact { h with checkErrors := satSucc_le _ _ }
  · split
    next hroom =>
      have hlength {f : Frame} : (k.fifo ++ [f]).length ≤ 4 := List.length_append.trans_le hroom
      exact { h with fifo := hlength }
    next => exact { h with overruns := satSucc_le _ _ }

theorem pump_keeps (l : Link) : Keeps s (pump s l) := by
  unfold pump
  split
  · exact changePort_keeps l fun _ => startNext_bounded _
  · exact .refl

theorem queueOut_keeps (l : Link) (o : Outbound) : Keeps s (queueOut s l o) :=
  (pump_keeps l).after (changePort_keeps l fun _ => enqueue_bounded o)

theorem answerTo_keeps (l : Link) (f : Frame) (r : Result) (body : List Data) : Keeps s (answerTo s l f r body) := by
  unfold answerTo answer
  split
  · exact .refl
  · exact queueOut_keeps _ _

theorem refuse_keeps (l : Link) (f : Frame) (r : Reason) : Keeps s (refuse s l f r) := answerTo_keeps l f _ _

theorem notify_keeps (r j : Nat) (b : NoticeBody) : Keeps s (notify s r j b) := queueOut_keeps _ _

theorem notifyPlain_keeps (b : NoticeBody) : Keeps s (notifyPlain s b) := notify_keeps _ _ _

theorem notifyAnnounced_keeps (n : Nat) (b : NoticeBody) : Keeps s (notifyAnnounced s n b) := notify_keeps _ _ _

theorem notifyJob_keeps (n : Nat) (b : NoticeBody) : Keeps s (notifyJob s n b) := by
  unfold notifyJob
  split <;> exact notify_keeps _ _ _

theorem placeInLane_keeps (l : Link) (o : Outbound) : Keeps s (placeInLane s l o) :=
  (pump_keeps l).after (changePort_keeps l fun _ h => { h with })

theorem noteGrantSending_keeps (l : Link) : Keeps s (noteGrantSending s l) := .of_view (by simp [boundsView])

theorem finishFrame_keeps (l : Link) : Keeps s (finishFrame s l) := by
  unfold finishFrame
  split
  · exact .refl
  · dsimp only
    refine Keeps.trans ?_ (noteGrantSending_keeps l)
    refine Keeps.trans ?_ (pump_keeps l)
    refine Keeps.trans ?_ (changePort_keeps l fun _ h => { h with })
    split
    · split
      · exact .of_view (by simp [boundsView])
      · exact .refl
    · exact .refl

theorem takeFrame_keeps (l : Link) : Keeps s (takeFrame s l) :=
  changePort_keeps l fun k h => { h with fifo := (List.tail_sublist k.fifo).length_le.trans h.fifo }

theorem receiveChr_keeps (l : Link) (c : Chr) : Keeps s (receiveChr l c s) := by
  unfold receiveChr
  split
  · exact changePort_keeps l fun _ h => received_bounded h _
  · exact .refl

theorem clearAllCounts_keeps : Keeps s (clearAllCounts s) := by
  have hcleared (k : LinkPort) (h : k.Bounded) : k.clearCounts.Bounded :=
    { h with framingErrors := Nat.zero_le _, checkErrors := Nat.zero_le _, overruns := Nat.zero_le _
             dropped := Nat.zero_le _ }
  exact (changePort_keeps .a hcleared).trans (changePort_keeps .b hcleared)

/-! ## Jobs (R8, R9, R14, R17) -/

variable {j : Job} {seat : Nat}

/-- The change keeps a record's number and its ranges. -/
def KeepsJob (f : Job → Job) : Prop := ∀ j : Job, j.Bounded → (f j).Bounded ∧ (f j).number = j.number

theorem KeepsJob.comp {f g : Job → Job} (hg : KeepsJob g) (hf : KeepsJob f) : KeepsJob (fun j => g (f j)) := by
  intro j h
  obtain ⟨hfb, hfn⟩ := hf j h
  obtain ⟨hgb, hgn⟩ := hg _ hfb
  exact ⟨hgb, hgn.trans hfn⟩

theorem withSeat_keepsJob (seat : Nat) (st : SeatStatus) : KeepsJob (fun j => j.withSeat seat st) := by
  intro j h
  dsimp only
  unfold Job.withSeat
  split
  · exact ⟨h, rfl⟩
  · exact ⟨{ h with seats := by simpa using h.seats, reprint := by simpa using h.reprint }, rfl⟩

theorem raise_keepsJob (c : OutcomeCount) : KeepsJob (fun j => j.raise c) := by
  intro j h
  cases c
  case delivered => exact ⟨{ h with delivered := satSucc_le _ _ }, rfl⟩
  case diverted => exact ⟨{ h with diverted := satSucc_le _ _ }, rfl⟩
  case exception => exact ⟨{ h with exceptions := satSucc_le _ _ }, rfl⟩
  case lost => exact ⟨{ h with lost := satSucc_le _ _ }, rfl⟩

/-- R17: a seat joins the reprint list once, and only a seat of the job. -/
theorem addReprint_keepsJob (seat : Nat) : KeepsJob (fun j => j.addReprint seat) := by
  intro j h
  dsimp only
  unfold Job.addReprint
  split
  next => exact ⟨h, rfl⟩
  next hjoins =>
    simp only [Bool.or_eq_true, List.contains_iff_mem, beq_iff_eq, decide_eq_true_eq, not_or, Nat.not_lt] at hjoins
    obtain ⟨⟨hnew, hseat⟩, hle⟩ := hjoins
    obtain ⟨hnodup, hseats⟩ := h.reprint
    refine ⟨{ h with reprint := ⟨?_, ?_⟩ }, rfl⟩
    · exact List.nodup_append.2 ⟨hnodup, List.nodup_singleton _, by simpa using fun n hn e => hnew (by rwa [← e])⟩
    · exact List.forall_mem_append.2 ⟨hseats, List.forall_mem_singleton.2 ⟨Nat.pos_of_ne_zero hseat, hle⟩⟩

theorem removeReprint_keepsJob (seat : Nat) : KeepsJob (fun j => j.removeReprint seat) := fun _ h =>
  ⟨{ h with reprint := ⟨h.reprint.1.filter _, fun n hn => h.reprint.2 n (List.mem_of_mem_filter hn)⟩ }, rfl⟩

theorem ite_keepsJob {f g : Job → Job} (b : Bool) (hf : KeepsJob f) (hg : KeepsJob g) :
    KeepsJob (fun j => if b then f j else g j) := by
  cases b
  · exact hg
  · exact hf

theorem jobsWithin_map {js : List Job} {f : Job → Job} (hf : KeepsJob f) (h : JobsWithin js) :
    JobsWithin (js.map f) := by
  obtain ⟨hlength, hnumbers, hrecords⟩ := h
  refine ⟨by simpa using hlength, ?_, ?_⟩
  · have hsame : (js.map f).map (·.number) = js.map (·.number) := by
      simpa using fun j hj => (hf j (hrecords j hj)).2
    exact hsame ▸ hnumbers
  · simpa using fun j hj => (hf j (hrecords j hj)).1

theorem jobsWithin_filter {js : List Job} (p : Job → Bool) (h : JobsWithin js) : JobsWithin (js.filter p) :=
  ⟨(List.length_filter_le p js).trans h.1, h.2.1.sublist (List.filter_sublist.map _),
    fun j hj => h.2.2 j (List.mem_of_mem_filter hj)⟩

theorem changeJob_keeps (n : Nat) {f : Job → Job} (hf : KeepsJob f) : Keeps s (changeJob s n f) := by
  have hone : KeepsJob (fun j => if j.number == n then f j else j) := by
    intro j h
    dsimp only
    split
    · exact hf j h
    · exact ⟨h, rfl⟩
  constructor
  case jobs => exact jobsWithin_map hone
  all_goals simp

theorem dropJob_keeps (n : Nat) : Keeps s (dropJob s n) := by
  constructor
  case jobs => exact jobsWithin_filter _
  all_goals simp

theorem accountOutcome_keeps (n seat : Nat) (st : SeatStatus) (c : OutcomeCount) :
    Keeps s (accountOutcome s n seat st c) :=
  changeJob_keeps n (ite_keepsJob _ (raise_keepsJob c) ((withSeat_keepsJob seat st).comp (raise_keepsJob c)))

theorem addReprint_keeps (n seat : Nat) : Keeps s (addReprint s n seat) := changeJob_keeps n (addReprint_keepsJob seat)

theorem removeReprint_keeps (n seat : Nat) : Keeps s (removeReprint s n seat) :=
  changeJob_keeps n (removeReprint_keepsJob seat)

theorem accountLost_keeps (n seat : Nat) : Keeps s (accountLost s n seat) :=
  (accountOutcome_keeps n seat _ _).trans (addReprint_keeps n seat)

theorem accountSegmentLoss_keeps (n seat : Nat) : Keeps s (accountSegmentLoss s n seat) :=
  (changeJob_keeps n (raise_keepsJob .lost)).trans (addReprint_keeps n seat)

theorem accountEmpty_keeps (n seat : Nat) (flags : SetFlags) : Keeps s (accountEmpty s n seat flags) := by
  unfold accountEmpty
  dsimp only
  split
  · exact (accountOutcome_keeps n seat _ _).trans (addReprint_keeps n seat)
  · exact accountOutcome_keeps n seat _ _

theorem accountDeposit_keeps (g : Segment) (p : Place) : Keeps s (accountDeposit s g p) := by
  unfold accountDeposit
  dsimp only
  have houtcome (o : SeatStatus × OutcomeCount) : Keeps s (accountOutcome s g.job g.seat o.1 o.2) :=
    accountOutcome_keeps _ _ _ _
  split
  · exact (addReprint_keeps _ _).after (houtcome _)
  · split
    case h_1 | h_2 | h_3 => exact (removeReprint_keeps _ _).after (houtcome _)
    all_goals exact houtcome _

theorem accountSession_keeps (n seat inserted : Nat) : Keeps s (accountSession s n seat inserted) := by
  unfold accountSession
  split
  · exact .refl
  · exact changeJob_keeps n
      (ite_keepsJob _ (removeReprint_keepsJob seat) ((withSeat_keepsJob seat .late).comp (removeReprint_keepsJob seat)))

theorem removeIfClosed_keeps (j : Job) : Keeps s (removeIfClosed s j) := by
  unfold removeIfClosed
  split
  · exact .refl
  · split
    · exact .refl
    · exact (dropJob_keeps _).trans (notify_keeps _ _ _)

theorem removeClosed_keeps : Keeps s (removeClosed s) := by
  have hfold (js : List Job) : ∀ s, Keeps s (js.foldl removeIfClosed s) := by
    induction js with
    | nil => exact fun _ => .refl
    | cons j js ih => exact fun s => (removeIfClosed_keeps j).trans (ih _)
  exact hfold _ s

/-! ## Tables (R1, R3, R135 to R142) -/

theorem forall_mem_changeAt {α : Type} {P : α → Prop} {f : α → α} (hf : ∀ x, P x → P (f x)) (i : Nat) {xs : List α}
    (h : ∀ x ∈ xs, P x) : ∀ x ∈ changeAt i f xs, P x := by
  induction xs generalizing i with
  | nil => simp [changeAt]
  | cons y ys ih =>
    obtain ⟨hy, hys⟩ := List.forall_mem_cons.1 h
    cases i with
    | zero => exact List.forall_mem_cons.2 ⟨hf y hy, hys⟩
    | succ i => exact List.forall_mem_cons.2 ⟨hy, ih i hys⟩

theorem class_apply {e : Entry ClassBody} (h : ClassWithin e) : ClassWithin e.apply := by
  unfold Entry.apply
  split
  · refine ⟨?_, fun b hb => nomatch hb⟩
    cases hp : e.pending with
    | none => exact h.1
    | some b => exact h.2 b hp
  · exact h

theorem plan_apply {e : Entry PlanBody} (h : PlanWithin e) : PlanWithin e.apply := by
  unfold Entry.apply
  split
  · refine ⟨?_, fun b hb => nomatch hb⟩
    cases hp : e.pending with
    | none => exact h.1
    | some b => exact h.2 b hp
  · exact h

theorem changeRefs_keeps (plan cls : Nat) (f : Nat → Nat) : Keeps s (changeRefs s plan cls f) := by
  constructor
  case tables =>
    intro h
    refine ⟨by simpa [changeRefs] using h.sizes, ?_, ?_⟩
    · exact forall_mem_changeAt (f := Entry.withRefs f) (fun _ he => he) cls h.classes
    · exact forall_mem_changeAt (f := Entry.withRefs f) (fun _ he => he) plan h.plans
  all_goals exact id

theorem apply_within {x : Tables} (h : TablesWithin x) : TablesWithin x.apply := by
  refine ⟨by simpa [Tables.apply] using h.sizes, ?_, ?_⟩
  · exact List.forall_mem_map.2 fun e he => class_apply (h.classes e he)
  · exact List.forall_mem_map.2 fun e he => plan_apply (h.plans e he)

theorem mark_within {x : Tables} (scope : Nat) (h : TablesWithin x) : TablesWithin (x.mark scope) := by
  have hclasses : ∀ e ∈ x.classes.map Entry.mark, ClassWithin e := List.forall_mem_map.2 h.classes
  have hplans : ∀ e ∈ x.plans.map Entry.mark, PlanWithin e := List.forall_mem_map.2 h.plans
  refine ⟨?_, ?_, ?_⟩
  · simpa [Tables.mark, apply_ite List.length] using h.sizes
  · dsimp only [Tables.mark]
    split
    · exact hclasses
    · exact h.classes
  · dsimp only [Tables.mark]
    split
    · exact hplans
    · exact h.plans

theorem keeps_of_tables {x : Tables} (h : TablesWithin s.tables → TablesWithin x) : Keeps s { s with tables := x } :=
  ⟨id, id, id, id, id, id, id, id, id, h, id⟩

theorem commitDoneTest_keeps (n : Nat) : Keeps s (commitDoneTest s n) := by
  unfold commitDoneTest
  split
  · exact .refl
  · exact notifyPlain_keeps _

theorem applyReleased_keeps : Keeps s (applyReleased s) := by
  unfold applyReleased
  dsimp only
  split
  · exact .refl
  · exact (keeps_of_tables apply_within).trans (commitDoneTest_keeps _)

/-! ## Feed queues (R24, R32) -/

theorem changeFeed_keeps (l : Link) {f : Feed → Feed} (hf : (s.feeds.get l).Bounded → (f (s.feeds.get l)).Bounded) :
    Keeps s (changeFeed s l f) := by
  constructor
  case feeds => exact fun h => pairWithin_set l h hf
  all_goals simp

theorem changeHead_keeps (l : Link) (f : QueueEntry → QueueEntry) : Keeps s (changeHead s l f) :=
  changeFeed_keeps l fun h => { h with entries := by simpa using h.entries }

theorem dropHead_keeps (l : Link) : Keeps s (dropHead s l) :=
  changeFeed_keeps l fun h => { h with entries := (List.tail_sublist _).length_le.trans h.entries }

theorem captureHead_keeps (l : Link) (d : Desc) (r : FaultyReason) : Keeps s (captureHead s l d r) :=
  (changeFeed_keeps l fun h => { h with count := satSucc_le _ _ }).trans (notifyAnnounced_keeps _ _)

theorem newHead_keeps (l : Link) : Keeps s (newHead s l) := by
  unfold newHead
  split
  · exact .refl
  · dsimp only
    split
    · exact (changeHead_keeps l _).trans (captureHead_keeps l _ _)
    · exact changeHead_keeps l _

theorem arrive_keeps (l : Link) (d : Desc) : Keeps s (arrive s l d) := by
  unfold arrive
  split
  next => exact notifyAnnounced_keeps _ _
  next hroom =>
    have hjoins : Keeps s (appendDesc s l d) := by
      refine changeFeed_keeps l fun h => { h with entries := ?_ }
      exact List.length_append.trans_le (Nat.lt_of_not_le hroom)
    split
    · exact hjoins.trans (newHead_keeps l)
    · exact hjoins

/-! ## Pockets (R115, R118 to R123) -/

variable {g : Segment}

theorem changePocket_keeps (p : Nat) {f : Pocket → Pocket} (hf : ∀ k : Pocket, k.setCount ≤ 255 → (f k).setCount ≤ 255) :
    Keeps s (changePocket s p f) := by
  constructor
  case pockets => exact fun h => ⟨by simpa using h.1, forall_mem_changeAt hf p h.2⟩
  all_goals simp

theorem fillUp_keeps (p r n : Nat) (c : Option Nat) : Keeps s (fillUp s p r n c) :=
  (notify_keeps _ _ _).after (changePocket_keeps p fun _ h => h)

theorem judgeOptions_keeps (g : Segment) (c : Nat) (os : List ChainOption) : ∀ s, Keeps s (judgeOptions s g c os).1 := by
  induction os with
  | nil => exact fun _ => .refl
  | cons o os ih =>
    intro s
    unfold judgeOptions
    split
    · split
      · exact .refl
      · exact ih s
    · split
      · split
        · exact .refl
        · exact (fillUp_keeps _ _ _ _).trans (ih _)
      · exact ih s

theorem aim_keeps (os : List ChainOption) : Keeps s (aim s os) := by
  unfold aim
  split
  next g c _ _ =>
    have hjudged := judgeOptions_keeps g c os s
    split
    next x o hx =>
      rw [hx] at hjudged
      exact hjudged.trans (.of_view rfl)
    next x hx =>
      rw [hx] at hjudged
      refine hjudged.trans ?_
      unfold block
      dsimp only
      split
      · exact .of_view rfl
      all_goals exact (notify_keeps _ _ _).after (.of_view rfl)
  next => exact .refl

theorem retry_keeps : Keeps s (retry s) := by
  unfold retry
  split
  · split
    · exact aim_keeps _
    · exact .refl
  all_goals exact .refl

theorem retarget_keeps (p : Nat) : Keeps s (retarget s p) := by
  unfold retarget
  split
  · split
    · exact aim_keeps _
    · exact .refl
  · exact .refl

theorem answerDrawerOpen_keeps (p : Nat) : Keeps s (answerDrawerOpen s p) := by
  unfold answerDrawerOpen
  split
  · exact retry_keeps
  all_goals exact retarget_keeps p

theorem depositInto_keeps (g : Segment) (c : Nat) (d : Dest) : Keeps s (depositInto s g c d) := by
  unfold depositInto
  split
  · exact .of_view rfl
  · have hdropped (p cap : Nat) : Keeps s (changePocket s p (fun k => k.deposit cap c)) :=
      changePocket_keeps p fun _ _ => satSucc_le _ _
    dsimp only
    split
    · exact (hdropped _ _).trans (fillUp_keeps _ _ _ _)
    · exact hdropped _ _

theorem emptied_setCount (k : Pocket) : k.emptied.setCount ≤ 255 := Nat.zero_le _

theorem react_setCount {k : Pocket} (h : k.setCount ≤ 255) (was now drawerIn floorEmpty : Bool) :
    (k.react was now drawerIn floorEmpty).setCount ≤ 255 := by
  unfold Pocket.react
  repeat' split
  case isTrue.isTrue => exact emptied_setCount k
  all_goals exact h

theorem returned_setCount {k : Pocket} (h : k.setCount ≤ 255) (empty : Bool) : (k.returned empty).setCount ≤ 255 := by
  unfold Pocket.returned
  split
  · exact emptied_setCount k
  · exact h

end Lemmas
end Sys2Proof.Machine.Bounds
end

section
/-!
PROOFS. The tray, the shelf, the insert session and the arbiter keep the bounds, and so does everything the part does of
itself after an event (R60, R62, R92, R128).
-/
namespace Sys2Proof.Machine.Bounds

open SetAssembly

section Lemmas
variable {s t u : State} {r : SetRec} {l : Link}

/-! ## The insert session (R128 to R134) -/

theorem keeps_of_session {o : Option Session} (h : SessionWithin s.session → SessionWithin o) :
    Keeps s { s with session := o } := ⟨id, id, id, id, id, id, id, id, id, id, h⟩

theorem releaseTower_keeps (c : EndCause) : Keeps s (releaseTower s c) := by
  unfold releaseTower
  split <;> exact .of_view rfl

theorem endSession_keeps (z : Session) (c : EndCause) : Keeps s (endSession s z c) := by
  have hreleased : Keeps s (if z.towerTaken then releaseTower s c else s) := by
    split
    · exact releaseTower_keeps c
    · exact .refl
  have hgone : Keeps s { (if z.towerTaken then releaseTower s c else s) with session := none } :=
    hreleased.trans (keeps_of_session fun _ _ h => nomatch h)
  unfold endSession
  exact removeClosed_keeps.after ((accountSession_keeps _ _ _).after ((notify_keeps _ _ _).after hgone))

theorem sessionTakesTower_keeps : Keeps s (sessionTakesTower s) := by
  unfold sessionTakesTower
  split
  next z hz _ =>
    split
    · split
      · exact endSession_keeps _ _
      · have htaken (h : SessionWithin s.session) := h z hz
        exact ⟨id, id, id, id, id, id, id, id, id, id, fun h y hy => by cases hy; exact htaken h⟩
    · exact .refl
  next => exact .refl

theorem endSessionAt_keeps (p : Nat) (c : EndCause) : Keeps s (endSessionAt s p c) := by
  unfold endSessionAt
  split
  · split
    · exact endSession_keeps _ _
    · exact .refl
  · exact .refl

theorem addSheetToPocket_keeps (z : Session) : Keeps s (addSheetToPocket s z) := by
  have hadded {f : Pocket → Nat} : Keeps s (changePocket s z.target (fun k => { k with fill := f k })) :=
    changePocket_keeps _ fun _ h => h
  unfold addSheetToPocket
  dsimp only
  split
  · exact (fillUp_keeps _ _ _ _).after hadded
  · exact hadded

/-! ## The tray (R91 to R103) -/

theorem keeps_of_tray {x : Tray} (h : TrayWithin s.tray → TrayWithin x) : Keeps s { s with tray := x } :=
  ⟨id, id, id, h, id, id, id, id, id, id, id⟩

theorem trayWithin_map {x y : Tray} {f : SetRec → SetRec} (hy : y.held = x.held.map f)
    (hf : ∀ r : SetRec, r.trayHeight ≤ 1200 → (f r).trayHeight ≤ 1200) (h : TrayWithin x) : TrayWithin y := by
  intro r hr
  rw [hy] at hr
  obtain ⟨r', hr', rfl⟩ := Option.map_eq_some_iff.1 hr
  exact hf r' (h r' hr')

theorem changeHeld_keeps {f : SetRec → SetRec} (hf : ∀ r : SetRec, r.trayHeight ≤ 1200 → (f r).trayHeight ≤ 1200) :
    Keeps s (changeHeld s f) :=
  keeps_of_tray (trayWithin_map rfl hf)

theorem tryEject_keeps : Keeps s (tryEject s) := by
  unfold tryEject
  split
  · split
    · exact ⟨id, id, id, id, id, id, id, id, id, id, id⟩
    · exact .refl
  · exact .refl

theorem toReady_keeps : Keeps s (toReady s) := by
  unfold toReady
  split
  next r c hr _ =>
    refine tryEject_keeps.after (keeps_of_tray fun h y hy => ?_)
    cases hy
    exact h r hr
  next => exact .refl

theorem requestFire_keeps (r : SetRec) : Keeps s (requestFire s r) := by
  unfold requestFire
  dsimp only
  split
  all_goals exact .of_view rfl

theorem markUnstapled_keeps (jam : Bool) : Keeps s (markUnstapled s jam) :=
  keeps_of_tray (trayWithin_map rfl fun _ h => h)

theorem stapleDecision_keeps : Keeps s (stapleDecision s) := by
  unfold stapleDecision
  split
  · exact .refl
  · have hasked (c : Option SegClose) : Keeps s { s with tray := { s.tray with close := c } } := keeps_of_tray id
    dsimp only
    split
    · exact toReady_keeps.after (hasked _)
    · split
      · exact (requestFire_keeps _).after (hasked _)
      · exact toReady_keeps.after ((markUnstapled_keeps _).after (hasked _))

theorem reportFired_keeps : Keeps s (reportFired s) := by
  unfold reportFired
  split
  · have hfired (c : Option SegClose) : Keeps s { s with tray := { s.tray with close := c } } := keeps_of_tray id
    dsimp only
    split
    · exact toReady_keeps.after (hfired _)
    · exact (requestFire_keeps _).after (hfired _)
  · exact .refl

theorem reportJam_keeps : Keeps s (reportJam s) := toReady_keeps.after (markUnstapled_keeps true)

theorem splitWaitOver_keeps : Keeps s (splitWaitOver s) := by
  unfold splitWaitOver
  split
  · exact stapleDecision_keeps
  · exact .refl

theorem beginSplit_keeps : Keeps s (beginSplit s) := splitWaitOver_keeps.after (keeps_of_tray id)

theorem tray_empty_within : TrayWithin Tray.empty := fun _ h => nomatch h

theorem emptyOutcome_keeps (r : SetRec) : Keeps s (emptyOutcome s r) := by
  have hemptied : Keeps s { s with tray := Tray.empty } := keeps_of_tray fun _ => tray_empty_within
  unfold emptyOutcome
  exact applyReleased_keeps.after <| (changeRefs_keeps _ _ _).after <| removeClosed_keeps.after <|
    (notify_keeps _ _ _).after <| (accountEmpty_keeps _ _ _).after hemptied

theorem closeFinal_keeps (r : SetRec) : Keeps s (closeFinal s r) := by
  have hclosing (c : Option SegClose) : Keeps s { s with tray := { s.tray with phase := .stapling, close := c } } :=
    keeps_of_tray id
  unfold closeFinal
  dsimp only
  split
  · split
    · exact hclosing _
    · exact (emptyOutcome_keeps r).after (hclosing _)
  · exact stapleDecision_keeps.after (hclosing _)

theorem trayToldDeposit_keeps (g : Segment) : Keeps s (trayToldDeposit s g) := by
  unfold trayToldDeposit
  split
  · split
    · exact emptyOutcome_keeps _
    · exact .refl
  · exact .refl

theorem received_within {x : Tray} (h : TrayWithin x) : TrayWithin x.received := by
  unfold Tray.received
  split
  · exact tray_empty_within
  · split
    · exact tray_empty_within
    · exact trayWithin_map rfl (fun _ _ => Nat.zero_le _) h

theorem trayToldReceived_keeps : Keeps s (trayToldReceived s) :=
  ⟨id, id, id, received_within, id, id, id, id, id, id, id⟩

/-! ## The sequencer (R40 to R62) -/

theorem endPart_height (r : SetRec) (b : PlanBody) : (r.endPart b).trayHeight = r.trayHeight := by
  unfold SetRec.endPart
  dsimp only
  split <;> rfl

theorem endPart_keeps (h : s.tray.held = some r) : Keeps s (endPart s r) := by
  refine ⟨id, id, id, fun ht => ?_, id, id, id, id, id, id, id⟩
  refine trayWithin_map rfl (fun _ _ => ?_) ht
  rw [endPart_height]
  exact ht r h

theorem advance_keeps : Keeps s (advance s) := by
  have hparts (n : Nat) : ∀ s, Keeps s (advanceParts n s) := by
    induction n with
    | zero => exact fun _ => .refl
    | succ n ih =>
      intro s
      unfold advanceParts
      split
      next => exact .refl
      next r hr =>
        obtain ⟨-, -, hheld, -⟩ := assemblingSet_some hr
        split
        · exact (endPart_keeps hheld).trans (ih _)
        · exact .refl
  exact hparts 7 s

theorem handOver_keeps : Keeps s (handOver s) := by
  rcases handOver_cases (s := s) with h | ⟨r, ho, hp, ha, hr, hg, hb⟩
  · exact h.symm ▸ .refl
  · exact handOver_of_closes ho hp ha hr hg hb ▸ closeFinal_keeps r

/-- R60, R62: a park is begun only with room on the shelf. -/
theorem preempt_keeps : Keeps s (preempt s) := by
  rcases ParkingShelf.preempt_cases (s := s) with h | ⟨r, hb, hp⟩
  · exact h.symm ▸ .refl
  · rw [ParkingShelf.preempt_of_parks hb hp]
    obtain ⟨-, hroom, -⟩ := ParkingShelf.preempts_iff.1 hp
    exact ⟨id, id, id, id, fun h => ⟨h.1, fun _ => hroom, h.2.2⟩, id, id, id, id, id, id⟩

theorem issueGrant_keeps (l : Link) (e : QueueEntry) (p : Purpose) : Keeps s (issueGrant s l e p) := by
  unfold issueGrant sendGrant
  exact (noteGrantSending_keeps _).after
    ((placeInLane_keeps _ _).after (Keeps.trans (changeHead_keeps l _) (.of_view rfl)))

theorem endPartAtGrant_keeps (d : Desc) : Keeps s (endPartAtGrant s d) := by
  unfold endPartAtGrant
  split
  next r hr =>
    split
    · exact endPart_keeps (openSet_held hr)
    · exact .refl
  next => exact .refl

theorem grantNeeded_keeps (l : Link) (e : QueueEntry) : Keeps s (grantNeeded s l e) :=
  (endPartAtGrant_keeps _).after ((issueGrant_keeps _ _ _).after (changeHeld_keeps fun _ h => h))

theorem startSet_keeps (l : Link) (e : QueueEntry) (j : Job) : Keeps s (startSet s l e j) := by
  have hlisted : Keeps s (takeRefs (changeJob s j.number (fun x => x.withSeat e.desc.seat .inProgress)) j.plan j.cls) :=
    (changeRefs_keeps _ _ _).after (changeJob_keeps _ (withSeat_keepsJob _ _))
  unfold startSet
  refine (endPartAtGrant_keeps _).after ((issueGrant_keeps _ _ _).after (hlisted.trans (keeps_of_tray fun _ => ?_)))
  intro r hr
  cases hr
  exact Nat.zero_le _

/-- A motion other than a park has no claim on a place of the shelf. -/
theorem shelfWithin_motion {x : Shelf} {m : Motion} (hm : m ≠ .lifting) (h : ShelfWithin x) :
    ShelfWithin { x with motion := m } := ⟨h.1, fun hl => absurd hl hm, h.2.2⟩

theorem beginUnpark_keeps : Keeps s (beginUnpark s) :=
  ⟨id, id, id, id, shelfWithin_motion (by decide), id, id, id, id, id, id⟩

theorem startSelection_keeps : Keeps s (startSelection s) := by
  unfold startSelection
  split
  · split
    · exact .refl
    · exact beginUnpark_keeps
    · split
      · exact .refl
      · split
        · exact .refl
        · split
          · exact startSet_keeps _ _ _
          · exact .refl
  · exact .refl

theorem servePurgeOrStart_keeps : Keeps s (servePurgeOrStart s) := by
  unfold servePurgeOrStart
  split
  · split
    · exact issueGrant_keeps _ _ _
    · exact .refl
  · exact startSelection_keeps

theorem serve_keeps : Keeps s (serve s) := by
  unfold serve
  split
  · split
    · exact servePurgeOrStart_keeps
    · split
      · exact servePurgeOrStart_keeps
      · split
        · exact servePurgeOrStart_keeps.after beginSplit_keeps
        · split
          · exact grantNeeded_keeps _ _
          · exact .refl
  · exact .refl

theorem changeRun_keeps (next : RunState) : Keeps s (changeRun s next) := (notifyPlain_keeps _).after (.of_view rfl)

theorem haltCheck_keeps : Keeps s (haltCheck s) := by
  unfold haltCheck
  split
  · exact changeRun_keeps _
  · exact .refl

theorem settle_keeps : Keeps s (settle s) := by
  cases ha : active s with
  | false =>
    rw [settle_of_stopped ha]
    exact sessionTakesTower_keeps
  | true =>
    rw [settle_of_active ha]
    have hstalled (x : State) : Keeps x (stallUpdate x) := .of_view rfl
    exact haltCheck_keeps.after <| (hstalled _).after <| advance_keeps.after <| serve_keeps.after <|
      handOver_keeps.after <| advance_keeps.after <| preempt_keeps.after <| tryEject_keeps.after sessionTakesTower_keeps

/-! ## Faults (R165, R166) -/

theorem withdrawGrant_keeps : Keeps s (withdrawGrant s) := by
  unfold withdrawGrant
  split
  next => exact .refl
  next g _ =>
    have htaken : Keeps s (takeBackGrant s g) := by
      unfold takeBackGrant
      split
      · exact changeHeld_keeps fun _ h => h
      · exact .refl
    have hframe (x : State) : Keeps x (withdrawFrame x g) := by
      unfold withdrawFrame
      split
      · exact changePort_keeps _ fun _ h => { h with }
      all_goals exact placeInLane_keeps _ _
    exact (hframe _).after (Keeps.trans ((changeHead_keeps _ _).after htaken) (.of_view rfl))

theorem freeze_keeps : Keeps s (freeze s) :=
  ⟨id, id, id, id, shelfWithin_motion (by decide), id, id, id, id, id, id⟩

theorem raiseFault_keeps (d : FaultDetail) : Keeps s (raiseFault s d) := by
  unfold raiseFault
  split
  · exact ⟨id, id, id, id, id, id, id, fun _ => satSucc_le _ _, id, id, id⟩
  · have hended (x : State) : Keeps x (faultSession x) := by
      unfold faultSession
      split
      · exact endSession_keeps _ _
      · exact .refl
    have hfreed (x : State) : Keeps x (freeHeldTower x) := by
      unfold freeHeldTower
      split <;> exact .of_view rfl
    unfold enterFaulted
    exact (hfreed _).after <| (hended _).after <| (notifyPlain_keeps _).after <| freeze_keeps.after <|
      withdrawGrant_keeps.trans (.of_view (by simp [boundsView]))

end Lemmas
end Sys2Proof.Machine.Bounds
end

section
/-!
PROOFS. The path, the shelf, the stapler, the tower and the pockets keep the bounds at their events (R73 to R92, R99 to
R123).
-/
namespace Sys2Proof.Machine.Bounds

open SetAssembly

section Lemmas
variable {s t u : State} {r : SetRec} {l : Link} {e : PathEntry} {g : Segment}

/-! ## Time -/

theorem elapse_keeps (n : Nat) : Keeps s (elapse n s) := by
  refine ⟨id, id, id, id, id, id, id, id, id, id, fun h y hy => ?_⟩
  obtain ⟨z, hz, rfl⟩ := Option.map_eq_some_iff.1 hy
  exact h z hz

theorem advanceTo_keeps (x : Tick) : Keeps s (advanceTo x s) := elapse_keeps _

/-! ## The path (R73 to R88) -/

theorem keeps_of_path {x : Path} (h : PathWithin s.path → PathWithin x) : Keeps s { s with path := x } :=
  ⟨id, id, h, id, id, id, id, id, id, id, id⟩

/-- R73: an entry joins a path list that has room for it. -/
theorem joinPath_keeps (h : s.path.entries.length < 4) (e : PathEntry) : Keeps s (joinPath s e) := by
  have hlength : (s.path.entries ++ [e]).length ≤ 4 := by simpa using h
  unfold joinPath
  split
  · have hmarked : (markConflicts (s.path.entries ++ [e])).length ≤ 4 := by simpa [markConflicts] using h
    have htold (x : State) (es : List PathEntry) : Keeps x (notifyConflict x es) := by
      unfold notifyConflict
      dsimp only
      split
      · exact notifyAnnounced_keeps _ _
      · exact notifyPlain_keeps _
    exact (htold _ _).after (keeps_of_path fun hp => ⟨hmarked, hp.2⟩)
  · exact keeps_of_path fun hp => ⟨hlength, hp.2⟩

theorem captureLead_keeps (l : Link) (x : Tick) : Keeps s (captureLead s l x) := by
  unfold captureLead
  split
  next => exact raiseFault_keeps _
  next hfull =>
    have hroom : s.path.entries.length < 4 := Nat.lt_of_not_le hfull
    split
    · unfold captureGranted
      have hended : Keeps s (dropHead { s with grant := none, timers := { s.timers with feedWindow := none } } l) :=
        (dropHead_keeps l).after (.of_view rfl)
      exact (newHead_keeps l).after (hended.trans (joinPath_keeps (by simpa using hroom) _))
    · exact joinPath_keeps hroom _

theorem changeFirst_length {α : Type} (p : α → Bool) (f : α → α) (xs : List α) :
    (changeFirst p f xs).length = xs.length := by
  induction xs with
  | nil => rfl
  | cons x xs ih =>
    unfold changeFirst
    split <;> simp [ih]

theorem matchTrail_keeps (l : Link) (x : Tick) : Keeps s (matchTrail s l x) :=
  keeps_of_path fun h => ⟨(changeFirst_length _ _ _).trans_le h.1, h.2⟩

theorem decideEntry_keeps (e : PathEntry) : Keeps s (decideEntry s e) := by
  have hrejected (x : State) (d : Desc) : Keeps x (notifyRejected x e d) := by
    unfold notifyRejected
    split
    · exact .refl
    · exact notifyJob_keeps _ _
  have hreported (x : State) : Keeps x (reportDecision x e) := by
    unfold reportDecision
    split
    · exact (hrejected _ _).after (changeHeld_keeps fun _ h => h)
    · exact .refl
  exact (hreported _).after (keeps_of_path fun h => ⟨(changeFirst_length _ _ _).trans_le h.1, h.2⟩)

theorem takeFirst_length {α : Type} {p : α → Bool} {x : α} {xs rest : List α} (h : takeFirst p xs = some (x, rest)) :
    rest.length ≤ xs.length := by
  induction xs generalizing rest with
  | nil => nomatch h
  | cons y ys ih =>
    unfold takeFirst at h
    split at h
    next => cases h; exact Nat.le_succ _
    next =>
      obtain ⟨⟨z, zs⟩, hz, heq⟩ := Option.map_eq_some_iff.1 h
      cases heq
      exact Nat.succ_le_succ (ih hz)

theorem leavePath_keeps {p : PathEntry → Bool} {rest : List PathEntry}
    (h : takeFirst p s.path.entries = some (e, rest)) :
    Keeps s { s with path := { s.path with entries := rest } } :=
  keeps_of_path fun hp => ⟨(takeFirst_length h).trans hp.1, hp.2⟩

/-- R92: the tray height saturates. -/
theorem handToTray_keeps (e : PathEntry) : Keeps s (handToTray s e) := by
  have hadded (th : Nat) : Keeps s (changeHeld s (fun r => r.addSheet th)) :=
    changeHeld_keeps fun _ _ => Nat.min_le_left _ _
  unfold handToTray
  dsimp only
  split
  · split
    · exact splitWaitOver_keeps.after (hadded _)
    · exact hadded _
  · exact hadded _

theorem raisePurgeCount_keeps : Keeps s (raisePurgeCount s) := by
  have hraised : Keeps s { s with path := { s.path with purgeCount := satSucc Config.countTop s.path.purgeCount } } :=
    keeps_of_path fun h => ⟨h.1, satSucc_le _ _⟩
  unfold raisePurgeCount
  dsimp only
  split
  · exact (notifyPlain_keeps _).after hraised
  · exact hraised

theorem accountPurged_keeps (e : PathEntry) : Keeps s (accountPurged s e) := by
  unfold accountPurged
  split
  · exact (notifyJob_keeps _ _).after (addReprint_keeps _ _)
  · exact .refl

theorem changeAt_length {α : Type} (i : Nat) (f : α → α) (xs : List α) : (changeAt i f xs).length = xs.length := by
  simp

theorem missDeadline_keeps (i : Nat) (e : PathEntry) (x : Tick) : Keeps s (missDeadline s i e x) := by
  have hreached : Keeps s (if active s then advanceTo x s else s) := by
    split
    · exact advanceTo_keeps x
    · exact .refl
  unfold missDeadline
  exact (raiseFault_keeps _).after (hreached.trans (keeps_of_path fun h => ⟨(changeAt_length _ _ _).trans_le h.1, h.2⟩))

theorem sensorFault_keeps (x : PathSensor) : Keeps s (sensorFault s x) := raiseFault_keeps _

theorem missFeed_keeps (a : Grant) (q : QueueEntry) : Keeps s (missFeed s a q) := by
  have hended : Keeps s { s with grant := none, timers := { s.timers with feedWindow := none } } := .of_view rfl
  have hlost (x : State) : Keeps x (changeHeld x (fun r => r.loseSheet q.desc.part)) := changeHeld_keeps fun _ h => h
  have htold (x : State) : Keeps x (notifyJob (dropHead x a.link) q.desc.job (.feedMissed a.link q.desc)) :=
    (dropHead_keeps _).trans (notifyJob_keeps _ _)
  have hnext (x : State) : Keeps x (removeClosed (newHead x a.link)) := (newHead_keeps _).trans removeClosed_keeps
  unfold missFeed
  cases a.purpose
  case tray => exact (hnext _).after (handOver_keeps.after ((htold _).after (hended.trans (hlost _))))
  all_goals exact (hnext _).after ((htold _).after hended)

/-! ## The shelf (R60 to R63) -/

/-- R62: the record pushed is the one that was lifted, and there is room for it. -/
theorem endPark_keeps (hm : s.shelf.motion = .lifting) (hr : s.tray.held = some r) (ht : TrayWithin s.tray) :
    Keeps s (endPark s r) := by
  refine ⟨id, id, id, fun _ => tray_empty_within, fun h => ?_, id, id, id, id, id, id⟩
  obtain ⟨-, hroom, hheights⟩ := h
  have hidle : (stopShelf s).shelf.motion ≠ .lifting := Motion.noConfusion
  exact ⟨hroom hm, fun hl => absurd hl hidle, List.forall_mem_cons.2 ⟨ht r hr, hheights⟩⟩

/-- R63: the record popped comes from the shelf. -/
theorem endUnpark_keeps {rs : List SetRec} (hr : s.shelf.stack = r :: rs) (hs : ShelfWithin s.shelf) :
    Keeps s (endUnpark s r rs) := by
  obtain ⟨hlength, -, hheights⟩ := hs
  rw [hr] at hlength hheights
  obtain ⟨hheight, hrest⟩ := List.forall_mem_cons.1 hheights
  refine ⟨id, id, id, fun _ x hx => ?_, fun _ => ?_, id, id, id, id, id, id⟩
  · cases hx
    exact hheight
  · have hidle : (stopShelf s).shelf.motion ≠ .lifting := Motion.noConfusion
    exact ⟨Nat.le_of_succ_le hlength, fun hl => absurd hl hidle, hrest⟩

/-! ## The stapler (R99 to R101) -/

theorem keeps_of_cartridge {x : Stapler} {y : Timers} (h : s.stapler.cartridge ≤ 5000 → x.cartridge ≤ 5000) :
    Keeps s { s with stapler := x, timers := y } :=
  ⟨id, id, id, id, id, id, h, id, id, id, id⟩

theorem finishFire_keeps : Keeps s (finishFire s) := keeps_of_cartridge fun h => (Nat.sub_le _ _).trans h

theorem staplesLowTest_keeps (n : Nat) : Keeps s (staplesLowTest s n) := by
  unfold staplesLowTest
  split
  · exact notifyPlain_keeps _
  · exact .refl

theorem jamStapler_keeps (o : FireOwner) : Keeps s (jamStapler s o) :=
  (notify_keeps _ _ _).after (keeps_of_cartridge id)

theorem endRecovery_keeps : Keeps s (endRecovery s) := by
  unfold endRecovery
  split <;> exact keeps_of_cartridge id

theorem cartridgeIn_keeps : Keeps s { s with stapler := { s.stapler with cartridge := Config.cartridgeFull } } :=
  keeps_of_cartridge (y := s.timers) fun _ => Nat.le_refl _

/-! ## The tower and the pockets (R108, R115 to R123) -/

theorem receiveSegment_keeps (r : SetRec) (c : SegClose) : Keeps s (receiveSegment s r c) := by
  unfold receiveSegment
  exact (aim_keeps _).after (trayToldReceived_keeps.after (.of_view rfl))

theorem afterFinal_keeps (g : Segment) : Keeps s (afterFinal s g) :=
  applyReleased_keeps.after ((changeRefs_keeps _ _ _).after removeClosed_keeps)

theorem depositSegment_keeps (g : Segment) (c : Nat) (o : ChainOption) : Keeps s (depositSegment s g c o) := by
  have hfreed (x : State) : Keeps x { x with tower := Tower.idle, timers := { x.timers with delivery := none } } :=
    .of_view rfl
  have hdropped : Keeps s
      { depositInto s g c o.dest with
        tower := Tower.idle, timers := { (depositInto s g c o.dest).timers with delivery := none } } :=
    (hfreed _).after (depositInto_keeps g c o.dest)
  have htold (x : State) (b : NoticeBody) : Keeps x (trayToldDeposit (notify x g.replyTag g.job b) g) :=
    (trayToldDeposit_keeps g).after (notify_keeps _ _ _)
  unfold depositSegment
  dsimp only
  split
  · exact (afterFinal_keeps g).after ((htold _ _).after ((accountDeposit_keeps g _).after hdropped))
  · exact (htold _ _).after hdropped

theorem withdrawPocket_keeps (p : Nat) : Keeps s (withdrawPocket s p) :=
  (notifyPlain_keeps _).after (changePocket_keeps p fun _ h => h)

theorem notifyReturned_keeps (p : Nat) : Keeps s (notifyReturned s p) := notifyPlain_keeps _

theorem tellReturned_keeps (p : Nat) : Keeps s (tellReturned s p) := by
  have hrefilled : Keeps s (notifyRefilled s p) := by
    unfold notifyRefilled
    split
    · exact notifyPlain_keeps _
    all_goals exact .refl
  exact (notifyReturned_keeps p).after hrefilled

theorem pocketOf_setCount (h : PocketsWithin s.pockets) (p : Nat) : (pocketOf s p).setCount ≤ 255 := by
  unfold pocketOf
  cases hp : s.pockets[p]? with
  | none => exact Nat.zero_le _
  | some k => exact h.2 k (List.mem_of_getElem? hp)

/-- R122: a reaction to the configuration leaves a pocket its set count, or starts it afresh. -/
theorem reactPocket_keeps (p : Nat) (old : PocketConfig) : Keeps s (reactPocket s p old) := by
  have hset {k : Pocket} (hk : PocketsWithin s.pockets → k.setCount ≤ 255) :
      Keeps s (changePocket s p (fun _ => k)) := by
    constructor
    case pockets => exact fun h => ⟨by simpa using h.1,
      forall_mem_changeAt (P := fun k : Pocket => k.setCount ≤ 255) (fun _ _ => hk h) p h.2⟩
    all_goals simp
  have hreacted (b c : Bool) (x : PocketConfig) (h : PocketsWithin s.pockets) :
      ((pocketOf s p).react old.enabled x.enabled b c).setCount ≤ 255 := react_setCount (pocketOf_setCount h p) _ _ _ _
  unfold reactPocket
  dsimp only
  split
  · refine (notifyPlain_keeps _).after (hset fun h => ?_)
    split <;> exact hreacted _ _ _ h
  · refine hset fun h => ?_
    split <;> exact hreacted _ _ _ h

theorem rescan_setCount {k : Pocket} (h : k.setCount ≤ 255) (drawerIn floorEmpty : Bool) :
    (k.rescan drawerIn floorEmpty).setCount ≤ 255 := by
  unfold Pocket.rescan
  split
  · exact h
  · split
    · exact returned_setCount h _
    · exact h
  all_goals
    split
    · exact h
    · exact h

theorem rescanFrom_setCounts (size : Nat) (pins : PocketPins) {ks : List Pocket} (h : ∀ k ∈ ks, k.setCount ≤ 255) :
    ∀ p, ∀ k ∈ rescanFrom size pins p ks, k.setCount ≤ 255 := by
  induction ks with
  | nil => exact fun _ _ hk => nomatch hk
  | cons x xs ih =>
    intro p
    obtain ⟨hx, hxs⟩ := List.forall_mem_cons.1 h
    refine List.forall_mem_cons.2 ⟨?_, ih hxs (p + 1)⟩
    split
    · exact hx
    · exact rescan_setCount hx _ _

theorem rescanPockets_keeps : Keeps s (rescanPockets s) := by
  refine ⟨id, id, id, id, id, id, id, id, fun h => ⟨?_, rescanFrom_setCounts _ _ h.2 0⟩, id, id⟩
  exact (PocketRecords.rescanFrom_length _ _ _ _).trans h.1

end Lemmas
end Sys2Proof.Machine.Bounds
end

section
/-!
PROOFS. The requests, CLEAR and the starts keep the bounds (R10, R16, R20, R126, R131, R137 to R142, R167 to R169).
-/
namespace Sys2Proof.Machine.Bounds

open SetAssembly

section Lemmas
variable {s t u : State} {r : SetRec} {l : Link} {f : Frame}

/-! ## The session (R128, R131) -/

theorem Keeps.of_session {o : Option Session} (h : Keeps { s with session := o } t)
    (hs : SessionWithin s.session → SessionWithin t.session) : Keeps s t :=
  ⟨h.links, h.feeds, h.path, h.tray, h.shelf, h.jobs, h.cartridge, h.further, h.pockets, h.tables, hs⟩

theorem activateSession_keeps {z : Session} (hz : s.session = some z) : Keeps s (activateSession s z) := by
  refine (notify_keeps _ _ _).after (keeps_of_session fun h y hy => ?_)
  cases hy
  exact h z hz

/-- R131: a session that has come to its expected count is over. -/
theorem countInserted_keeps {z : Session} (hz : s.session = some z) : Keeps s (countInserted s z) := by
  have hadded := addSheetToPocket_keeps (s := { s with session := some z.countSheet }) z.countSheet
  unfold countInserted
  dsimp only
  split
  next =>
    refine Keeps.of_session (hadded.trans (endSession_keeps _ _)) fun _ => ?_
    rw [PocketRecords.endSession_session]
    exact fun _ hy => nomatch hy
  next hcount =>
    refine hadded.of_session fun h => ?_
    obtain ⟨hlt, hle⟩ := h z hz
    have hsession : (addSheetToPocket { s with session := some z.countSheet } z.countSheet).session =
        some z.countSheet := by simp
    rw [hsession]
    intro y hy
    cases hy
    exact ⟨Nat.lt_of_le_of_ne hlt hcount, hle⟩

/-- R126: the expected count of a session is of its range. -/
theorem judgeInsert_expected {job seat grade n : Nat} {o : Job × (Nat × Place)}
    (h : judgeInsert s job seat grade n = .ok o) : 0 < n ∧ n ≤ 20 := by
  unfold judgeInsert at h
  split at h
  next => cases h
  next =>
    split at h
    next => cases h
    next =>
      split at h
      next => cases h
      next hrange =>
        simp only [not_or, Nat.not_lt] at hrange
        obtain ⟨-, -, -, -, -, hn, hle⟩ := hrange
        exact ⟨Nat.pos_of_ne_zero hn, hle⟩

theorem ownInsert_keeps : Keeps s (ownInsert l f s) := by
  unfold ownInsert
  dsimp only
  split
  next => exact refuse_keeps _ _ _
  next j x hjudged =>
    refine settle_keeps.after ((answerTo_keeps _ _ _ _).after (keeps_of_session fun _ y hy => ?_))
    cases hy
    exact judgeInsert_expected hjudged

/-! ## Jobs (R10, R11, R20) -/

theorem classOf_seatCount (h : TablesWithin s.tables) (n : Nat) : (classOf s n).seatCount ≤ 40 := by
  unfold classOf
  cases hn : s.tables.classes[n]? with
  | none => exact Nat.zero_le _
  | some e => exact (h.classes e (List.mem_of_getElem? hn)).1

/-- R8, R10: what a request that passes has of R8 and R9. -/
theorem openRefusal_none {q : OpenRequest} (h : openRefusal s q = none) :
    (1 ≤ q.job ∧ q.job ≤ 63) ∧ s.jobs.length < 16 ∧ findJob s q.job = none := by
  unfold openRefusal at h
  split at h
  next => cases h
  next =>
    split at h
    next => cases h
    next hrange =>
      split at h
      next => cases h
      next hroom =>
        split at h
        next => cases h
        next hnew =>
          simp only [not_or, Nat.not_lt] at hrange
          obtain ⟨hn, hle, -⟩ := hrange
          exact ⟨⟨Nat.pos_of_ne_zero hn, hle⟩, Nat.lt_of_not_le hroom, Option.not_isSome_iff_eq_none.1 hnew⟩

theorem newJob_bounded {q : OpenRequest} (h : TablesWithin s.tables) (hn : 1 ≤ q.job ∧ q.job ≤ 63) :
    (newJob s q).Bounded :=
  { number := hn
    seats := (List.length_replicate ..).trans_le (classOf_seatCount h _)
    delivered := Nat.zero_le _
    diverted := Nat.zero_le _
    exceptions := Nat.zero_le _
    lost := Nat.zero_le _
    reprint := ⟨List.nodup_nil, fun _ h => nomatch h⟩ }

/-- R8, R10, R11: a job is added to a list with room for it, that has none of its number. -/
theorem ownOpenJob_keeps (h : TablesWithin s.tables) : Keeps s (ownOpenJob l f s) := by
  unfold ownOpenJob
  dsimp only
  split
  next => exact refuse_keeps _ _ _
  next hpasses =>
    refine (answerTo_keeps _ _ _ _).after ⟨id, id, id, id, id, fun hj => ?_, id, id, id, id, id⟩
    obtain ⟨hlength, hnumbers, hrecords⟩ := hj
    obtain ⟨hn, hroom, hnew⟩ := openRefusal_none hpasses
    refine ⟨List.length_append.trans_le hroom, ?_, ?_⟩
    · have hother : ∀ j ∈ s.jobs, j.number ≠ (openRequest f.payload).job := by simpa [findJob] using hnew
      rw [List.map_append]
      exact List.nodup_append.2 ⟨hnumbers, List.nodup_singleton _, by simpa [newJob] using hother⟩
    · exact List.forall_mem_append.2 ⟨hrecords, List.forall_mem_singleton.2 (newJob_bounded h hn)⟩

theorem ownCloseJob_keeps : Keeps s (ownCloseJob l f s) := by
  have hclosing : KeepsJob (fun j => { j with phase := .closing }) := fun _ h => ⟨{ h with }, rfl⟩
  unfold ownCloseJob
  dsimp only
  split
  · exact refuse_keeps _ _ _
  · split
    · exact refuse_keeps _ _ _
    · split
      · exact answerTo_keeps _ _ _ _
      · split
        · exact (answerTo_keeps _ _ _ _).after (changeJob_keeps _ hclosing)
        · exact (answerTo_keeps _ _ _ _).after (dropJob_keeps _)

/-! ## Tables (R137 to R142) -/

theorem clampTo_le {lo hi v : Nat} : clampTo lo hi v ≤ hi := Nat.min_le_left _ _

variable {x y : Tables} {p : List Data} {b : Bool}

theorem judgeLoadClass_within (h : judgeLoadClass x p = .written y b) (hx : TablesWithin x) : TablesWithin y := by
  unfold judgeLoadClass at h
  split at h
  next => cases h
  next e he =>
    cases h
    obtain ⟨hsizes, hclasses, hplans⟩ := hx
    refine ⟨by simpa using hsizes, forall_mem_changeAt (fun a ha => ⟨ha.1, fun c hc => ?_⟩) _ hclasses, hplans⟩
    cases hc
    exact clampTo_le

theorem staged_seatCount {e : Entry ClassBody} (h : ClassWithin e) : e.staged.seatCount ≤ 40 := by
  unfold Entry.staged
  cases hp : e.pending with
  | none => exact h.1
  | some c => exact h.2 c hp

theorem judgeLoadSeats_within (h : judgeLoadSeats x p = .written y b) (hx : TablesWithin x) : TablesWithin y := by
  unfold judgeLoadSeats at h
  dsimp only at h
  split at h
  next => cases h
  next e he =>
    repeat' split at h
    all_goals cases h
    obtain ⟨hsizes, hclasses, hplans⟩ := hx
    refine ⟨by simpa using hsizes, forall_mem_changeAt (fun a ha => ⟨ha.1, fun c hc => ?_⟩) _ hclasses, hplans⟩
    cases hc
    exact staged_seatCount (hclasses e (List.mem_of_getElem? he))

theorem partRun_length {pos n : Nat} {ps : List (PlanPart × Bool)} (h : partRun p pos n = some ps) : ps.length = n := by
  induction n generalizing pos ps with
  | zero => cases h; rfl
  | succ n ih =>
    unfold partRun at h
    split at h
    next rest _ hrest =>
      dsimp only at h
      split at h
      · cases h
      · cases h
        simp [ih hrest]
    next => cases h

theorem judgeLoadPlan_within (h : judgeLoadPlan x p = .written y b) (hx : TablesWithin x) : TablesWithin y := by
  unfold judgeLoadPlan at h
  dsimp only at h
  split at h
  next => cases h
  next e he =>
    split at h
    next => cases h
    next hfew =>
      split at h
      next parts _ _ _ hparts _ _ _ =>
        cases h
        obtain ⟨hsizes, hclasses, hplans⟩ := hx
        refine ⟨by simpa using hsizes, hclasses, forall_mem_changeAt (fun a ha => ⟨ha.1, fun c hc => ?_⟩) _ hplans⟩
        cases hc
        simpa [partRun_length hparts] using hfew
      next => cases h

theorem judgeLoadGrade_within (h : judgeLoadGrade x p = .written y b) (hx : TablesWithin x) : TablesWithin y := by
  unfold judgeLoadGrade at h
  split at h
  next => cases h
  next =>
    cases h
    exact ⟨by simpa using hx.sizes, hx.classes, hx.plans⟩

theorem judgeLoadPocket_within (h : judgeLoadPocket x p = .written y b) (hx : TablesWithin x) : TablesWithin y := by
  unfold judgeLoadPocket at h
  split at h
  next =>
    cases h
    exact ⟨by simpa using hx.sizes, hx.classes, hx.plans⟩
  next => cases h

theorem judgeLoadTransport_within (h : judgeLoadTransport x p = .written y b) (hx : TablesWithin x) :
    TablesWithin y := by
  unfold judgeLoadTransport at h
  split at h
  next => cases h
  next =>
    cases h
    exact ⟨hx.sizes, hx.classes, hx.plans⟩

theorem load_keeps {code : Nat} {judge : Tables → List Data → LoadResult}
    (hj : ∀ {x y p b}, judge x p = .written y b → TablesWithin x → TablesWithin y) : Keeps s (load code judge l f s) := by
  unfold load
  split
  next => exact answerTo_keeps l f _ _
  next y c hw =>
    split at hw
    · exact (answerTo_keeps l f _ _).after (keeps_of_tables (hj hw))
    · cases hw

theorem afterPockets_keeps (ps : List Nat) : Keeps s (afterPockets ps s) := by
  unfold afterPockets
  split
  · exact .refl
  · dsimp only
    have hretargeted (x : State) : Keeps x (match x.tower.target.map (·.dest) with
        | some (Dest.pocket p) =>
          if ps.contains p && (pocketOf x p).state != PocketState.available then retarget x p else x
        | _ => x) := by
      split
      · split
        · exact retarget_keeps _
        · exact .refl
      · exact .refl
    have hended (x : State) : Keeps x (match x.session with
        | some z =>
          if ps.contains z.target && (pocketOf x z.target).state == PocketState.disabled then
            endSessionAt x z.target .targetDisabled
          else x
        | none => x) := by
      split
      · split
        · exact endSessionAt_keeps _ _
        · exact .refl
      · exact .refl
    exact (retry_keeps.trans (hretargeted _)).trans (hended _)

theorem applyCommit_keeps : Keeps s (applyCommit s) := by
  have hreacted (ps : List (Nat × PocketConfig)) : ∀ s, Keeps s (ps.foldl (fun x e => reactPocket x e.1 e.2) s) := by
    induction ps with
    | nil => exact fun _ => .refl
    | cons e ps ih => exact fun s => (reactPocket_keeps e.1 e.2).trans (ih _)
  unfold applyCommit
  exact (commitDoneTest_keeps _).after <| (afterPockets_keeps _).after <|
    (hreacted _ _).after (keeps_of_tables apply_within)

theorem ownCommit_keeps (pins : PocketPins) : Keeps s (ownCommit pins l f s) := by
  have hsensed : Keeps s { s with pins := { s.pins with pockets := pins } } := .of_view rfl
  unfold ownCommit
  dsimp only
  split
  · exact (refuse_keeps _ _ _).after hsensed
  · exact settle_keeps.after <| applyCommit_keeps.after <| (answerTo_keeps _ _ _ _).after <|
      hsensed.trans (keeps_of_tables (mark_within _))

/-! ## Run control (R162, R163) -/

theorem ownRun_keeps : Keeps s (ownRun l f s) := by
  unfold ownRun
  split
  · exact (changeRun_keeps _).after ((answerTo_keeps _ _ _ _).after (.of_view rfl))
  all_goals exact refuse_keeps _ _ _

theorem ownStandby_keeps : Keeps s (ownStandby l f s) := by
  unfold ownStandby
  split
  · exact answerTo_keeps _ _ _ _
  · exact (changeRun_keeps _).after ((answerTo_keeps _ _ _ _).after (.of_view rfl))
  · exact haltCheck_keeps.after ((changeRun_keeps _).after (answerTo_keeps _ _ _ _))
  · exact answerTo_keeps _ _ _ _
  · exact refuse_keeps _ _ _

theorem ask_keeps (code : Nat) (contents : List Data → State → Except Reason (List Data)) :
    Keeps s (ask code contents l f s) := by
  unfold ask answerAsk
  split
  · exact answerTo_keeps _ _ _ _
  · exact refuse_keeps _ _ _

/-! ## CLEAR (R167, R168) -/

theorem loseSet_keeps (job seat plan cls reply segment total : Nat) (flags : SetFlags) (jam : Bool) :
    Keeps s (loseSet s job seat plan cls reply segment total flags jam) :=
  (notify_keeps _ _ _).after ((changeRefs_keeps _ _ _).after (accountLost_keeps _ _))

theorem clearTray_keeps : Keeps s (clearTray s) := by
  have hemptied (x : Stapler) (hx : x.cartridge = s.stapler.cartridge) :
      Keeps s { s with tray := Tray.empty, stapler := x } :=
    ⟨id, id, id, fun _ => tray_empty_within, id, id, hx ▸ id, id, id, id, id⟩
  unfold clearTray
  dsimp only
  split
  · exact hemptied _ rfl
  · exact (loseSet_keeps _ _ _ _ _ _ _ _ _).after (hemptied _ rfl)

theorem clearTower_keeps : Keeps s (clearTower s) := by
  have hidle : Keeps s { s with tower := Tower.idle } := .of_view rfl
  unfold clearTower
  dsimp only
  split
  · exact hidle
  · split
    · exact (loseSet_keeps _ _ _ _ _ _ _ _ _).after hidle
    · exact hidle

theorem keeps_of_shelf {x : Shelf} (h : ShelfWithin s.shelf → ShelfWithin x) : Keeps s { s with shelf := x } :=
  ⟨id, id, id, id, h, id, id, id, id, id, id⟩

theorem shelf_empty_within : ShelfWithin { motion := .idle, stack := [] } :=
  ⟨Nat.zero_le _, fun h => (Motion.noConfusion h), fun _ h => nomatch h⟩

/-- R167: a shelf that loses its records top first keeps those below meanwhile. -/
theorem loseShelf_keeps (rs : List SetRec) (h : ShelfWithin s.shelf → ShelfWithin { motion := .idle, stack := rs }) :
    Keeps s (loseShelf rs s) := by
  induction rs generalizing s with
  | nil => exact keeps_of_shelf fun _ => shelf_empty_within
  | cons r rs ih =>
    have hbelow (hw : ShelfWithin { motion := .idle, stack := r :: rs }) : ShelfWithin { motion := .idle, stack := rs } :=
      ⟨Nat.le_of_succ_le hw.1, fun hl => Motion.noConfusion hl, (List.forall_mem_cons.1 hw.2.2).2⟩
    have hlost : Keeps s (loseRecord { s with shelf := { motion := .idle, stack := rs } } r false) :=
      (loseSet_keeps _ _ _ _ _ _ _ _ _).after (keeps_of_shelf fun hs => hbelow (h hs))
    refine hlost.trans (ih fun hs => ?_)
    simpa [loseRecord, loseSet] using hs

theorem clearShelf_keeps : Keeps s (clearShelf s) := by
  unfold clearShelf
  split
  · exact keeps_of_shelf (shelfWithin_motion (by decide))
  · exact loseShelf_keeps _ (shelfWithin_motion (by decide))

theorem forall_mem_changeFirst {α : Type} {P : α → Prop} {p : α → Bool} {f : α → α} (hf : ∀ x, P x → P (f x))
    {xs : List α} (h : ∀ x ∈ xs, P x) : ∀ x ∈ changeFirst p f xs, P x := by
  induction xs with
  | nil => exact h
  | cons y ys ih =>
    obtain ⟨hy, hys⟩ := List.forall_mem_cons.1 h
    unfold changeFirst
    split
    · exact List.forall_mem_cons.2 ⟨hf y hy, hys⟩
    · exact List.forall_mem_cons.2 ⟨hy, ih hys⟩

theorem loseSegment_keeps (g : Segment) : Keeps s (loseSegment s g) := by
  unfold loseSegment
  split
  · refine (notify_keeps _ _ _).after ((accountSegmentLoss_keeps _ _).after (keeps_of_shelf fun h => ?_))
    refine ⟨(changeFirst_length _ _ _).trans_le h.1, fun hl => (changeFirst_length _ _ _).trans_lt (h.2.1 hl), ?_⟩
    refine forall_mem_changeFirst (P := fun r : SetRec => r.trayHeight ≤ 1200) (fun _ hr => ?_) h.2.2
    exact hr
  · exact .refl

theorem clearAll_keeps : Keeps s (clearAll s) := by
  have hemptied : Keeps s (clearShelf (clearTower (clearTray (clearPath s)))) :=
    clearShelf_keeps.after <| clearTower_keeps.after <| clearTray_keeps.after <|
      keeps_of_path fun h => ⟨Nat.zero_le _, h.2⟩
  have hreset (x : State) : Keeps x { x with fault := { first := none, further := 0 } } :=
    ⟨id, id, id, id, id, id, id, fun _ => Nat.zero_le _, id, id, id⟩
  have hended (x : State) :
      Keeps x (changeRun { applyReleased (removeClosed x) with fault := { first := none, further := 0 } } .standby) :=
    (changeRun_keeps _).after ((hreset _).after (applyReleased_keeps.after removeClosed_keeps))
  unfold clearAll
  dsimp only
  split
  · split
    · exact hemptied.trans (hended _)
    · exact (hemptied.trans (loseSegment_keeps _)).trans (hended _)
  · exact hemptied.trans (hended _)

theorem ownClear_keeps (pins : Pins) : Keeps s (ownClear pins l f s) := by
  have hsensed : Keeps s { s with pins := pins } := .of_view rfl
  unfold ownClear
  dsimp only
  split
  · exact clearAll_keeps.after ((answerTo_keeps _ _ _ _).after hsensed)
  · exact (refuse_keeps _ _ _).after hsensed

/-! ## Starts (R16, R123, R136, R169) -/

theorem loseSeat_keepsJob (seat : Nat) : KeepsJob (fun j => j.loseSeat seat) :=
  (addReprint_keepsJob seat).comp ((withSeat_keepsJob seat .lost).comp (raise_keepsJob .lost))

theorem loseAtReset_keepsJob : KeepsJob Job.loseAtReset := by
  have hfold (seats : List Nat) : KeepsJob (fun j => seats.foldl Job.loseSeat j) := by
    induction seats with
    | nil => exact fun _ h => ⟨h, rfl⟩
    | cons n seats ih => exact ih.comp (loseSeat_keepsJob n)
  exact fun j => hfold (inProgressFrom 1 j.seats) j

theorem unreferenced_within (h : TablesWithin x) : TablesWithin x.unreferenced :=
  ⟨by simpa [Tables.unreferenced] using h.sizes, List.forall_mem_map.2 h.classes, List.forall_mem_map.2 h.plans⟩

theorem reset_links_within : LinksWithin State.reset.links := by
  intro l
  cases l <;> constructor <;> decide

theorem reset_feeds_within : FeedsWithin State.reset.feeds := by
  intro l
  cases l <;> constructor <;> decide

theorem default_tables_within : TablesWithin Tables.default := by
  refine ⟨by simp [Tables.default, defaultGrades], ?_, ?_⟩
  · intro e he
    obtain rfl := List.eq_of_mem_replicate he
    exact ⟨Nat.zero_le _, fun _ hb => nomatch hb⟩
  · intro e he
    obtain rfl := List.eq_of_mem_replicate he
    exact ⟨Nat.zero_le _, fun _ hb => nomatch hb⟩

theorem keptPart_keeps (pins : Pins) : Keeps s (keptPart pins s) :=
  { links := fun _ => reset_links_within
    feeds := fun _ => reset_feeds_within
    path := fun h => ⟨Nat.zero_le _, h.2⟩
    tray := fun _ => tray_empty_within
    shelf := fun _ => shelf_empty_within
    jobs := jobsWithin_map loseAtReset_keepsJob
    cartridge := id
    further := fun _ => Nat.zero_le _
    pockets := id
    tables := unreferenced_within
    session := fun _ _ h => nomatch h }

theorem startKept_keeps (pins : Pins) : Keeps s (startKept pins s) :=
  rescanPockets_keeps.after (applyReleased_keeps.after (removeClosed_keeps.after (keptPart_keeps pins)))

theorem freshPocket_setCount (size p : Nat) (pins : PocketPins) : (freshPocket size p pins).setCount = 0 := by
  unfold freshPocket
  dsimp only
  repeat' split
  all_goals rfl

theorem startCleared_keeps (pins : Pins) : Keeps s (startCleared pins s) :=
  { links := fun _ => reset_links_within
    feeds := fun _ => reset_feeds_within
    path := fun _ => ⟨Nat.zero_le _, Nat.zero_le _⟩
    tray := fun _ => tray_empty_within
    shelf := fun _ => shelf_empty_within
    jobs := fun _ => ⟨Nat.zero_le _, List.nodup_nil, fun _ h => nomatch h⟩
    cartridge := fun _ => Nat.zero_le _
    further := fun _ => Nat.zero_le _
    pockets := fun _ => ⟨by simp [startCleared]; rfl,
      List.forall_mem_map.2 fun p _ => (freshPocket_setCount _ p _).trans_le (Nat.zero_le _)⟩
    tables := fun _ => default_tables_within
    session := fun _ _ h => nomatch h }

theorem startUpReads_keeps : Keeps s (startUpReads s) := by
  have hread (x : State) (b : Bool) (d : FaultDetail) : Keeps x (if b then raiseFault x d else x) := by
    cases b
    · exact .refl
    · exact raiseFault_keeps d
  exact (hread _ _ _).trans (hread _ _ _)

end Lemmas
end Sys2Proof.Machine.Bounds
end

section
/-!
PROOFS. Every command and every step keep the bounds of `State.Bounded`.
-/
namespace Sys2Proof.Machine.Bounds

open SetAssembly

section Commands
variable {s t : State} {l : Link} {f : Frame}

/-- The answer is no next state out of its bounds. -/
def Within (o : Out) : Prop := ∀ t, o = .next t → t.Bounded

theorem within_next (h : t.Bounded) : Within (.next t) := by
  intro u hu
  cases hu
  exact h

theorem within_fault (r : Fault) : Within (.fault r) := fun _ h => nomatch h

theorem within_of_keeps (h : s.Bounded) (hk : Keeps s t) : Within (.next t) := within_next (hk.bounded h)

/-- A command that the frame handler takes. -/
theorem within_handle (h : s.Bounded) {wanted : Frame → Bool} {owner : Link → Frame → State → State}
    (ho : ∀ f x, x.Bounded → Keeps x (owner l f x)) : Within (.next (handle wanted owner l s)) := by
  have htaken : (takeFrame s l).Bounded := (takeFrame_keeps l).bounded h
  refine within_next ?_
  rcases handle_cases s wanted owner l with hs | ⟨f, -, -, hs | hs⟩
  · rwa [hs]
  · exact hs ▸ (ho f _ htaken).bounded htaken
  · exact hs ▸ (refuse_keeps _ _ _).bounded htaken

/-- What a command does where its condition holds, and nothing elsewhere. -/
theorem keeps_ite {p : Prop} [Decidable p] (h : p → Keeps s t) : Keeps s (if p then t else s) := by
  split
  next hp => exact h hp
  next => exact .refl

theorem sense_keeps (x : Pins) : Keeps s { s with pins := x } := .of_view rfl

theorem settled (h : Keeps s t) : Keeps s (settle t) := h.trans settle_keeps

theorem unknownKind_within (h : s.Bounded) (l : Link) : Within (execUnknownKind l s) := by
  refine within_next ?_
  split
  · exact h
  · split
    · exact h
    · exact ((refuse_keeps _ _ _).after (takeFrame_keeps l)).bounded h

theorem transmitComplete_within (h : s.Bounded) (l : Link) : Within (execTransmitComplete l s) := by
  refine within_of_keeps h ?_
  split
  · exact settled (finishFrame_keeps l)
  · exact finishFrame_keeps l

theorem leadCapture_within (h : s.Bounded) (l : Link) (x : Tick) : Within (execLeadCapture l x s) := by
  refine within_of_keeps h (Keeps.trans (sense_keeps _) (keeps_ite fun _ => ?_))
  exact settled ((captureLead_keeps l x).after (advanceTo_keeps x))

theorem trailCapture_within (h : s.Bounded) (l : Link) (x : Tick) : Within (execTrailCapture l x s) := by
  refine within_of_keeps h (Keeps.trans (sense_keeps _) (keeps_ite fun _ => ?_))
  exact (matchTrail_keeps l x).after (advanceTo_keeps x)

theorem gateDecision_within (h : s.Bounded) : Within (execGateDecision s) := by
  refine within_of_keeps h ?_
  split
  · exact .refl
  · exact keeps_ite fun _ => settled ((decideEntry_keeps _).after (advanceTo_keeps _))

theorem arrivalDeadline_within (h : s.Bounded) (i : Nat) : Within (execArrivalDeadline i s) := by
  refine within_of_keeps h ?_
  split
  · exact .refl
  · split
    · exact .refl
    · exact keeps_ite fun _ => missDeadline_keeps i _ _

theorem stLeadEdge_within (h : s.Bounded) : Within (execStLeadEdge s) := by
  refine within_of_keeps h (Keeps.trans (sense_keeps _) (keeps_ite fun _ => ?_))
  split
  next => exact sensorFault_keeps _
  next htaken => exact settled (removeClosed_keeps.after ((handToTray_keeps _).after (leavePath_keeps htaken)))

theorem spLeadEdge_within (h : s.Bounded) : Within (execSpLeadEdge s) := by
  refine within_of_keeps h (Keeps.trans (sense_keeps _) (keeps_ite fun _ => ?_))
  split
  next => exact sensorFault_keeps _
  next htaken =>
    exact settled <| removeClosed_keeps.after <| (accountPurged_keeps _).after <|
      raisePurgeCount_keeps.after (leavePath_keeps htaken)

theorem binEmptied_within (h : s.Bounded) : Within (execBinEmptied s) := by
  have hemptied : Keeps s { s with path := { s.path with purgeCount := 0 } } :=
    keeps_of_path fun hp => ⟨hp.1, Nat.zero_le _⟩
  exact within_of_keeps h (settled (hemptied.trans (notifyPlain_keeps _)))

theorem feedWindowExpiry_within (h : s.Bounded) : Within (execFeedWindowExpiry s) := by
  refine within_of_keeps h ?_
  split
  · split
    · exact settled (missFeed_keeps _ _)
    · exact .refl
  · exact .refl

theorem stallTimerExpiry_within (h : s.Bounded) : Within (execStallTimerExpiry s) := by
  refine within_of_keeps h ?_
  split
  next r _ hr =>
    obtain ⟨-, -, hheld, -⟩ := assemblingSet_some hr
    exact settled (endPart_keeps hheld)
  next => exact .refl

theorem shelfUp_within (h : s.Bounded) : Within (execShelfUp s) := by
  refine within_of_keeps h ?_
  split
  next hm hr => exact settled (endPark_keeps hm hr h.heights.1)
  next => exact .refl

theorem shelfDown_within (h : s.Bounded) : Within (execShelfDown s) := by
  refine within_of_keeps h ?_
  split
  next hr => exact settled (endUnpark_keeps hr ⟨h.shelf, h.lifting, h.heights.2⟩)
  next => exact .refl

theorem staplerCompletion_within (h : s.Bounded) : Within (execStaplerCompletion s) := by
  have hfired : Keeps s (staplesLowTest (finishFire s) s.stapler.cartridge) :=
    (staplesLowTest_keeps _).after finishFire_keeps
  refine within_of_keeps h ?_
  split
  · dsimp only
    split
    · exact settled (reportFired_keeps.after hfired)
    · exact hfired
  all_goals exact .refl

theorem completionTimerExpiry_within (h : s.Bounded) : Within (execCompletionTimerExpiry s) := by
  refine within_of_keeps h ?_
  split
  · split
    · exact settled (reportJam_keeps.after (jamStapler_keeps _))
    · exact jamStapler_keeps _
  · exact .refl

/-- An expiry that raises a fault while its timer runs. -/
theorem faultExpiry_within (h : s.Bounded) (timer : Option Nat) (d : FaultDetail) :
    Within (.next (match timer with | some _ => raiseFault s d | none => s)) := by
  cases timer with
  | none => exact within_next h
  | some _ => exact within_of_keeps h (raiseFault_keeps d)

/-- The end of a session that the command names, if it names one. -/
theorem sessionEnd_within (h : s.Bounded) (z : Option Session) (c : EndCause) :
    Within (.next (match z with | some z => settle (endSession s z c) | none => s)) := by
  cases z with
  | none => exact within_next h
  | some z => exact within_of_keeps h (settled (endSession_keeps z c))

theorem senseDrawer_keeps (p : Nat) (b : Bool) : Keeps s (senseDrawer s p b) := sense_keeps _

theorem senseFloor_keeps (p : Nat) (b : Bool) : Keeps s (senseFloor s p b) := sense_keeps _

theorem drawerOpen_within (h : s.Bounded) (p : Nat) : Within (execDrawerOpen p s) := by
  unfold execDrawerOpen
  split
  · refine within_of_keeps h ((senseDrawer_keeps p false).trans (keeps_ite fun _ => ?_))
    exact settled ((endSessionAt_keeps _ _).after ((answerDrawerOpen_keeps _).after (withdrawPocket_keeps _)))
  · exact within_fault _

theorem drawerClose_within (h : s.Bounded) (p : Nat) (empty : Bool) : Within (execDrawerClose p empty s) := by
  unfold execDrawerClose
  split
  · have hsensed : Keeps s (senseFloor (senseDrawer s p true) p empty) :=
      (senseFloor_keeps p empty).after (senseDrawer_keeps p true)
    refine within_of_keeps h (hsensed.trans (keeps_ite fun _ => ?_))
    exact settled <| retry_keeps.after <| (tellReturned_keeps p).after <|
      changePocket_keeps p fun _ hk => returned_setCount hk _
  · exact within_fault _

theorem floorEmpty_within (h : s.Bounded) (p : Nat) : Within (execFloorEmpty p s) := by
  unfold execFloorEmpty
  split
  · refine within_of_keeps h ((senseFloor_keeps p true).trans (keeps_ite fun _ => ?_))
    exact settled <| retry_keeps.after <| (notifyReturned_keeps p).after <|
      changePocket_keeps p fun k _ => emptied_setCount k
  · exact within_fault _

theorem stackerEmptied_within (h : s.Bounded) : Within (execStackerEmptied s) := by
  have hemptied : Keeps s { s with stacker := { fill := 0, side := .right } } := .of_view rfl
  exact within_of_keeps h (settled (retry_keeps.after ((notifyPlain_keeps _).after hemptied)))

theorem insertPosition_within (h : s.Bounded) : Within (execInsertPosition s) := by
  refine within_of_keeps h ?_
  split
  next z hz =>
    have hsession : s.session = some z := by
      unfold positioningSession at hz
      repeat' split at hz
      all_goals simp_all
    exact activateSession_keeps hsession
  next => exact .refl

theorem siEvent_within (h : s.Bounded) : Within (execSiEvent s) := by
  refine within_of_keeps h ?_
  split
  next z hz =>
    have hsession : s.session = some z := by
      unfold activeSession at hz
      repeat' split at hz
      all_goals simp_all
    exact settled (countInserted_keeps hsession)
  next => exact .refl

theorem powerOn_within (h : s.Bounded) (pins : Pins) : Within (execPowerOn pins s) := by
  refine within_of_keeps h (startUpReads_keeps.after ?_)
  split
  · exact startKept_keeps pins
  · exact startCleared_keeps pins

/-! ## Every command -/

/-- No command leaves a list, a queue or a count out of its bounds. -/
theorem exec_within (h : s.Bounded) (c : Instr) : Within (exec c s) := by
  cases c with
  | frameReceived l => exact within_of_keeps h (receiveChr_keeps l _)
  | unknownKind l => exact unknownKind_within h l
  | announce l => exact within_handle h fun f x _ => settled (arrive_keeps l _)
  | openJob l => exact within_handle h fun f x hx => ownOpenJob_keeps (tables_within hx)
  | closeJob l => exact within_handle h fun f x _ => ownCloseJob_keeps
  | loadClass l => exact within_handle h fun f x _ => load_keeps judgeLoadClass_within
  | loadSeats l => exact within_handle h fun f x _ => load_keeps judgeLoadSeats_within
  | loadPlan l => exact within_handle h fun f x _ => load_keeps judgeLoadPlan_within
  | loadGrade l => exact within_handle h fun f x _ => load_keeps judgeLoadGrade_within
  | loadPocket l => exact within_handle h fun f x _ => load_keeps judgeLoadPocket_within
  | loadTransport l => exact within_handle h fun f x _ => load_keeps judgeLoadTransport_within
  | commit l pins => exact within_handle h fun f x _ => ownCommit_keeps pins
  | insert l => exact within_handle h fun f x _ => ownInsert_keeps
  | run l => exact within_handle h fun f x _ => ownRun_keeps
  | standby l => exact within_handle h fun f x _ => ownStandby_keeps
  | clear l pins => exact within_handle h fun f x _ => ownClear_keeps pins
  | markRetained l => exact within_handle h fun f x _ => (answerTo_keeps l f _ _).after (.of_view rfl)
  | clearCounts l => exact within_handle h fun f x _ => (answerTo_keeps l f _ _).after clearAllCounts_keeps
  | askStatus l | askJob l | askPocket l | askQueue l | askCapture l | askEntry l | askSet l =>
    exact within_handle h fun f x _ => ask_keeps _ _
  | transmitComplete l => exact transmitComplete_within h l
  | leadCapture l x => exact leadCapture_within h l x
  | trailCapture l x => exact trailCapture_within h l x
  | gateDecision => exact gateDecision_within h
  | arrivalDeadline i => exact arrivalDeadline_within h i
  | stLeadEdge => exact stLeadEdge_within h
  | spLeadEdge => exact spLeadEdge_within h
  | stSpTrailEdge x => exact within_of_keeps h (sense_keeps _)
  | binEmptied => exact binEmptied_within h
  | feedWindowExpiry => exact feedWindowExpiry_within h
  | stallTimerExpiry => exact stallTimerExpiry_within h
  | shelfUp => exact shelfUp_within h
  | shelfDown => exact shelfDown_within h
  | motionTimerExpiry => exact faultExpiry_within h s.timers.motion FaultCause.shelfJam.plain
  | staplerCompletion => exact staplerCompletion_within h
  | completionTimerExpiry => exact completionTimerExpiry_within h
  | recoveryWindowEnd =>
    refine within_of_keeps h ?_
    split
    · exact endRecovery_keeps
    · exact .refl
  | staplerHome =>
    refine within_of_keeps h ?_
    split
    · exact keeps_of_cartridge (y := s.timers) id
    all_goals exact .refl
  | cartridgeInserted => exact within_of_keeps h ((notifyPlain_keeps _).after cartridgeIn_keeps)
  | setReceived =>
    refine within_of_keeps h ?_
    split
    · exact settled (receiveSegment_keeps _ _)
    · exact .refl
  | ejectTimerExpiry => exact faultExpiry_within h s.timers.eject FaultCause.towerJam.plain
  | depositComplete =>
    refine within_of_keeps h ?_
    split
    · exact settled (depositSegment_keeps _ _ _)
    · exact .refl
  | deliveryTimerExpiry => exact faultExpiry_within h s.timers.delivery FaultCause.towerJam.plain
  | drawerOpen p => exact drawerOpen_within h p
  | drawerClose p empty => exact drawerClose_within h p empty
  | floorEmpty p => exact floorEmpty_within h p
  | stackerEmptied => exact stackerEmptied_within h
  | insertPosition => exact insertPosition_within h
  | positioningTimerExpiry =>
    refine within_of_keeps h ?_
    split
    · exact raiseFault_keeps _
    · exact .refl
  | siEvent => exact siEvent_within h
  | insDone => exact sessionEnd_within h (activeSession s) .insDone
  | firstSheetTimerExpiry => exact sessionEnd_within h (timedSession s .firstSheet) .noFirstSheet
  | betweenSheetsTimerExpiry => exact sessionEnd_within h (timedSession s .betweenSheets) .sheetGap
  | homeEvent => exact within_of_keeps h (keeps_ite fun _ => settled (.of_view rfl))
  | atSpeed =>
    refine within_of_keeps h ?_
    split
    · exact settled ((changeRun_keeps _).after (.of_view rfl))
    all_goals exact .refl
  | warmupTimerExpiry => exact faultExpiry_within h s.timers.warmup FaultCause.warmup.plain
  | retLow => exact within_of_keeps h ((notifyPlain_keeps _).after (.of_view rfl))
  | powerOn pins => exact powerOn_within h pins
  | resetLine pins => exact within_of_keeps h (startUpReads_keeps.after (startKept_keeps pins))
  | characterReceived l c => exact within_of_keeps h (receiveChr_keeps l c)

/-- R71: what the part does by its own clock: a due command, or one tick. -/
theorem selfStep_within (h : s.Bounded) : Within (selfStep s) := by
  have hraced : s.raced.Bounded := Keeps.bounded (s := s) (.of_view rfl) h
  unfold selfStep
  split
  · exact within_of_keeps h (elapse_keeps 1)
  · exact exec_within h _
  · exact exec_within hraced _

end Commands

/-- Settles O5: every command keeps the bounds (`exec_within`), and so does a tick. -/
theorem everyStepKeepsTheBounds : Obligations.EveryStepKeepsTheBounds := by
  unfold Obligations.EveryStepKeepsTheBounds
  intro s t h hstep
  unfold step at hstep
  split at hstep
  next => exact selfStep_within h t hstep
  next c rest _ =>
    have hpending : (s.withPending rest).Bounded := Keeps.bounded (s := s) (.of_view rfl) h
    exact exec_within hpending c t hstep

end Sys2Proof.Machine.Bounds
end

section
/-!
PROOFS. The accounts of a set and of a session in the job record (R14, R15, R17, R18, R168), and the references a set
holds (R136).
-/
namespace Sys2Proof.Machine.JobAccounts

open SetAssembly

section Lemmas
variable {s : State} {j : Job} {n m seat : Nat} {f : Job → Job}

/-! ## One record -/

theorem Job_raise_number (c : OutcomeCount) : (j.raise c).number = j.number := by cases c <;> rfl

theorem Job_withSeat_number (st : SeatStatus) : (j.withSeat seat st).number = j.number := by
  unfold Job.withSeat
  split <;> rfl

/-- R14: the record after an outcome: the count, and the seat's status unless another set of it is live. -/
theorem outcome_number (live : Bool) (st : SeatStatus) (c : OutcomeCount) :
    (if live then j.raise c else (j.raise c).withSeat seat st).number = j.number := by
  split
  · exact Job_raise_number c
  · exact (Job_withSeat_number st).trans (Job_raise_number c)

theorem findJob_changeJob_ne (hf : ∀ j, (f j).number = j.number) (hm : m ≠ n) :
    findJob (changeJob s n f) m = findJob s m := by
  simp only [findJob, changeJob]
  induction s.jobs with
  | nil => rfl
  | cons x xs ih =>
    by_cases hx : x.number = n
    · have hxm : ¬x.number = m := fun h => hm (h.symm.trans hx)
      simp_all
    · by_cases hxm : x.number = m <;> simp_all

/-- R14: the job record after a set's outcome. -/
theorem findJob_outcome (hj : findJob s n = some j) (h1 : 1 ≤ seat) (st : SeatStatus) (c : OutcomeCount) :
    findJob (accountOutcome s n seat st c) n = some
      { j.raise c with seats := if seatLive s n seat = true then j.seats else j.seats.set (seat - 1) st } := by
  have hseats : (j.raise c).seats = j.seats := by cases c <;> rfl
  rw [accountOutcome, findJob_changeJob fun _ => outcome_number _ st c, hj, Option.map_some]
  split <;> simp [Job_withSeat_eq _ _ h1, ← hseats]

theorem findJob_addReprint (hj : findJob s n = some j) (h1 : 1 ≤ seat) (hle : seat ≤ j.seats.length) :
    findJob (addReprint s n seat) n =
      some { j with reprint := if seat ∈ j.reprint then j.reprint else j.reprint ++ [seat] } := by
  rw [addReprint, findJob_changeJob fun _ => Job_addReprint_number _ _, hj, Option.map_some, Job_addReprint_eq j h1 hle]

theorem findJob_removeReprint (hj : findJob s n = some j) :
    findJob (removeReprint s n seat) n = some { j with reprint := j.reprint.filter (fun x => x ≠ seat) } := by
  have hnumber (x : Job) : (x.removeReprint seat).number = x.number := rfl
  rw [removeReprint, findJob_changeJob hnumber, hj, Option.map_some]
  simp [Job.removeReprint, bne, BEq.beq]

/-! ## A session (R15) -/

theorem findJob_accountSession {inserted : Nat} (hj : findJob s n = some j) (h1 : 1 ≤ seat) (hi : 1 ≤ inserted) :
    findJob (accountSession s n seat inserted) n = some { j with
      reprint := j.reprint.filter (fun x => x ≠ seat)
      seats := if seatLive s n seat = true then j.seats else j.seats.set (seat - 1) .late } := by
  have hnumber (x : Job) : (if seatLive s n seat then x.removeReprint seat
      else (x.removeReprint seat).withSeat seat .late).number = x.number := by
    split
    · rfl
    · exact Job_withSeat_number _
  rw [accountSession, if_neg (Nat.ne_of_gt hi), findJob_changeJob hnumber, hj, Option.map_some]
  split <;> simp [Job_withSeat_eq _ _ h1, Job.removeReprint, bne, BEq.beq]

/-! ## References (R136) -/

variable {plan cls : Nat}

theorem withRefs_eq {α : Type} (f : Nat → Nat) : @Entry.withRefs α f = fun e => { e with refs := f e.refs } := rfl

theorem changeRefs_plans (f : Nat → Nat) (i : Nat) : (changeRefs s plan cls f).tables.plans[i]? =
    (s.tables.plans[i]?).map (fun e => if i = plan then { e with refs := f e.refs } else e) := by
  by_cases hi : i = plan <;> simp [changeRefs, changeAt_getElem?, withRefs_eq, hi]

theorem changeRefs_classes (f : Nat → Nat) (i : Nat) : (changeRefs s plan cls f).tables.classes[i]? =
    (s.tables.classes[i]?).map (fun e => if i = cls then { e with refs := f e.refs } else e) := by
  by_cases hi : i = cls <;> simp [changeRefs, changeAt_getElem?, withRefs_eq, hi]

/-! ## A deposited set (R14, R17, R18) -/

variable {g : Segment} {p : Place}

/-- R14: the status and the count of a deposited set. -/
theorem depositStatus_eq : depositStatus g p =
    if g.flags.withheld = true then (.withheld, .exception)
    else if g.route = .exception then (.exception, .exception)
    else if p = .seat then (.delivered, .delivered)
    else (.diverted, .diverted) := by
  unfold depositStatus
  split
  · rfl
  · cases g.route with
    | exception => rfl
    | normal => cases p <;> rfl

/-- R14: a deposit ends in one of four outcomes. -/
theorem depositStatus_cases : depositStatus g p = (.withheld, .exception) ∨
    depositStatus g p = (.exception, .exception) ∨ depositStatus g p = (.delivered, .delivered) ∨
    depositStatus g p = (.diverted, .diverted) := by
  rw [depositStatus_eq]
  repeat' split
  all_goals simp

/-- R17, R18: what a deposit does to the reprint list. -/
theorem accountDeposit_eq : accountDeposit s g p =
    let u := accountOutcome s g.job g.seat (depositStatus g p).1 (depositStatus g p).2
    if g.flags.incomplete = true then addReprint u g.job g.seat
    else if (depositStatus g p).1 = .exception then u
    else removeReprint u g.job g.seat := by
  rcases depositStatus_cases (g := g) (p := p) with h | h | h | h <;> simp [accountDeposit, h]

/-- R14, R17, R18: the record of a deposited set's job. -/
theorem findJob_accountDeposit (hj : findJob s g.job = some j) (h1 : 1 ≤ g.seat) (hle : g.seat ≤ j.seats.length) :
    findJob (accountDeposit s g p) g.job = some { j.raise (depositStatus g p).2 with
      seats := if seatLive s g.job g.seat = true then j.seats else j.seats.set (g.seat - 1) (depositStatus g p).1
      reprint :=
        if g.flags.incomplete = true then (if g.seat ∈ j.reprint then j.reprint else j.reprint ++ [g.seat])
        else if (depositStatus g p).1 = .exception then j.reprint
        else j.reprint.filter (fun x => x ≠ g.seat) } := by
  have hreprint (c : OutcomeCount) : (j.raise c).reprint = j.reprint := by cases c <;> rfl
  have hout := findJob_outcome hj h1 (depositStatus g p).1 (depositStatus g p).2
  rw [accountDeposit_eq]
  dsimp only
  split
  · rw [findJob_addReprint hout h1 (by split <;> simpa using hle)]
    simp [hreprint]
  · split
    · rw [hout]
      simp [hreprint]
    · rw [findJob_removeReprint hout]
      simp [hreprint]

theorem raise_counts (c : OutcomeCount) :
    (j.raise c).delivered = (if c = .delivered then min 65535 (j.delivered + 1) else j.delivered) ∧
    (j.raise c).diverted = (if c = .diverted then min 65535 (j.diverted + 1) else j.diverted) ∧
    (j.raise c).exceptions = (if c = .exception then min 65535 (j.exceptions + 1) else j.exceptions) ∧
    (j.raise c).lost = (if c = .lost then min 65535 (j.lost + 1) else j.lost) := by
  cases c <;> simp [Job.raise, satSucc, Config.countTop]

end Lemmas

/-- Settles O58. -/
theorem endedSessionIsAccounted : Obligations.EndedSessionIsAccounted := by
  unfold Obligations.EndedSessionIsAccounted
  intro s j seat inserted hnumbers hj h1 hle
  refine ⟨fun h0 => if_pos h0, fun hi => ⟨_, findJob_accountSession (findJob_mem hnumbers hj) h1 hi, rfl⟩⟩

/-- Settles O52: `findJob_accountDeposit`, with the four counts by `raise_counts`. -/
theorem depositIsAccounted : Obligations.DepositIsAccounted := by
  unfold Obligations.DepositIsAccounted
  intro s j g p hnumbers hj hjob h1 hle
  have hfound := findJob_mem hnumbers hj
  rw [← hjob] at hfound
  obtain ⟨hdelivered, hdiverted, hexceptions, hlost⟩ := raise_counts (j := j) (depositStatus g p).2
  have hcount : (depositStatus g p).2 ≠ .lost := by
    rcases depositStatus_cases (g := g) (p := p) with h | h | h | h <;> simp [h]
  dsimp only
  rw [← depositStatus_eq, ← hjob]
  exact ⟨_, findJob_accountDeposit hfound h1 hle, hdelivered, hdiverted, hexceptions,
    hlost.trans (if_neg hcount), rfl, rfl⟩

/-- Settles O29: the outcome, the reprint list and the references, one after the other. -/
theorem lostSetsAreAccounted : Obligations.LostSetsAreAccounted := by
  unfold Obligations.LostSetsAreAccounted
  intro s j seat plan cls tag segment total flags jam hnumbers hj h1 hle
  have hout := findJob_outcome (findJob_mem hnumbers hj) h1 .lost .lost
  have hlost := findJob_addReprint hout h1 (by split <;> simpa using hle)
  have hother (n : Nat) (hn : n ≠ j.number) : findJob (accountLost s j.number seat) n = findJob s n :=
    (findJob_changeJob_ne (fun _ => Job_addReprint_number _ _) hn).trans
      (findJob_changeJob_ne (fun _ => outcome_number _ _ _) hn)
  exact ⟨dropRefs (accountLost s j.number seat) plan cls, _, rfl, rfl, hlost, hother, rfl, rfl,
    changeRefs_plans _, changeRefs_classes _⟩

end Sys2Proof.Machine.JobAccounts
end

section
/-!
PROOFS. The set that a set-opening head starts (R13, R38, R40, R136).
-/
namespace Sys2Proof.Machine.JobAccounts

open SetAssembly

section Lemmas
variable {s : State} {l : Link} {d : Desc} {e : QueueEntry} {j : Job}

theorem startRecord_parts_length : (startRecord s l d j).parts.length = (planOf s j.plan).parts.length := by
  simp [startRecord]

/-- R40: of the parts of a new set, only the head's has a sheet taken. -/
theorem startRecord_partCount {k : Nat} (h1 : 1 ≤ d.part) (hk : 1 ≤ k) (hle : k ≤ (planOf s j.plan).parts.length) :
    (startRecord s l d j).partCount k =
      if k = d.part then { taken := 1, lastIndex := 1 } else { taken := 0, lastIndex := 0 } := by
  have hlt : k - 1 < (planOf s j.plan).parts.length := Nat.sub_one_lt_of_le hk hle
  have hsame : k - 1 = d.part - 1 ↔ k = d.part := by omega
  simp only [SetRec.partCount, startRecord, changeAt_getElem?, hsame, List.getElem?_replicate, if_pos hlt]
  split <;> rfl

/-- R13, R136: the job record and the references of a set start; the arbiter then grants the head. -/
theorem startSet_jobs : (startSet s l e j).jobs =
    s.jobs.map (fun x => if x.number = j.number then x.withSeat e.desc.seat .inProgress else x) := by
  simp [startSet, takeRefs, changeRefs, changeJob]

theorem startSet_tables : (startSet s l e j).tables = (changeRefs s j.plan j.cls (· + 1)).tables := by
  simp [startSet, takeRefs, changeRefs]

theorem endPartAtGrant_phase : (endPartAtGrant s d).tray.phase = s.tray.phase := by
  unfold endPartAtGrant
  repeat' split
  all_goals rfl

theorem startSet_phase : (startSet s l e j).tray.phase = .compiling := by
  simp [startSet, endPartAtGrant_phase]

/-- R136: a reference taken changes no plan and no class in force. -/
theorem planOf_changeRefs {plan cls : Nat} (f : Nat → Nat) (n : Nat) :
    planOf (changeRefs s plan cls f) n = planOf s n := by
  rw [planOf, changeRefs_plans, Option.map_map, planOf]
  congr 2
  funext x
  dsimp only [Function.comp]
  split <;> rfl

theorem classOf_changeRefs {plan cls : Nat} (f : Nat → Nat) (n : Nat) :
    classOf (changeRefs s plan cls f) n = classOf s n := by
  rw [classOf, changeRefs_classes, Option.map_map, classOf]
  congr 2
  funext x
  dsimp only [Function.comp]
  split <;> rfl

/-- R40: the account of a set start in its job and its references leaves the new record as it is. -/
theorem startRecord_congr {t : State} (hp : planOf t j.plan = planOf s j.plan) (hc : classOf t j.cls = classOf s j.cls)
    (hs : t.straps = s.straps) : startRecord t l d j = startRecord s l d j := by
  have hpocket : seatPocket t j.cls d.seat = seatPocket s j.cls d.seat := by simp [seatPocket, hc]
  have hsize : towerSize t = towerSize s := by simp [towerSize, hs]
  rw [startRecord, startRecord, hp, hc, hpocket, hsize]

theorem startSet_eq : startSet s l e j = endPartAtGrant (issueGrant { s with
    jobs := (startSet s l e j).jobs
    tables := (startSet s l e j).tables
    tray := { phase := .compiling, held := some (startRecord s l e.desc j), close := none } } l e .tray) e.desc := by
  have hrecord : startRecord (takeRefs (changeJob s j.number (fun x => x.withSeat e.desc.seat .inProgress)) j.plan j.cls)
      l e.desc j = startRecord s l e.desc j :=
    startRecord_congr (planOf_changeRefs _ _) (classOf_changeRefs _ _) rfl
  have hjobs : (startSet s l e j).jobs = (changeJob s j.number (fun x => x.withSeat e.desc.seat .inProgress)).jobs := by
    simp [startSet, takeRefs, changeRefs]
  rw [hjobs, startSet_tables, startSet, hrecord]
  rfl

end Lemmas

/-- Settles O46. -/
theorem startedSetIsNew : Obligations.StartedSetIsNew := by
  unfold Obligations.StartedSetIsNew
  intro s l e j h1 hle
  have hplans := changeRefs_plans (s := s) (plan := j.plan) (cls := j.cls) (· + 1)
  have hclasses := changeRefs_classes (s := s) (plan := j.plan) (cls := j.cls) (· + 1)
  refine ⟨rfl, rfl, rfl, rfl, rfl, rfl, rfl, rfl, rfl, rfl, rfl, rfl, startRecord_parts_length,
    fun k hk hkle => startRecord_partCount h1 hk hkle, rfl, by cases l <;> rfl, rfl, rfl, startSet_phase, startSet_eq, ?_,
    startSet_jobs⟩
  dsimp only
  rw [startSet_tables]
  exact ⟨rfl, hplans, hclasses⟩

end Sys2Proof.Machine.JobAccounts
end

section
/-!
PROOFS. The requests judged in the order of their checks: OPEN-JOB (R10, R11) and INSERT (R126 to R128).
-/
namespace Sys2Proof.Machine.RequestJudging

section Lemmas
variable {s : State} {l : Link} {f : Frame} {q : OpenRequest}

theorem elim_ite {α β : Type} {c : Prop} [Decidable c] (x y : Option α) (b : β) (g : α → β) :
    (if c then x else y).elim b g = if c then x.elim b g else y.elim b g :=
  apply_ite (Option.elim · b g) c x y

/-! ## OPEN-JOB (R10) -/

/-- R10: the checks in the terms of the rule. -/
theorem openRefusal_eq : openRefusal s q =
    if s.run = .faulted then some .badState
    else if ¬(1 ≤ q.job ∧ q.job ≤ 63 ∧ q.plan ≤ 15 ∧ q.cls ≤ 23 ∧ q.priority ≤ 3) then some .range
    else if 16 ≤ s.jobs.length then some .full
    else if (s.jobs.any (fun j => j.number == q.job)) = true then some .inUse
    else if (planOf s q.plan).parts = [] ∨ (classOf s q.cls).seatCount = 0 then some .invalidEntry
    else if towerSize s ≤ q.exceptionPocket ∨ (∃ p ∈ q.overflowPocket, towerSize s ≤ p) then some .range
    else if s.straps.linkBPresent = false ∧ (∃ x ∈ (planOf s q.plan).parts, x.source = .b) then some .linkAbsent
    else none := by
  have hrange : (q.job = 0 ∨ Config.maxJobNumber < q.job ∨ 15 < q.plan ∨ 23 < q.cls ∨ 3 < q.priority) ↔
      ¬(1 ≤ q.job ∧ q.job ≤ 63 ∧ q.plan ≤ 15 ∧ q.cls ≤ 23 ∧ q.priority ≤ 3) := by
    simp only [Config.maxJobNumber]
    omega
  have hused : (findJob s q.job).isSome = s.jobs.any (fun j => j.number == q.job) := List.isSome_find?
  have hoverflow : (q.overflowPocket.any (fun p => decide (towerSize s ≤ p))) = true ↔
      ∃ p ∈ q.overflowPocket, towerSize s ≤ p := by
    simp [Option.any_eq_true]
  have hpresent : ((planOf s q.plan).parts.any (fun x => x.source == .b)) = true ∧ s.straps.linkBPresent = false ↔
      s.straps.linkBPresent = false ∧ ∃ x ∈ (planOf s q.plan).parts, x.source = .b := by
    simp [and_comm]
  simp only [openRefusal, hrange, hused, hoverflow, hpresent, List.length_eq_zero_iff, Config.maxJobs]

/-- R10, R11: a request that no check refuses adds its record. -/
theorem ownOpenJob_eq : ownOpenJob l f s =
    (openRefusal s (openRequest f.payload)).elim
      (answerTo { s with jobs := s.jobs ++ [newJob s (openRequest f.payload)] } l f .done []) (refuse s l f) := by
  dsimp only [ownOpenJob]
  cases openRefusal s (openRequest f.payload) <;> rfl

theorem exec_openJob (h : s.requests l f 0x02) : exec (.openJob l) s = .next (ownOpenJob l f (takeFrame s l)) := by
  obtain ⟨hoffered, hkind, hlength⟩ := h
  exact congrArg _ (handle_request s hoffered (by simp [ofKind, hkind, kindOpenJob]) hlength)

/-! ## INSERT (R126) -/

/-- R126: the checks in the terms of the rule. -/
theorem judgeInsert_eq {job seat grade expected : Nat} : judgeInsert s job seat grade expected =
    if s.run = .warming ∨ s.run = .faulted then .error .badState
    else if s.session.isSome = true then .error .busy
    else if ¬(1 ≤ job ∧ job ≤ 63 ∧ 1 ≤ seat ∧ seat ≤ 40 ∧ grade ≤ 7 ∧ 1 ≤ expected ∧ expected ≤ 20) then .error .range
    else match findJob s job with
      | none => .error .unknownJob
      | some j =>
        if j.seats.length < seat ∨ (classOf s j.cls).seatCount < seat then .error .range
        else match insertTarget s j seat grade with
          | none => .error .noPocket
          | some t => .ok (j, t) := by
  have hrange : (job = 0 ∨ Config.maxJobNumber < job ∨ seat = 0 ∨ 40 < seat ∨ 7 < grade ∨ expected = 0 ∨ 20 < expected) ↔
      ¬(1 ≤ job ∧ job ≤ 63 ∧ 1 ≤ seat ∧ seat ≤ 40 ∧ grade ≤ 7 ∧ 1 ≤ expected ∧ expected ≤ 20) := by
    simp only [Config.maxJobNumber]
    omega
  simp only [judgeInsert, hrange] <;> rfl

theorem exec_insert (h : s.requests l f 0x0B) : exec (.insert l) s = .next (ownInsert l f (takeFrame s l)) := by
  obtain ⟨hoffered, hkind, hlength⟩ := h
  exact congrArg _ (handle_request s hoffered (by simp [ofKind, hkind, kindInsert]) hlength)

end Lemmas

/-- Settles O19: the frame that has left its FIFO changes none of what R10's checks look at. -/
theorem openJobIsJudgedInOrder : Obligations.OpenJobIsJudgedInOrder := by
  unfold Obligations.OpenJobIsJudgedInOrder
  intro s l f h
  rw [exec_openJob h]
  dsimp only
  congr 1
  have hsame : openRefusal (takeFrame s l) (openRequest f.payload) = openRefusal s (openRequest f.payload) := rfl
  rw [ownOpenJob_eq, hsame, openRefusal_eq]
  simp only [elim_ite, Option.elim_some, Option.elim_none]
  rfl

/-- Settles O26: INSERT by `judgeInsert_eq`, its target by R127's terms (`takesSheet_iff`). -/
theorem insertIsJudgedInOrder : Obligations.InsertIsJudgedInOrder := by
  unfold Obligations.InsertIsJudgedInOrder
  refine ⟨?_, ?_⟩
  · intro s j seat grade
    dsimp only
    have htakes (p : Nat) := InsertSession.takesSheet_iff (s := s) (p := p) (grade := grade)
    simp only [← htakes]
    exact ⟨InsertSession.insertTarget_seat, InsertSession.insertTarget_exception, InsertSession.insertTarget_none⟩
  · intro s l f h
    rw [exec_insert h]
    dsimp only
    congr 1
    have hsame : judgeInsert (takeFrame s l) (field f.payload 0) (field f.payload 1) (field f.payload 2)
        (field f.payload 3) = judgeInsert s (field f.payload 0) (field f.payload 1) (field f.payload 2)
        (field f.payload 3) := rfl
    dsimp only [ownInsert]
    rw [hsame, judgeInsert_eq]
    simp only [ite_not]
    split_ifs
    · rfl
    · rfl
    · cases findJob s (field f.payload 0) with
      | none => rfl
      | some j =>
        dsimp only
        split_ifs
        · rfl
        · cases insertTarget s j (field f.payload 1) (field f.payload 2) <;> rfl
    · rfl

end Sys2Proof.Machine.RequestJudging
end

section
/-!
PROOFS. The frames the handler refuses: the lengths of the requests, kind by kind (R23, R152, R155, R158).
-/
namespace Sys2Proof.Machine.RequestJudging

section Lemmas
variable {s : State} {l : Link} {f : Frame} {p : List Data} {code : Nat}

/-! ## The lengths -/

theorem lengthFrom_iff {i : Nat} {len : Nat → Option Nat} :
    lengthFrom p i len = true ↔ i < p.length ∧ len (field p i) = some p.length := by
  simp [lengthFrom]

/-- R23: the note lengthens an ANNOUNCE. -/
theorem announceLength_iff :
    lengthFrom p 5 (fun flags => some (if flags / 2 % 2 = 1 then 8 else 7)) = true ↔
      p.length = 7 + field p 5 / 2 % 2 ∧ 6 < p.length := by
  rw [lengthFrom_iff]
  rcases Nat.mod_two_eq_zero_or_one (field p 5 / 2) with h | h <;> simp [h] <;> omega

/-- R10: the overflow pocket lengthens an OPEN-JOB. -/
theorem openLength_iff :
    lengthFrom p 5 (fun presence => if presence = 0 then some 7 else if presence = 1 then some 8 else none) = true ↔
      field p 5 = 0 ∧ p.length = 7 ∨ field p 5 = 1 ∧ p.length = 8 := by
  rw [lengthFrom_iff]
  by_cases h0 : field p 5 = 0
  · simp [h0]
    omega
  · by_cases h1 : field p 5 = 1
    · simp [h1]
      omega
    · simp [h0, h1]

theorem field_cons_zero (c : Data) (rest : List Data) : field (c :: rest) 0 = c.toNat := rfl

theorem loadLengthOk_iff : loadLengthOk p = true ↔
    0 < p.length ∧ (field p 0 = 0 ∧ p.length = 4 ∨ field p 0 = 1 ∧ p.length = 4 + 2 * field p 3 ∨
      field p 0 = 2 ∧ p.length = 6 + 3 * field p 2 ∨ field p 0 = 3 ∧ p.length = 3 ∨ field p 0 = 4 ∧ p.length = 5 ∨
      field p 0 = 5 ∧ p.length = 7 ∨ 5 < field p 0) := by
  cases p with
  | nil => simp [loadLengthOk]
  | cons c rest =>
    rw [field_cons_zero]
    unfold loadLengthOk
    dsimp only
    split
    case h_7 h0 h1 h2 h3 h4 h5 =>
      simp only [imp_false] at h0 h1 h2 h3 h4 h5
      have hunnamed : 5 < c.toNat := by omega
      simp [h0, h1, h2, h3, h4, h5, hunnamed]
    case h_2 h | h_3 h =>
      rw [lengthFrom_iff, h]
      simp
      omega
    all_goals simp_all

theorem askLengthOk_iff : askLengthOk p = true ↔
    0 < p.length ∧ (field p 0 = 0 ∧ p.length = 1 ∨ field p 0 = 1 ∧ p.length = 2 ∨ field p 0 = 2 ∧ p.length = 2 ∨
      field p 0 = 3 ∧ p.length = 3 ∨ field p 0 = 4 ∧ p.length = 2 ∨
      field p 0 = 5 ∧ 1 < p.length ∧ (field p 1 = 0 ∧ p.length = 4 ∨ 1 ≤ field p 1 ∧ field p 1 ≤ 4 ∧ p.length = 3 ∨
        4 < field p 1) ∨
      field p 0 = 6 ∧ p.length = 1 ∨ 6 < field p 0) := by
  cases p with
  | nil => simp [askLengthOk]
  | cons c rest =>
    rw [field_cons_zero]
    unfold askLengthOk
    dsimp only
    split
    case h_8 h0 h1 h2 h3 h4 h5 h6 =>
      simp only [imp_false] at h0 h1 h2 h3 h4 h5 h6
      have hunnamed : 6 < c.toNat := by omega
      simp [h0, h1, h2, h3, h4, h5, h6, hunnamed]
    case h_6 h =>
      rw [h]
      by_cases h0 : field (c :: rest) 1 = 0
      · simp [h0]
      · by_cases h4 : field (c :: rest) 1 ≤ 4
        · simp [h0, h4]
          omega
        · simp [h0, h4]
          omega
    all_goals simp_all

theorem lengthOk_iff : lengthOk f = true ↔
    (f.kind = 0x01 ∧ f.payload.length = 7 + field f.payload 5 / 2 % 2 ∧ 6 < f.payload.length) ∨
    (f.kind = 0x02 ∧ (field f.payload 5 = 0 ∧ f.payload.length = 7 ∨ field f.payload 5 = 1 ∧ f.payload.length = 8)) ∨
    (f.kind = 0x03 ∧ f.payload.length = 1) ∨ (f.kind = 0x04 ∧ loadLengthOk f.payload = true) ∨
    (f.kind = 0x05 ∧ f.payload.length = 1) ∨ (f.kind = 0x0B ∧ f.payload.length = 4) ∨
    (f.kind = 0x0C ∧ askLengthOk f.payload = true) ∨
    (f.kind ∉ [0x01, 0x02, 0x03, 0x04, 0x05, 0x0B, 0x0C] ∧ f.payload.length = 0) := by
  simp only [lengthOk, beq_iff_eq, kindAnnounce, kindOpenJob, kindCloseJob, kindLoad, kindCommit, kindInsert, kindAsk]
  split_ifs with h1 h2 h3 h4 h5 h11 h12
  · simp [h1, announceLength_iff]
  · simp [h2, openLength_iff]
  · simp [h3]
  · simp [h4]
  · simp [h5]
  · simp [h11]
  · simp [h12]
  · simp [h1, h2, h3, h4, h5, h11, h12]

/-! ## The refusals -/

theorem selects_of_front {top : Nat} (h : p = [] ∨ field p 0 = code) : selects code top p = true := by
  rcases h with rfl | h
  · rfl
  · exact TableLoading.selects_of_field (.inl h)

theorem isLoad_of_front (hk : f.kind = 0x04) (h : f.payload = [] ∨ field f.payload 0 = code) :
    isLoad code f = true := by
  simp [isLoad, hk, kindLoad, selects_of_front h]

theorem isAsk_of_front (hk : f.kind = 0x0C) (h : f.payload = [] ∨ field f.payload 0 = code) : isAsk code f = true := by
  simp [isAsk, hk, kindAsk, selects_of_front h]

theorem ofKind_of_kind {k : Nat} (hk : f.kind = k) : ofKind k f = true := by simp [ofKind, hk]

theorem exec_unknownKind (ho : oldestFrame s l = some f) (hk : f.kind = 0 ∨ 12 < f.kind) :
    exec (.unknownKind l) s = .next (answerTo (takeFrame s l) l f (.refused .unknownKind) []) := by
  have hunknown : inboundKind f.kind = false := by
    rcases hk with hk | hk
    · simp [inboundKind, kindAnnounce, hk]
    · have hle : decide (f.kind ≤ kindAsk) = false := decide_eq_false (Nat.not_le.2 hk)
      rw [inboundKind, hle, Bool.and_false]
  show execUnknownKind l s = _
  simp only [execUnknownKind, ho, hunknown]
  rfl

end Lemmas

/-- Settles O16: the lengths by `lengthOk_iff`; a wrong one is refused before the frame reaches its owner
(`handle_badLength`). -/
theorem framesTheHandlerRefuses : Obligations.FramesTheHandlerRefuses := by
  unfold Obligations.FramesTheHandlerRefuses
  refine ⟨fun f => ?_, fun s l f pins ho => ⟨exec_unknownKind ho, fun hl => ?_⟩⟩
  · dsimp only
    rw [lengthOk_iff, loadLengthOk_iff, askLengthOk_iff]
  · have hrefused {wanted : Frame → Bool} {owner : Link → Frame → State → State} (hw : wanted f = true) :
        (.next (handle wanted owner l s) : Out) = .next (answerTo (takeFrame s l) l f (.refused .badLength) []) :=
      congrArg _ (handle_badLength s ho hw hl)
    have hkind {k : Nat} {owner : Link → Frame → State → State} (hk : f.kind = k) := hrefused (owner := owner)
      (ofKind_of_kind hk)
    have hload {code : Nat} {owner : Link → Frame → State → State} (hk : f.kind = 0x04)
        (h : f.payload = [] ∨ field f.payload 0 = code) := hrefused (owner := owner) (isLoad_of_front hk h)
    have hask {code : Nat} {owner : Link → Frame → State → State} (hk : f.kind = 0x0C)
        (h : f.payload = [] ∨ field f.payload 0 = code) := hrefused (owner := owner) (isAsk_of_front hk h)
    exact ⟨hkind, hkind, hkind, hload, hload, hload, hload, hload, hload, hkind, hkind, hkind, hkind, hkind, hkind, hkind,
      hask, hask, hask, hask, hask, hask, hask⟩

end Sys2Proof.Machine.RequestJudging
end

section
/-!
PROOFS. CLOSE-JOB, what a job holds, and the removal of the CLOSING jobs that hold nothing (R19 to R21).
-/
namespace Sys2Proof.Machine.JobAccounts

open SetAssembly FeedLinks

section Lemmas
variable {s t : State} {j : Job} {n : Nat} {l : Link} {f : Frame}

/-! ## What a job holds (R19) -/

theorem queueHolds_iff : queueHolds s l n = true ↔ ∃ d ∈ s.descs l, d.job = n := by
  simp [queueHolds, State.descs]

theorem liveSets_any_iff : (liveSets s).any (fun x => x.1 == n) = true ↔
    (∃ r, s.tray.held = some r ∧ r.job = n) ∨ (∃ r ∈ s.shelf.stack, r.job = n) ∨
    (∃ g, s.tower.carried = some g ∧ g.final = true ∧ g.job = n) := by
  simp [liveSets]

theorem exists_link_or {P : Link → Prop} : (P .a ∨ P .b) ↔ ∃ l, P l := by
  constructor
  · rintro (h | h)
    · exact ⟨_, h⟩
    · exact ⟨_, h⟩
  · rintro ⟨l, h⟩
    cases l
    · exact .inl h
    · exact .inr h

/-- R19: a job holds on by its live sets, its queued and its fed sheets, and its session. -/
theorem holdsClose_iff : holdsClose s n = true ↔
    (∃ r, s.tray.held = some r ∧ r.job = n) ∨ (∃ r ∈ s.shelf.stack, r.job = n) ∨
    (∃ g, s.tower.carried = some g ∧ g.final = true ∧ g.job = n) ∨
    (∃ l, ∃ d ∈ s.descs l, d.job = n) ∨ (∃ e ∈ s.path.entries, ∃ d, e.desc = some d ∧ d.job = n) ∨
    (∃ z, s.session = some z ∧ z.job = n) := by
  have hpath : s.path.entries.any (fun e => match e.desc with | some d => d.job == n | none => false) = true ↔
      ∃ e ∈ s.path.entries, ∃ d, e.desc = some d ∧ d.job = n := by
    simp only [List.any_eq_true]
    refine exists_congr fun e => and_congr_right fun _ => ?_
    cases e.desc <;> simp
  have hsession : (match s.session with | some z => z.job == n | none => false) = true ↔
      ∃ z, s.session = some z ∧ z.job = n := by
    cases s.session <;> simp
  have hqueues : (queueHolds s .a n = true ∨ queueHolds s .b n = true) ↔ ∃ l, ∃ d ∈ s.descs l, d.job = n := by
    rw [queueHolds_iff, queueHolds_iff]
    exact exists_link_or (P := fun l => ∃ d ∈ s.descs l, d.job = n)
  unfold holdsClose
  simp only [Bool.or_eq_true, or_assoc, liveSets_any_iff, ← hqueues]
  rw [← hpath, ← hsession] <;> exact Iff.rfl

/-- R19: what a job holds depends on neither the job list nor the links. -/
theorem holdsClose_of_jobs {js : List Job} {p : Pair LinkPort} (h : t = { s with jobs := js, links := p }) (n : Nat) :
    holdsClose t n = holdsClose s n := by
  subst h
  rfl

/-! ## The removal (R20) -/

/-- R20: the job is CLOSING and holds nothing. -/
def goes (s : State) (j : Job) : Bool := j.phase == .closing && !holdsClose s j.number

theorem goes_iff : goes s j = true ↔ j.phase = .closing ∧ holdsClose s j.number = false := by simp [goes]

theorem removeIfClosed_eq : removeIfClosed s j =
    if goes s j then notify (dropJob s j.number) j.replyTag j.number (.jobClosed j.summary) else s := by
  unfold removeIfClosed goes
  cases j.phase with
  | opened => rfl
  | closing => cases holdsClose s j.number <;> rfl

theorem goes_of_jobs {js : List Job} {p : Pair LinkPort} (h : t = { s with jobs := js, links := p }) (j : Job) :
    goes t j = goes s j := by
  rw [goes, goes, holdsClose_of_jobs h]

theorem dropJob_eq : dropJob s n = { s with jobs := s.jobs.filter (fun x => x.number ≠ n) } := by
  have hjobs : s.jobs.filter (fun x => x.number != n) = s.jobs.filter (fun x => x.number ≠ n) :=
    List.filter_congr fun x _ => by simp [bne, BEq.beq]
  rw [dropJob, hjobs]

theorem removeIfClosed_frame (j : Job) : removeIfClosed s j =
    { s with jobs := (removeIfClosed s j).jobs, links := (removeIfClosed s j).links } := by
  rw [removeIfClosed_eq]
  split
  · rw [PocketTower.notify_eq]
    rfl
  · rfl

theorem removeIfClosed_jobs : (removeIfClosed s j).jobs =
    s.jobs.filter (fun x => !(goes s j && x.number == j.number)) := by
  rw [removeIfClosed_eq]
  cases goes s j <;> simp [dropJob, bne]

theorem foldl_removeIfClosed_jobs (js : List Job) : ∀ s : State, (js.foldl removeIfClosed s).jobs =
    s.jobs.filter (fun x => !js.any (fun j => goes s j && x.number == j.number)) := by
  induction js with
  | nil => simp
  | cons j js ih =>
    intro s
    simp only [List.foldl_cons, ih, goes_of_jobs (removeIfClosed_frame j), removeIfClosed_jobs, List.filter_filter,
      List.any_cons, Bool.not_or]
    simp only [Bool.and_comm]

theorem foldl_removeIfClosed_of_stay {js : List Job} (h : ∀ j ∈ js, goes s j = false) :
    js.foldl removeIfClosed s = s := by
  induction js with
  | nil => rfl
  | cons j js ih =>
    obtain ⟨hj, hjs⟩ := List.forall_mem_cons.1 h
    rw [List.foldl_cons, removeIfClosed_eq, hj]
    exact ih hjs

/-- R20: the removal takes exactly the jobs that go. -/
theorem removeClosed_jobs (hn : (s.jobs.map (·.number)).Nodup) (h63 : ∀ j ∈ s.jobs, j.number ≤ 63) :
    (removeClosed s).jobs = s.jobs.filter (fun j => !goes s j) := by
  rw [removeClosed, foldl_removeIfClosed_jobs]
  refine List.filter_congr fun x hx => congrArg _ (Bool.eq_iff_iff.2 ?_)
  simp only [List.any_eq_true, Bool.and_eq_true, beq_iff_eq, mem_jobsAscending hn h63]
  constructor
  · rintro ⟨j, hj, hgoes, hsame⟩
    exact List.inj_on_of_nodup_map hn hx hj hsame ▸ hgoes
  · exact fun hgoes => ⟨x, hx, hgoes, rfl⟩

theorem removeClosed_of_stay (h : ∀ j ∈ s.jobs, goes s j = false) : removeClosed s = s := by
  refine foldl_removeIfClosed_of_stay fun j hj => h j ?_
  obtain ⟨n, -, hfound⟩ := List.mem_filterMap.1 hj
  exact (findJob_some hfound).2

/-- R20: a job that goes alone sends one JOB-CLOSED. -/
theorem removeClosed_of_one (hn : (s.jobs.map (·.number)).Nodup) (h63 : ∀ j ∈ s.jobs, j.number ≤ 63) (hj : j ∈ s.jobs)
    (hgoes : goes s j = true) (hother : ∀ i ∈ s.jobs, i ≠ j → goes s i = false) :
    removeClosed s = notify (dropJob s j.number) j.replyTag j.number (.jobClosed j.summary) := by
  have hmem := (mem_jobsAscending hn h63).2 hj
  obtain ⟨before, after, hsplit⟩ := List.append_of_mem hmem
  have hnodup : (jobsAscending s).Nodup := (jobsAscending_perm hn h63).nodup_iff.2 hn.of_map
  have hstay (i : Job) (hi : i ∈ before ++ after) : goes s i = false := by
    rw [hsplit, List.nodup_middle] at hnodup
    refine hother i ((mem_jobsAscending hn h63).1 ?_) fun hij => (List.nodup_cons.1 hnodup).1 (hij ▸ hi)
    rw [hsplit]
    exact List.mem_append.2 ((List.mem_append.1 hi).imp_right (List.mem_cons_of_mem _))
  have hbefore : ∀ i ∈ before, goes s i = false := fun i hi => hstay i (List.mem_append_left _ hi)
  have hafter : ∀ i ∈ after, goes (removeIfClosed s j) i = false := fun i hi =>
    (goes_of_jobs (removeIfClosed_frame j) i).trans (hstay i (List.mem_append_right _ hi))
  rw [removeClosed, hsplit, List.foldl_append, foldl_removeIfClosed_of_stay hbefore, List.foldl_cons,
    foldl_removeIfClosed_of_stay hafter, removeIfClosed_eq, if_pos hgoes]

theorem removeClosed_frame : removeClosed s =
    { s with links := (removeClosed s).links, jobs := (removeClosed s).jobs } := by
  have hfold (js : List Job) : ∀ s : State, js.foldl removeIfClosed s =
      { s with links := (js.foldl removeIfClosed s).links, jobs := (js.foldl removeIfClosed s).jobs } := by
    induction js with
    | nil => exact fun _ => rfl
    | cons j js ih =>
      intro s
      rw [List.foldl_cons, ih, removeIfClosed_frame]
  exact hfold _ s

/-! ## CLOSE-JOB (R20) -/

theorem exec_closeJob (h : s.requests l f 0x03) : exec (.closeJob l) s = .next (ownCloseJob l f (takeFrame s l)) := by
  obtain ⟨hoffered, hkind, hlength⟩ := h
  exact congrArg _ (handle_request s hoffered (by simp [ofKind, hkind, kindCloseJob]) hlength)

theorem ownCloseJob_range (h : field f.payload 0 = 0 ∨ 63 < field f.payload 0) :
    ownCloseJob l f s = refuse s l f .range := if_pos h

theorem ownCloseJob_eq (h1 : 1 ≤ field f.payload 0) (h63 : field f.payload 0 ≤ 63) : ownCloseJob l f s =
    match findJob s (field f.payload 0) with
    | none => refuse s l f .unknownJob
    | some j => match j.phase with
      | .closing => answerTo s l f .accepted []
      | .opened => if holdsClose s (field f.payload 0) then
          answerTo (changeJob s (field f.payload 0) (fun x => { x with phase := .closing })) l f .accepted []
        else answerTo (dropJob s (field f.payload 0)) l f .done j.summaryBody := by
  have hrange : ¬(field f.payload 0 = 0 ∨ Config.maxJobNumber < field f.payload 0) := by
    simp only [Config.maxJobNumber]
    omega
  exact if_neg hrange

end Lemmas

/-- Settles O20: CLOSE-JOB by `ownCloseJob_eq`, R19's list by `holdsClose_iff`, and the removal by what each of its
steps does (`foldl_removeIfClosed_jobs`, `removeClosed_of_one`). -/
theorem closeJobRemovesOrWaits : Obligations.CloseJobRemovesOrWaits := by
  unfold Obligations.CloseJobRemovesOrWaits
  refine ⟨fun s l f h => ?_, fun s n => holdsClose_iff, fun s hn h63 => ?_⟩
  · have hholds (n : Nat) : holdsClose (takeFrame s l) n = holdsClose s n := rfl
    have hfound (n : Nat) : findJob (takeFrame s l) n = findJob s n := rfl
    dsimp only
    rw [exec_closeJob h]
    refine ⟨fun hr => by rw [ownCloseJob_range hr]; rfl, fun h1 h63 hnone => ?_, fun j h1 h63 hj => ?_⟩
    · rw [ownCloseJob_eq h1 h63, hfound, hnone]
      rfl
    · rw [ownCloseJob_eq h1 h63, hfound, hj]
      refine ⟨fun hp => ?_, fun hp hh => ?_, fun hp hh => ?_⟩
      · simp only [hp]
      · simp only [hp, hholds, hh, if_pos, changeJob, beq_iff_eq]
        rfl
      · simp only [hp, hholds, hh, dropJob_eq]
        rfl
  · have hle : ∀ j ∈ s.jobs, j.number ≤ 63 := fun j hj => (h63 j hj).2
    refine ⟨removeClosed_frame, removeClosed_jobs hn hle, fun hstay => ?_, fun j hj hgoes hother => ?_⟩
    · refine removeClosed_of_stay fun j hj => Bool.eq_false_iff.2 fun hg => hstay j hj (goes_iff.1 hg)
    · rw [removeClosed_of_one hn hle hj (goes_iff.2 hgoes) fun i hi hij =>
        Bool.eq_false_iff.2 fun hg => hother i hi hij (goes_iff.1 hg)]
      rw [dropJob_eq]
      rfl

end Sys2Proof.Machine.JobAccounts
end

section
/-!
PROOFS. Announced sheets join their queue; the checks at the head, and how a descriptor becomes the head (R23 to R33).
-/
namespace Sys2Proof.Machine.FeedQueues

open SetAssembly ParkingShelf

section Announcing
variable {s t : State} {l : Link} {d : Desc} {e : QueueEntry} {es rest : List QueueEntry} {r : FaultyReason} {f : Frame}

/-! ## The arrival (R24 to R26) -/

/-- R26: the fields of a descriptor are in their ranges. -/
abbrev InRange (d : Desc) : Prop :=
  1 ≤ d.job ∧ d.job ≤ 63 ∧ 1 ≤ d.seat ∧ d.seat ≤ 40 ∧ 1 ≤ d.part ∧ d.part ≤ 6 ∧ 1 ≤ d.index ∧ d.index ≤ 99

theorem arrivalMark_of_not_inRange (h : ¬InRange d) : arrivalMark es d = some .range := by
  unfold InRange at h
  exact if_pos (by omega)

theorem arrivalMark_of_inRange (h : InRange d) :
    arrivalMark es d = if es.any (fun e => e.desc.tag == d.tag) then some .duplicateTag else none := by
  unfold InRange at h
  exact if_neg (by omega)

/-- R26: the mark a descriptor joins its queue with. -/
theorem arrivalMark_eq : arrivalMark (s.feeds.get l).entries d =
    if ¬InRange d then some .range else if ∃ x ∈ s.descs l, x.tag = d.tag then some .duplicateTag else none := by
  by_cases h : InRange d
  · have htag : (s.feeds.get l).entries.any (fun e => e.desc.tag == d.tag) = true ↔ ∃ x ∈ s.descs l, x.tag = d.tag := by
      simp [State.descs]
    rw [arrivalMark_of_inRange h, if_neg (not_not_intro h)]
    simp only [htag]
  · rw [arrivalMark_of_not_inRange h, if_pos h]

theorem arrive_of_full (h : 12 ≤ (s.feeds.get l).entries.length) :
    arrive s l d = notifyAnnounced s d.job (.queueOverflow l d) := if_pos h

theorem arrive_of_nil (h : (s.feeds.get l).entries = []) : arrive s l d = newHead (appendDesc s l d) l := by
  simp [arrive, h, Config.maxQueue]

theorem arrive_of_room (h1 : 1 ≤ (s.feeds.get l).entries.length) (h12 : (s.feeds.get l).entries.length < 12) :
    arrive s l d = appendDesc s l d := by
  have hroom : ¬Config.maxQueue ≤ (s.feeds.get l).entries.length := Nat.not_le.2 h12
  have hne : (s.feeds.get l).entries.isEmpty = false :=
    List.isEmpty_eq_false_iff.2 (List.length_pos_iff.1 h1)
  simp [arrive, hroom, hne]

/-! ## The checks at the head (R30, R31) -/

/-- R31: the open set has the sheet behind it. -/
theorem outOfOrder_iff : outOfOrder s d = true ↔ ∃ r, s.tray.held = some r ∧
    (∀ c, s.tray.close = some c → c.kind ≠ .final) ∧ r.job = d.job ∧ r.seat = d.seat ∧
    (d.part < r.part ∨ (d.part = r.part ∧ d.index ≤ ((r.parts[d.part - 1]?).map (·.lastIndex)).getD 0)) := by
  unfold outOfOrder
  cases ho : openSet s with
  | none =>
    refine iff_of_false (by simp) ?_
    rintro ⟨r, hr, hclose, -⟩
    rw [openSet_eq_some_iff.2 ⟨hr, hclose⟩] at ho
    cases ho
  | some x =>
    obtain ⟨hheld, hclose⟩ := openSet_eq_some_iff.1 ho
    simp [hheld, SetRec.isOf, and_assoc]
    exact fun _ _ _ => hclose

theorem checkHead_of_job {j : Job} (h : findJob s d.job = some j) : checkHead s l d = checkAgainst s l d j := by
  simp [checkHead, h]

/-! ## The change of head (R27, R32, R33) -/

/-- R27: the queue with `e` at its head. -/
def headed (s : State) (l : Link) (e : QueueEntry) (rest : List QueueEntry) : State :=
  { s with feeds := s.feeds.set l { s.feeds.get l with entries := e :: rest } }

/-- R32, R33: the FAULTY head captured. -/
def captured (s : State) (l : Link) (e : QueueEntry) (rest : List QueueEntry) (r : FaultyReason) : State :=
  notify
    { s with
      feeds := s.feeds.set l {
        entries := e :: rest
        capture := { count := min 65535 ((s.feeds.get l).capture.count + 1), held := some (e.desc, r) } } }
    (((findJob s e.desc.job).map (·.replyTag)).getD 0) (if 1 ≤ e.desc.job ∧ e.desc.job ≤ 63 then e.desc.job else 0)
    (.descriptorFault l r e.desc (min 65535 ((s.feeds.get l).capture.count + 1)))

theorem judgedHead_of_faulty (h : e.faulty = some r) : judgedHead s l e = { e with standing := .waiting } := by
  simp [judgedHead, h]

theorem judgedHead_of_checked (h : e.faulty = none) (hc : e.checked = true) :
    judgedHead s l e = { e with standing := .waiting } := by
  simp [judgedHead, h, hc]

theorem judgedHead_of_passes (h : e.faulty = none) (hc : e.checked = false) (hp : checkHead s l e.desc = none) :
    judgedHead s l e = { e with standing := .waiting, checked := true } := by
  simp [judgedHead, h, hc, hp]

theorem judgedHead_of_fails (h : e.faulty = none) (hc : e.checked = false) (hp : checkHead s l e.desc = some r) :
    judgedHead s l e = { e with standing := .waiting, faulty := some r } := by
  simp [judgedHead, h, hc, hp]

theorem changeHead_eq (h : (s.feeds.get l).entries = e :: rest) (q : QueueEntry → QueueEntry) :
    changeHead s l q = headed s l (q e) rest := by
  simp [changeHead, changeFeed, headed, h, changeAt]

theorem newHead_of_nil (h : (s.feeds.get l).entries = []) : newHead s l = s := by simp [newHead, headOf, h]

theorem newHead_of_sound (h : (s.feeds.get l).entries = e :: rest) (hs : (judgedHead s l e).faulty = none) :
    newHead s l = headed s l (judgedHead s l e) rest := by
  have hhead : headOf s l = some e := headOf_eq_some_iff.2 ⟨rest, h⟩
  simp [newHead, hhead, hs, changeHead_eq h]

theorem newHead_of_faulty (h : (s.feeds.get l).entries = e :: rest) (hf : (judgedHead s l e).faulty = some r) :
    newHead s l = captured s l (judgedHead s l e) rest r := by
  have hhead : headOf s l = some e := headOf_eq_some_iff.2 ⟨rest, h⟩
  have hnew : newHead s l = captureHead (headed s l (judgedHead s l e) rest) l (judgedHead s l e).desc r := by
    simp [newHead, hhead, hf, changeHead_eq h]
  rw [hnew, captureHead, changeFeed]
  simp only [headed, Pair.get_set_same, Pair.set_set]
  rfl

/-! ## An announced sheet (R23 to R27, R32) -/

theorem exec_announce (h : s.requests l f 0x01) :
    exec (.announce l) s = .next (settle (arrive (takeFrame s l) l (announcedDesc f.payload))) := by
  obtain ⟨hoffered, hkind, hlength⟩ := h
  exact congrArg _ (handle_request s hoffered (by simp [ofKind, hkind, kindAnnounce]) hlength)

theorem sameBesides_takeFrame : s.SameBesides (takeFrame s l) := by constructor <;> simp

theorem sameBesides_arrive : s.SameBesides (arrive s l d) := by constructor <;> simp

theorem appendDesc_eq : appendDesc s l d = { s with
    feeds := s.feeds.set l { s.feeds.get l with
      entries := (s.feeds.get l).entries ++ [queuedEntry (s.feeds.get l).entries d] } } := rfl

theorem newHead_other : (newHead s l).feeds.get (otherLink l) = s.feeds.get (otherLink l) := by
  cases hes : (s.feeds.get l).entries with
  | nil => rw [newHead_of_nil hes]
  | cons e rest =>
    cases hf : (judgedHead s l e).faulty with
    | none => simp [newHead_of_sound hes hf, headed, Pair.get_set_other _ _ (otherLink_ne l)]
    | some r => simp [newHead_of_faulty hes hf, captured, Pair.get_set_other _ _ (otherLink_ne l)]

/-- R24: an arrival is its own link's. -/
theorem arrive_other : (arrive s l d).feeds.get (otherLink l) = s.feeds.get (otherLink l) := by
  have happend : (appendDesc s l d).feeds.get (otherLink l) = s.feeds.get (otherLink l) := by
    simp [appendDesc_eq, Pair.get_set_other _ _ (otherLink_ne l)]
  unfold arrive
  split
  · simp
  · split
    · exact newHead_other.trans happend
    · exact happend

theorem settle_capture (m : Link) : ((settle s).feeds.get m).capture = (s.feeds.get m).capture :=
  ((settle_onward s).captures m).trans (by simp)

theorem judgedHead_desc (e : QueueEntry) : (judgedHead s l e).desc = e.desc := by
  unfold judgedHead
  repeat' split
  all_goals rfl

theorem newHead_descs (m : Link) : (newHead s l).descs m = s.descs m := by
  unfold State.descs
  rw [newHead_entries]
  split
  next hm =>
    subst hm
    cases (s.feeds.get m).entries <;> simp [changeAt, judgedHead_desc]
  next => rfl

theorem appendDesc_descs : (appendDesc s l d).descs l = s.descs l ++ [d] := by
  simp [State.descs, appendDesc_eq, queuedEntry]

theorem arrive_descs : (arrive s l d).descs l = if 12 ≤ (s.descs l).length then s.descs l else s.descs l ++ [d] := by
  have hlength : (s.descs l).length = (s.feeds.get l).entries.length := by simp [State.descs]
  rw [hlength]
  split
  next hfull => simp [arrive_of_full hfull, State.descs]
  next hroom =>
    have hroom' : ¬Config.maxQueue ≤ (s.feeds.get l).entries.length := hroom
    rw [arrive, if_neg hroom']
    split
    · exact (newHead_descs l).trans appendDesc_descs
    · exact appendDesc_descs

/-- R26, R30: the first descriptor of an empty queue fails on its ranges. -/
theorem judgedHead_first_range (h : ¬InRange d) : (judgedHead s l (queuedEntry [] d)).faulty = some .range := by
  have hmark : (queuedEntry [] d).faulty = some .range := arrivalMark_of_not_inRange h
  rw [judgedHead_of_faulty hmark]
  exact hmark

/-- R26, R30: the first descriptor of an empty queue, in its ranges, is checked. -/
theorem judgedHead_first_checked (h : InRange d) : (judgedHead s l (queuedEntry [] d)).faulty = checkHead s l d := by
  have hmark : (queuedEntry [] d).faulty = none := arrivalMark_of_inRange h
  cases hp : checkHead s l d with
  | none => rw [judgedHead_of_passes hmark rfl hp]; exact hmark
  | some r => rw [judgedHead_of_fails hmark rfl hp]

theorem appendDesc_first (h : (s.feeds.get l).entries = []) :
    ((appendDesc s l d).feeds.get l).entries = [queuedEntry [] d] := by
  simp [appendDesc_entries, h]

theorem arrive_first_sound (h : (s.feeds.get l).entries = [])
    (hs : (judgedHead s l (queuedEntry [] d)).faulty = none) :
    ((arrive s l d).feeds.get l).capture = (s.feeds.get l).capture := by
  rw [arrive_of_nil h, newHead_of_sound (appendDesc_first h) hs]
  simp [headed, appendDesc_eq]

theorem arrive_first_faulty (h : (s.feeds.get l).entries = [])
    (hf : (judgedHead s l (queuedEntry [] d)).faulty = some r) : ((arrive s l d).feeds.get l).capture =
      { count := min 65535 ((s.feeds.get l).capture.count + 1), held := some (d, r) } := by
  rw [arrive_of_nil h, newHead_of_faulty (appendDesc_first h) hf]
  simp [captured, appendDesc_eq, judgedHead_desc, queuedEntry]

theorem arrive_behind_capture (h : (s.feeds.get l).entries ≠ []) :
    ((arrive s l d).feeds.get l).capture = (s.feeds.get l).capture := by
  have hne : (s.feeds.get l).entries.isEmpty = false := List.isEmpty_eq_false_iff.2 h
  unfold arrive
  rw [hne]
  split <;> simp [appendDesc_eq]

/-- R26, R30: what the arriving descriptor fails as the first of its queue, in the terms of the state before. -/
theorem first_of_fails (h : (if s.descs l ≠ [] then none else if ¬InRange d then some .range else checkHead s l d) =
    some r) : s.descs l = [] ∧
      (judgedHead (appendDesc (takeFrame s l) l d) l (queuedEntry [] d)).faulty = some r := by
  split_ifs at h with hne hr
  · exact ⟨not_not.1 hne, (judgedHead_first_checked hr).trans h⟩
  · exact ⟨not_not.1 hne, (judgedHead_first_range hr).trans h⟩

theorem first_of_sound (he : s.descs l = [])
    (h : (if s.descs l ≠ [] then none else if ¬InRange d then some .range else checkHead s l d) = none) :
    (judgedHead (appendDesc (takeFrame s l) l d) l (queuedEntry [] d)).faulty = none := by
  split_ifs at h with hne hr
  · exact absurd he hne
  · exact (judgedHead_first_checked hr).trans h

end Announcing

/-- Settles O18. -/
theorem announcedSheetsQueueUp : Obligations.AnnouncedSheetsQueueUp := by
  unfold Obligations.AnnouncedSheetsQueueUp
  refine ⟨fun s l f h => ?_, fun s l d => ⟨fun hj => by simp [checkHead, hj], fun j hj => ?_⟩, fun s l =>
    ⟨newHead_of_nil, fun e rest hes => ?_⟩⟩
  · have hnil : s.descs l = [] ↔ (s.feeds.get l).entries = [] := by simp [State.descs]
    have hlength : (s.descs l).length = (s.feeds.get l).entries.length := by simp [State.descs]
    have hsame : s.SameBesides (settle (arrive (takeFrame s l) l (announcedDesc f.payload))) :=
      sameBesides_trans (sameBesides_trans sameBesides_takeFrame sameBesides_arrive) sameBesides_settle
    have hmark : arrivalMark ((takeFrame s l).feeds.get l).entries (announcedDesc f.payload) = _ := arrivalMark_eq
    have hother := arrive_other (s := takeFrame s l) (l := l) (d := announcedDesc f.payload)
    refine ⟨_, exec_announce h, hsame, (settle_descs l).trans arrive_descs, fun r hr => ?_, fun hn => ?_,
      (settle_descs _).trans (congrArg _ (congrArg Feed.entries hother)), (settle_capture _).trans (congrArg _ hother),
      fun hfull => ?_, fun h1 h12 => ?_, fun he => ?_⟩
    · obtain ⟨he, hf⟩ := first_of_fails hr
      exact (settle_capture l).trans (arrive_first_faulty (hnil.1 he) hf)
    · refine (settle_capture l).trans ?_
      by_cases he : s.descs l = []
      · exact arrive_first_sound (hnil.1 he) (first_of_sound he hn)
      · exact arrive_behind_capture fun h => he (hnil.2 h)
    · rw [arrive_of_full (hlength ▸ hfull)]
      rfl
    · rw [arrive_of_room (hlength ▸ h1) (hlength ▸ h12), appendDesc_eq, queuedEntry, hmark]
      rfl
    · rw [arrive_of_nil (s := takeFrame s l) (hnil.1 he), appendDesc_eq, queuedEntry, hmark]
      rfl
  · dsimp only
    rw [checkHead_of_job hj]
    refine ⟨fun hseat => if_pos hseat, fun hlist hclass => ?_⟩
    have hseat : ¬(j.seats.length < d.seat ∨ (classOf s j.cls).seatCount < d.seat) := by omega
    have hchecked : checkAgainst s l d j = match (planOf s j.plan).parts[d.part - 1]? with
        | none => some .partRange
        | some p => if p.source ≠ l then some .wrongLink else if outOfOrder s d then some .order else none :=
      if_neg hseat
    rw [hchecked]
    refine ⟨fun hp => by rw [hp], fun p hp => ?_⟩
    rw [hp]
    refine ⟨fun hl => if_pos hl, fun hl => ?_⟩
    dsimp only
    rw [if_neg (not_not_intro hl)]
    refine ⟨fun hlate => if_pos (outOfOrder_iff.2 hlate), fun hno => if_neg fun ho => ?_⟩
    obtain ⟨r, hr, hlate⟩ := outOfOrder_iff.1 ho
    exact hno r hr hlate
  · dsimp only
    refine ⟨fun r hf => ?_, fun hf hc => ?_, fun hf hc => ⟨fun hp => ?_, fun r hp => ?_⟩⟩
    · have hj := judgedHead_of_faulty (s := s) (l := l) hf
      rw [newHead_of_faulty hes ((congrArg _ hj).trans hf), hj]
      rfl
    · have hj := judgedHead_of_checked (s := s) (l := l) hf hc
      rw [newHead_of_sound hes ((congrArg _ hj).trans hf), hj]
      rfl
    · have hj := judgedHead_of_passes hf hc hp
      rw [newHead_of_sound hes ((congrArg _ hj).trans hf), hj]
      rfl
    · have hj := judgedHead_of_fails hf hc hp
      rw [newHead_of_faulty hes (congrArg _ hj), hj]
      rfl

end Sys2Proof.Machine.FeedQueues
end

section
/-!
PROOFS. How a grant ends: the granted sheet enters the path (R48, R74, R75, R78), or its feed window expires (R41, R49,
R55).
-/
namespace Sys2Proof.Machine.FeedQueues

open SetAssembly ParkingShelf FeedLinks

section GrantEnds
variable {s t : State} {l : Link} {e : QueueEntry} {rest : List QueueEntry} {g : Grant} {r : SetRec} {n : Nat}

theorem dropHead_descs (h : (s.feeds.get l).entries = e :: rest) : (dropHead s l).descs l = rest.map (·.desc) := by
  simp [State.descs, dropHead_entries, h]

theorem dropHead_descs_other : (dropHead s l).descs (otherLink l) = s.descs (otherLink l) := by
  simp [State.descs, dropHead_entries, otherLink_ne]

theorem settle_feedWindow : (settle s).timers.feedWindow = s.timers.feedWindow :=
  (settle_onward s).feedWindow.trans (congrArg _ sessionTakesTower_timers)

/-! ## The lead edge (R48) -/

/-- R48: the part once the grant has ended, its sheet not yet in the path. -/
def leadTaken (s : State) (l : Link) (tick : Tick) : State :=
  let u := atLead s l tick
  dropHead { u with grant := none, timers := { u.timers with feedWindow := none } } l

/-- R73, R78: the entry of the granted sheet, its compare point `d` ticks after its lead. -/
def leadEntry (e : QueueEntry) (g : Grant) (tick : Tick) (d : Nat) : PathEntry :=
  { desc := some e.desc, faulty := e.faulty, link := g.link, purpose := g.purpose, lead := tick
    compare := tick + BitVec.ofNat 16 d, trail := none, length := none, measured := none
    conflict := false, state := .preGate, deadline := none, overdue := false }

theorem captureLead_granted (tick : Tick) (h4 : s.path.entries.length < 4) (hg : s.grant = some g)
    (he : (s.feeds.get g.link).entries = e :: rest) :
    captureLead s g.link tick = captureGranted s g.link tick (e, g.purpose) := by
  have hroom : ¬Config.maxPath ≤ s.path.entries.length := Nat.not_le.2 h4
  have hgranted : grantedOn s g.link = some (e, g.purpose) := by
    simp [grantedOn, hg, headOf_eq_some_iff.2 ⟨rest, he⟩]
  simp [captureLead, hroom, hgranted]

/-- R48, R73: the part once the granted sheet is in the path. -/
def leadJoined (s : State) (e : QueueEntry) (g : Grant) (tick : Tick) : State :=
  joinPath (leadTaken s g.link tick) (leadEntry e g tick (compareTicks s.tables.transport.active.speed))

theorem leadTaken_path (tick : Tick) (ha : active s = true) :
    (leadTaken s l tick).path = { s.path with timer := tick } := by
  simp [leadTaken, atLead_path tick ha]

theorem leadTaken_descs (tick : Tick) (h : (s.feeds.get l).entries = e :: rest) :
    (leadTaken s l tick).descs l = rest.map (·.desc) :=
  dropHead_descs (by simpa using h)

theorem leadTaken_descs_other (tick : Tick) : (leadTaken s l tick).descs (otherLink l) = s.descs (otherLink l) :=
  dropHead_descs_other.trans (descs_congr _ (by simp))

theorem leadJoined_descs (tick : Tick) (m : Link) :
    (leadJoined s e g tick).descs m = (leadTaken s g.link tick).descs m :=
  descs_congr m (by simp [leadJoined])

theorem exec_leadCapture_granted (tick : Tick) (ha : active s = true) (hl : linkPresent s g.link = true)
    (h4 : s.path.entries.length < 4) (hg : s.grant = some g) (he : (s.feeds.get g.link).entries = e :: rest) :
    exec (.leadCapture g.link tick) s = .next (settle (newHead (leadJoined s e g tick) g.link)) := by
  have hcaptured := captureLead_granted (s := atLead s g.link tick) tick (by simpa [atLead_path tick ha] using h4)
    (by simpa using hg) (by simpa using he)
  have hentry : newEntry (atLead s g.link tick) g.link tick (some (e, g.purpose)) =
      leadEntry e g tick (compareTicks s.tables.transport.active.speed) := by
    simp [newEntry, leadEntry, speedOf]
  rw [exec_leadCapture tick ha hl, hcaptured, captureGranted, hentry]
  rfl

/-! ## The feed window (R49) -/

/-- R49, R41: the open set without the missed sheet. -/
def withoutSheet (r : SetRec) (p : Nat) : SetRec := { r with
  flags := { r.flags with incomplete := true }
  parts := r.parts.modify (p - 1) (fun c => { c with taken := c.taken - 1 }) }

theorem loseSheet_eq (p : Nat) : (fun r => SetRec.loseSheet r p) = fun r => withoutSheet r p :=
  funext fun r => SetRec_loseSheet_eq r p

/-- R49, R27: the grant has ended, and its head has left its queue. -/
def feedEnded (s : State) (g : Grant) (rest : List QueueEntry) : State := { s with
  grant := none
  timers := { s.timers with feedWindow := none }
  feeds := s.feeds.set g.link { (s.feeds.get g.link) with entries := rest } }

/-- R49, R41: `feedEnded`, and the open set is without the missed TRAY sheet. -/
def feedShort (s : State) (g : Grant) (e : QueueEntry) (rest : List QueueEntry) : State :=
  { feedEnded s g rest with tray := { s.tray with held := s.tray.held.map (fun r => withoutSheet r e.desc.part) } }

/-- R49: FEED-MISSED is sent. -/
def feedMissed (s : State) (g : Grant) (e : QueueEntry) : State := notifyJob s e.desc.job (.feedMissed g.link e.desc)

/-- R55: the missed sheet was all that held the set `r` back from its final close. -/
def HandedOver (s : State) (r : SetRec) : Prop := s.tray.phase = .compiling ∧ s.tray.held = some r ∧
  (∀ c, s.tray.close = some c → c.kind ≠ .final) ∧ r.assembly = .closePending ∧ active s = true ∧
  ∀ x ∈ s.path.entries, x.purpose = .tray → x.state = .toPurge

theorem dropHead_missed (he : (s.feeds.get g.link).entries = e :: rest) :
    dropHead { s with grant := none, timers := { s.timers with feedWindow := none } } g.link = feedEnded s g rest := by
  simp [dropHead, changeFeed, feedEnded, he]

theorem missFeed_purge (he : (s.feeds.get g.link).entries = e :: rest) (hp : g.purpose ≠ .tray) :
    missFeed s g e = removeClosed (newHead (feedMissed (feedEnded s g rest) g e) g.link) := by
  have hdropped := dropHead_missed he
  cases hg : g.purpose with
  | tray => exact absurd hg hp
  | purgeFaulty | purgeOrphan | stray => simp [missFeed, hg, hdropped, feedMissed]

theorem missFeed_tray (he : (s.feeds.get g.link).entries = e :: rest) (hp : g.purpose = .tray) :
    missFeed s g e = removeClosed (newHead (handOver (feedMissed (feedShort s g e rest) g e)) g.link) := by
  have hdropped : dropHead (changeHeld { s with grant := none, timers := { s.timers with feedWindow := none } }
      (fun r => r.loseSheet e.desc.part)) g.link = feedShort s g e rest := by
    simp [dropHead, changeFeed, changeHeld, feedShort, feedEnded, he, loseSheet_eq]
  simp [missFeed, hp, hdropped, feedMissed]

theorem feedMissed_short_grant : (feedMissed (feedShort s g e rest) g e).grant = none := by
  simp [feedMissed, feedShort, feedEnded]

theorem feedMissed_short_active : active (feedMissed (feedShort s g e rest) g e) = active s :=
  active_congr (by simp [feedMissed, feedShort, feedEnded])

theorem feedMissed_short_path : (feedMissed (feedShort s g e rest) g e).path = s.path := by
  simp [feedMissed, feedShort, feedEnded]

theorem feedMissed_short_tray : (feedMissed (feedShort s g e rest) g e).tray =
    { s.tray with held := s.tray.held.map (fun r => withoutSheet r e.desc.part) } := by
  simp [feedMissed, feedShort]

theorem openSet_feedMissed_short {r' : SetRec} : openSet (feedMissed (feedShort s g e rest) g e) = some r' ↔
    (∃ r, s.tray.held = some r ∧ withoutSheet r e.desc.part = r') ∧
      ∀ c, s.tray.close = some c → c.kind ≠ .final := by
  simp [openSet_eq_some_iff, feedMissed_short_tray]

theorem trayBound_feedMissed_short : (trayBound (feedMissed (feedShort s g e rest) g e)).isEmpty = true ↔
    ∀ x ∈ s.path.entries, x.purpose = .tray → x.state = .toPurge := by
  rw [trayBound_isEmpty_iff, feedMissed_short_path]

/-- R55: the set that only the missed sheet held back goes to its final close. -/
theorem handOver_missed (h : HandedOver s r) : handOver (feedMissed (feedShort s g e rest) g e) =
    closeFinal (feedMissed (feedShort s g e rest) g e) (withoutSheet r e.desc.part) := by
  obtain ⟨hphase, hheld, hclose, hpending, hactive, hbound⟩ := h
  exact handOver_of_closes (openSet_feedMissed_short.2 ⟨⟨r, hheld, rfl⟩, hclose⟩)
    (by simpa [feedMissed_short_tray] using hphase) hpending (feedMissed_short_active.trans hactive)
    (trayGrantOut_eq_false_iff.2 (by simp [feedMissed_short_grant])) (trayBound_feedMissed_short.2 hbound)

theorem handOver_missed_of_not (h : ∀ r, ¬HandedOver s r) :
    handOver (feedMissed (feedShort s g e rest) g e) = feedMissed (feedShort s g e rest) g e := by
  rcases handOver_cases (s := feedMissed (feedShort s g e rest) g e) with
    hsame | ⟨r', ho, hphase, hpending, hactive, _, hbound⟩
  · exact hsame
  · obtain ⟨⟨r, hheld, rfl⟩, hclose⟩ := openSet_feedMissed_short.1 ho
    exact absurd ⟨by simpa [feedMissed_short_tray] using hphase, hheld, hclose, hpending,
      feedMissed_short_active.symm.trans hactive, trayBound_feedMissed_short.1 hbound⟩ (h r)

theorem exec_feedWindowExpiry (hw : s.timers.feedWindow = some n) (hg : s.grant = some g)
    (he : (s.feeds.get g.link).entries = e :: rest) :
    exec .feedWindowExpiry s = .next (settle (missFeed s g e)) := by
  simp [exec, execFeedWindowExpiry, hw, hg, headOf_eq_some_iff.2 ⟨rest, he⟩]

theorem missFeed_sameBesides : s.SameBesides (missFeed s g e) := by constructor <;> simp

theorem missFeed_descs (m : Link) : (missFeed s g e).descs m = (dropHead s g.link).descs m := by
  obtain ⟨u, hmissed, hfeeds, _⟩ := missFeed_eq (s := s) (g := g) (e := e)
  rw [hmissed]
  have hclosed : (removeClosed (newHead u g.link)).feeds = (newHead u g.link).feeds := by simp
  exact (descs_congr m hclosed).trans ((newHead_descs m).trans (descs_congr m hfeeds))

end GrantEnds

/-- Settles O33: the lead edge appends the granted head to the path, and the settling that follows finds a PRE-GATE
entry, so it grants nothing. -/
theorem grantedSheetEntersThePath : Obligations.GrantedSheetEntersThePath := by
  unfold Obligations.GrantedSheetEntersThePath
  intro s l tick g e rest ha hl h4 hg hgl he hspeed
  subst hgl
  have hbounds := ceilDiv_bounds (n := 4250000) (by decide) hspeed
  have htaken := leadTaken_path (l := g.link) tick ha
  have hany : anyPreGate (leadTaken s g.link tick) = s.path.entries.any (fun x => x.state == .preGate) := by
    simp [anyPreGate, htaken]
  have hpath : (newHead (leadJoined s e g tick) g.link).path = (leadJoined s e g tick).path := by simp
  have hpre : anyPreGate (newHead (leadJoined s e g tick) g.link) = true :=
    (anyPreGate_congr hpath).trans (anyPreGate_joinPath rfl)
  have hdescs : ∀ m, (settle (newHead (leadJoined s e g tick) g.link)).descs m = (leadTaken s g.link tick).descs m :=
    fun m => (settle_descs m).trans ((newHead_descs m).trans (leadJoined_descs tick m))
  refine ⟨_, _, leadTaken s g.link tick, exec_leadCapture_granted tick ha hl h4 hg he, rfl, htaken,
    by simp [leadTaken], by simp [leadTaken], by simp [leadTaken], ?_, ?_, ?_, ?_, ?_, hbounds⟩
  · exact (settle_grant_of_preGate hpre).trans (by simp [leadJoined, leadTaken])
  · exact settle_feedWindow.trans (by simp [leadJoined, leadTaken])
  · exact (hdescs g.link).trans (leadTaken_descs tick he)
  · exact (hdescs (otherLink g.link)).trans (leadTaken_descs_other tick)
  · have hjoined := joinPath_path (s := leadTaken s g.link tick)
      (leadEntry e g tick (compareTicks s.tables.transport.active.speed))
    rw [hany, htaken] at hjoined
    exact settle_path.trans (hpath.trans hjoined)

/-- Settles O42: the hand-over of R55 is judged on the set without the missed sheet, before the new head is checked. -/
theorem missedFeedEndsTheGrant : Obligations.MissedFeedEndsTheGrant := by
  unfold Obligations.MissedFeedEndsTheGrant
  intro s g e rest n hw hg he
  have hmissed (w : State) (hj : w.jobs = s.jobs) : feedMissed w g e =
      match findJob s e.desc.job with
      | some j => notify w j.replyTag e.desc.job (.feedMissed g.link e.desc)
      | none => notify w 0 0 (.feedMissed g.link e.desc) := by
    simp only [feedMissed, notifyJob, findJob, hj] <;> rfl
  have hdescs (m : Link) : (settle (missFeed s g e)).descs m = (dropHead s g.link).descs m :=
    (settle_descs m).trans (missFeed_descs m)
  refine ⟨_, exec_feedWindowExpiry hw hg he, sameBesides_trans missFeed_sameBesides sameBesides_settle,
    (hdescs g.link).trans (dropHead_descs he), (hdescs (otherLink g.link)).trans dropHead_descs_other, ?_, ?_, ?_⟩
  · intro hp
    exact congrArg settle ((missFeed_purge he hp).trans
      (congrArg (fun w => removeClosed (newHead w g.link)) (hmissed (feedEnded s g rest) rfl)))
  · intro hp hnot
    exact congrArg settle ((missFeed_tray he hp).trans (congrArg (fun w => removeClosed (newHead w g.link))
      ((handOver_missed_of_not hnot).trans (hmissed (feedShort s g e rest) rfl))))
  · intro r hp hover
    exact congrArg settle ((missFeed_tray he hp).trans (congrArg (fun w => removeClosed (newHead w g.link))
      ((handOver_missed hover).trans (congrArg (fun w => closeFinal w (withoutSheet r e.desc.part))
        (hmissed (feedShort s g e rest) rfl)))))

end Sys2Proof.Machine.FeedQueues
end

section
/-!
PROOFS. Sheets arrive at ST and at SP (R83 to R85, R88, R92, R94).
-/
namespace Sys2Proof.Machine.SheetPath

open SetAssembly

section Arrivals
variable {s t : State} {e : PathEntry} {before after : List PathEntry}

/-! ## At ST (R83, R92, R94) -/

/-- R92: the record with the arrived sheet `e` on it. -/
def withSheet (s : State) (e : PathEntry) (r : SetRec) : SetRec := { r with
  traySheets := r.traySheets + 1
  totalSheets := r.totalSheets + 1
  trayHeight := min 1200 (r.trayHeight + (match e.desc with | some d => thickness s d.grade | none => 0)) }

theorem withSheet_eq {d : Desc} (h : e.desc = some d) (r : SetRec) : withSheet s e r = { r with
    traySheets := r.traySheets + 1
    totalSheets := r.totalSheets + 1
    trayHeight := min 1200 (r.trayHeight + thickness s d.grade) } := by
  simp [withSheet, h]

/-- R83, R92: the sheet `e` has left the path, and the tray's record has it. -/
def onTray (s : State) (e : PathEntry) (rest : List PathEntry) : State := { s with
  pins := { s.pins with stCovered := true }
  path := { s.path with entries := rest }
  tray := { s.tray with held := s.tray.held.map (withSheet s e) } }

/-- R83: `onTray`, and a split that waited for the sheet has gone on. -/
def arrived (s : State) (e : PathEntry) (rest : List PathEntry) : State :=
  handToTray { atSt s with path := { s.path with entries := rest } } e

/-- R94: a split waits for the last of the tray-bound sheets, and none of `rest` is one. -/
def SplitWaited (s : State) (rest : List PathEntry) : Prop :=
  s.tray.phase = .stapling ∧ (∃ c, s.tray.close = some c ∧ c.kind = .split) ∧
    ∀ x ∈ rest, x.purpose = .tray → x.state = .toPurge

theorem splitWaitOver_of_bound (h : (trayBound s).isEmpty = true) : splitWaitOver s = stapleDecision s := if_pos h

theorem splitWaitOver_of_not (h : ¬(trayBound s).isEmpty = true) : splitWaitOver s = s := if_neg h

theorem arrived_eq (rest : List PathEntry) :
    arrived s e rest =
      (match s.tray.phase, s.tray.close with
      | .stapling, some c => if c.kind = .split then splitWaitOver (onTray s e rest) else onTray s e rest
      | _, _ => onTray s e rest) := rfl

theorem trayBound_onTray {rest : List PathEntry} :
    (trayBound (onTray s e rest)).isEmpty = true ↔ ∀ x ∈ rest, x.purpose = .tray → x.state = .toPurge :=
  trayBound_isEmpty_iff

/-- R94: the split's wait is over, and the staple decision is made. -/
theorem arrived_of_waited {rest : List PathEntry} (h : SplitWaited s rest) :
    arrived s e rest = stapleDecision (onTray s e rest) := by
  obtain ⟨hphase, ⟨c, hc, hsplit⟩, hbound⟩ := h
  rw [arrived_eq]
  simp [hphase, hc, hsplit, splitWaitOver_of_bound (trayBound_onTray.2 hbound)]

theorem arrived_of_not_waited {rest : List PathEntry} (h : ¬SplitWaited s rest) :
    arrived s e rest = onTray s e rest := by
  rw [arrived_eq]
  split
  next c hphase hc =>
    split
    next hsplit =>
      exact splitWaitOver_of_not fun hbound => h ⟨hphase, ⟨c, hc, hsplit⟩, trayBound_onTray.1 hbound⟩
    next => rfl
  next => rfl

theorem exec_stLeadEdge_matched (h : exitTaken s = true) (hp : s.path.entries = before ++ e :: after)
    (he : e.state = .toTray) (hb : ∀ x ∈ before, x.state ≠ .toTray) :
    exec .stLeadEdge s = .next (settle (removeClosed
      (arrived s e (before ++ after)))) := by
  have harm : exec .stLeadEdge s = execStLeadEdge s := rfl
  have htaken : exitTaken { s with pins := { s.pins with stCovered := true } } = true := (exitTaken_congr rfl).trans h
  have hfirst : takeFirst (fun x => x.state == .toTray) s.path.entries = some (e, before ++ after) := by
    rw [hp]
    exact takeFirst_append _ e after (by simpa using he) before (by simpa using hb)
  simp [harm, execStLeadEdge, htaken, hfirst, arrived, atSt]

/-! ## At SP (R84, R85, R88) -/

/-- R84, R88: the sheet has left the path for the purge bin, and the bin's count is one higher. -/
def inPurgeBin (s : State) (rest : List PathEntry) : State := { s with
  pins := { s.pins with spCovered := true }
  path := { s.path with entries := rest, purgeCount := min 65535 (s.path.purgeCount + 1) } }

/-- R88: PURGE-FULL is sent when the count comes to 250. -/
def purgeCounted (s : State) (rest : List PathEntry) : State :=
  if s.path.purgeCount = 249 then notifyPlain (inPurgeBin s rest) (.purgeFull 250) else inPurgeBin s rest

/-- R85: the orphan's seat is on the reprint list of its job. -/
def orphanListed (s u : State) (d : Desc) : State := { u with jobs := s.jobs.map (fun j =>
  if j.number = d.job ∧ d.seat ∉ j.reprint ∧ 1 ≤ d.seat ∧ d.seat ≤ j.seats.length
  then { j with reprint := j.reprint ++ [d.seat] } else j) }

theorem raisePurgeCount_eq (rest : List PathEntry) :
    raisePurgeCount { atSp s with path := { s.path with entries := rest } } = purgeCounted s rest := by
  have hraise : raisePurgeCount { atSp s with path := { s.path with entries := rest } } =
      if s.path.purgeCount + 1 = 250 then
        notifyPlain (inPurgeBin s rest) (.purgeFull (min 65535 (s.path.purgeCount + 1))) else inPurgeBin s rest := rfl
  rw [hraise, purgeCounted]
  by_cases h : s.path.purgeCount = 249 <;> simp [h]

theorem purgeCounted_jobs (rest : List PathEntry) : (purgeCounted s rest).jobs = s.jobs := by
  unfold purgeCounted
  split <;> simp [inPurgeBin]

theorem purgeCounted_path (rest : List PathEntry) : (purgeCounted s rest).path =
    { s.path with entries := rest, purgeCount := min 65535 (s.path.purgeCount + 1) } := by
  unfold purgeCounted
  split <;> simp [inPurgeBin]

/-- R18: a seat of the job joins the reprint list once. -/
theorem addReprint_job_eq (j : Job) (seat : Nat) : j.addReprint seat =
    if seat ∉ j.reprint ∧ 1 ≤ seat ∧ seat ≤ j.seats.length then { j with reprint := j.reprint ++ [seat] } else j := by
  have hcond : (j.reprint.contains seat || seat == 0 || decide (j.seats.length < seat)) = true ↔
      ¬(seat ∉ j.reprint ∧ 1 ≤ seat ∧ seat ≤ j.seats.length) := by
    simp only [Bool.or_eq_true, List.contains_iff_mem, beq_iff_eq, decide_eq_true_eq]
    by_cases hr : seat ∈ j.reprint
    · simp [hr]
    · simp only [hr, false_or, not_false_eq_true, true_and]
      omega
  simp only [Job.addReprint, hcond, ite_not]

theorem addReprint_eq_listed {u : State} (h : u.jobs = s.jobs) (d : Desc) :
    addReprint u d.job d.seat = orphanListed s u d := by
  have hjob (j : Job) : (if j.number == d.job then j.addReprint d.seat else j) =
      if j.number = d.job ∧ d.seat ∉ j.reprint ∧ 1 ≤ d.seat ∧ d.seat ≤ j.seats.length
      then { j with reprint := j.reprint ++ [d.seat] } else j := by
    by_cases hn : j.number = d.job
    · simp [hn, addReprint_job_eq]
    · simp [hn]
  simp only [addReprint, changeJob, orphanListed, h, hjob]

theorem exec_spLeadEdge_matched (h : exitTaken s = true) (hp : s.path.entries = before ++ e :: after)
    (he : e.state = .toPurge) (hb : ∀ x ∈ before, x.state ≠ .toPurge) :
    exec .spLeadEdge s = .next (settle (removeClosed (accountPurged (purgeCounted s (before ++ after)) e))) := by
  have harm : exec .spLeadEdge s = execSpLeadEdge s := rfl
  have htaken : exitTaken { s with pins := { s.pins with spCovered := true } } = true := (exitTaken_congr rfl).trans h
  have hfirst : takeFirst (fun x => x.state == .toPurge) s.path.entries = some (e, before ++ after) := by
    rw [hp]
    exact takeFirst_append _ e after (by simpa using he) before (by simpa using hb)
  rw [← raisePurgeCount_eq]
  simp [harm, execSpLeadEdge, htaken, hfirst, atSp]

theorem accountPurged_of_orphan {u : State} {d : Desc} (h : u.jobs = s.jobs) (hp : e.purpose = .purgeOrphan)
    (hd : e.desc = some d) :
    accountPurged u e = notifyJob (orphanListed s u d) d.job (.sheetPurged e.link d) := by
  simp [accountPurged, hp, hd, addReprint_eq_listed h]

theorem accountPurged_of_other (h : e.purpose ≠ .purgeOrphan ∨ e.desc = none) : accountPurged s e = s := by
  unfold accountPurged
  split
  next hp hd => simp [hp, hd] at h
  next => rfl

/-- R92: what the tray holds once the part has looked on: the numbers of the record with the sheet on it. -/
theorem held_after_arrival {r : SetRec} (hphase : s.tray.phase ≠ .empty) (hheld : s.tray.held = some r)
    (rest : List PathEntry) :
    ∃ r', (settle (removeClosed (arrived s e rest))).tray.held =
      some r' ∧ r'.numbers = (withSheet s e r).numbers := by
  have hsheets : 0 < (withSheet s e r).traySheets := Nat.succ_pos _
  have hon : Onward (onTray s e rest) (arrived s e rest) := by
    by_cases hw : SplitWaited s rest
    · exact arrived_of_waited hw ▸ stapleDecision_onward _ hphase
    · exact arrived_of_not_waited hw ▸ .refl _
  obtain ⟨hphase', r', hr', hnumbers⟩ := hon.held _ (by simp [onTray, hheld]) hsheets hphase
  have htray : r'.traySheets = (withSheet s e r).traySheets := by
    simp only [SetRec.numbers, Prod.mk.injEq] at hnumbers
    obtain ⟨-, -, -, htraySheets, -⟩ := hnumbers
    exact htraySheets
  have hrest : (sessionTakesTower (removeClosed (arrived s e rest))).tray = (arrived s e rest).tray := by simp
  obtain ⟨_, r'', hr'', hnumbers'⟩ := (settle_onward (removeClosed (arrived s e rest))).held r' (by rw [hrest, hr'])
    (htray ▸ hsheets) (by rwa [hrest])
  exact ⟨r'', hr'', hnumbers'.trans hnumbers⟩

end Arrivals

/-- Settles O38: each edge takes the first entry of its state; what the part looks at afterwards keeps the path, and the
numbers of a set with a sheet. -/
theorem sheetsArrive : Obligations.SheetsArrive := by
  unfold Obligations.SheetsArrive
  intro s before after e hactive hpath
  have htaken : exitTaken s = true := exitTaken_eq_true_iff.2 (.inl hactive)
  refine ⟨fun hstate hfirst => ?_, fun hstate hfirst => ?_⟩
  · have hexec := exec_stLeadEdge_matched htaken hpath hstate hfirst
    refine ⟨fun hw => hexec.trans ?_, fun hw => hexec.trans ?_, fun hphase => ⟨_, hexec, ?_, fun r d hheld hdesc => ?_⟩⟩
    · exact congrArg (fun u => Host.Outcome.next (settle (removeClosed u))) (arrived_of_waited hw)
    · exact congrArg (fun u => Host.Outcome.next (settle (removeClosed u))) (arrived_of_not_waited hw)
    · exact settle_path.trans (by simp [arrived])
    · obtain ⟨r', hr', hnumbers⟩ := held_after_arrival hphase hheld (before ++ after)
      rw [withSheet_eq hdesc] at hnumbers
      simp only [SetRec.numbers, Prod.mk.injEq] at hnumbers
      obtain ⟨hjob, hseat, hsegment, htray, hheight, htotal, _⟩ := hnumbers
      exact ⟨r', hr', hjob, hseat, hsegment, htray, htotal, hheight⟩
  · have hexec := exec_spLeadEdge_matched htaken hpath hstate hfirst
    refine ⟨fun d hp hd => hexec.trans ?_, fun hother => hexec.trans ?_, _, hexec, ?_⟩
    · exact congrArg (fun u => Host.Outcome.next (settle (removeClosed u)))
        (accountPurged_of_orphan (purgeCounted_jobs _) hp hd)
    · exact congrArg (fun u => Host.Outcome.next (settle (removeClosed u))) (accountPurged_of_other hother)
    · have haccounted : (removeClosed (accountPurged (purgeCounted s (before ++ after)) e)).path =
          (purgeCounted s (before ++ after)).path := by simp
      exact settle_path.trans (haccounted.trans (purgeCounted_path _))

end Sys2Proof.Machine.SheetPath
end

section
/-!
PROOFS. What a frame put in a grant lane comes to (R153, R154), and the entry into FAULTED (R165, R166).
-/
namespace Sys2Proof.Machine.FeedQueues

open SetAssembly

section Lanes
variable {s t : State} {l : Link} {e : QueueEntry} {rest : List QueueEntry} {g : Grant} {d : FaultDetail}

theorem linkPresent_congr (h : t.straps = s.straps) (l : Link) : linkPresent t l = linkPresent s l := by
  cases l <;> simp [linkPresent, h]

/-- R153: the port of link `l` once `o` is put in its lane. -/
def lanePort (s : State) (l : Link) (o : Outbound) : LinkPort :=
  if linkPresent s l = true then LinkPort.startNext s.straps.address { s.links.get l with lane := some o }
  else { s.links.get l with lane := some o }

theorem placeInLane_eq (o : Outbound) : placeInLane s l o = { s with links := s.links.set l (lanePort s l o) } := by
  unfold placeInLane pump
  rw [linkPresent_congr (t := changePort s l _) (s := s) rfl]
  split <;> simp [changePort, lanePort, *]

/-- R153: behind a frame that is being sent, or on an absent link, the frame waits in the lane. -/
theorem placeInLane_of_busy (h : (s.links.get l).sending ≠ none ∨ linkPresent s l = false) (o : Outbound) :
    placeInLane s l o = { s with links := s.links.set l { s.links.get l with lane := some o } } := by
  rw [placeInLane_eq]
  rcases h with hsending | hl
  · obtain ⟨x, hx⟩ := Option.ne_none_iff_exists'.1 hsending
    simp [lanePort, LinkPort.startNext, hx]
  · simp [lanePort, hl]

/-- R153: an idle transmitter sends the frame at once. -/
theorem placeInLane_of_idle (hs : (s.links.get l).sending = none) (hl : linkPresent s l = true) (o : Outbound) :
    placeInLane s l o = { s with links := s.links.set l { s.links.get l with
      lane := none, sending := some o, line := frameChars s.straps.address o } } := by
  rw [placeInLane_eq]
  simp [lanePort, hl, LinkPort.startNext, LinkPort.begin, hs]

/-! ## The withdrawal (R29, R57, R154) -/

/-- R154: the port of the withdrawn grant's link. -/
def withdrawnPort (s : State) (g : Grant) : LinkPort :=
  let k := s.links.get g.link
  if g.stage = .inLane then { k with lane := none }
  else if k.sending.isSome = true ∨ linkPresent s g.link = false then { k with lane := some (.withdraw g.tag) }
  else { k with
    lane := none, sending := some (.withdraw g.tag), line := frameChars s.straps.address (.withdraw g.tag) }

theorem placeInLane_withdraw (h : g.stage ≠ .inLane) :
    placeInLane s g.link (.withdraw g.tag) = { s with links := s.links.set g.link (withdrawnPort s g) } := by
  unfold withdrawnPort
  dsimp only
  rw [if_neg h]
  split
  next hbusy => exact placeInLane_of_busy (hbusy.imp_left Option.isSome_iff_ne_none.1) _
  next hidle =>
    obtain ⟨hsending, hpresent⟩ := not_or.1 hidle
    exact placeInLane_of_idle (by simpa using hsending) (by simpa using hpresent) _

theorem withdrawFrame_eq : withdrawFrame s g = { s with links := s.links.set g.link (withdrawnPort s g) } := by
  unfold withdrawFrame
  split
  next h => simp [withdrawnPort, h, changePort]
  next h => exact placeInLane_withdraw (by simp [h])
  next h => exact placeInLane_withdraw (by simp [h])

theorem takeBackGrant_eq : takeBackGrant s g = { s with tray := (takeBackGrant s g).tray } := by
  unfold takeBackGrant
  split <;> rfl

/-- R57: the sheet of a TRAY grant leaves the taken count of its part. -/
theorem takeBackGrant_tray (he : (s.feeds.get g.link).entries = e :: rest) (hp : g.purpose = .tray) :
    (takeBackGrant s g).tray = { s.tray with held := s.tray.held.map (fun r => { r with
      parts := r.parts.modify (e.desc.part - 1) (fun c => { c with taken := c.taken - 1 }) }) } := by
  simp only [takeBackGrant, hp, headOf_eq_some_iff.2 ⟨rest, he⟩, changeHeld, SetRec.giveBack, changeAt_eq_modify]

theorem takeBackGrant_other (hp : g.purpose ≠ .tray) : takeBackGrant s g = s := by
  unfold takeBackGrant
  split
  next h _ => exact absurd h hp
  next => rfl

theorem withdrawGrant_of_none (h : s.grant = none) : withdrawGrant s = s := by simp [withdrawGrant, h]

theorem withdrawGrant_eq (h : s.grant = some g) : withdrawGrant s = { s with
    links := s.links.set g.link (withdrawnPort s g)
    grant := none
    feeds := (changeHead s g.link (fun x => { x with standing := .waiting })).feeds
    tray := (takeBackGrant s g).tray
    timers := { s.timers with feedWindow := none } } := by
  simp only [withdrawGrant, h]
  rw [withdrawFrame_eq, takeBackGrant_eq]
  rfl

end Lanes

end Sys2Proof.Machine.FeedQueues
end

section
namespace Sys2Proof.Machine.FaultEntry

open SetAssembly FeedQueues InsertSession RunStates

section Entry
variable {s t : State} {d : FaultDetail} {g : Grant} {e : QueueEntry} {rest : List QueueEntry} {z : Session}

/-- R165: the part at its entry into FAULTED, with FAULT not yet sent. -/
def frozen (s : State) (d : FaultDetail) : State :=
  freeze { withdrawGrant s with run := .faulted, fault := { s.fault with first := some d } }

/-- R165: FAULT is sent, and then the session ends. -/
def faultTold (s : State) (d : FaultDetail) : State := faultSession (notifyPlain (frozen s d) (.fault d))

theorem raiseFault_eq (h : s.run ≠ .faulted) (d : FaultDetail) : raiseFault s d = freeHeldTower (faultTold s d) := by
  simp [raiseFault, h, enterFaulted, faultTold, frozen]

theorem freeHeldTower_eq : freeHeldTower s = { s with tower := (freeHeldTower s).tower } := by
  unfold freeHeldTower
  split <;> rfl

theorem freeHeldTower_tower : (freeHeldTower s).tower =
    if s.tower.phase = .held then { s.tower with phase := .idle } else s.tower := by
  unfold freeHeldTower
  split
  next h => simp [h]
  all_goals next h => simp [h]

theorem faultSession_of_some (h : s.session = some z) : faultSession s = endSession s z .fault := by
  simp [faultSession, h]

theorem faultSession_of_none (h : s.session = none) : faultSession s = s := by simp [faultSession, h]

/-- R133: the tower that the ended session held is IDLE. -/
theorem faultSession_tower : (faultSession s).tower = s.tower ∨
    ((∃ z, s.session = some z ∧ z.towerTaken = true) ∧ (faultSession s).tower = { s.tower with phase := .idle }) := by
  cases hz : s.session with
  | none => exact .inl (congrArg State.tower (faultSession_of_none hz))
  | some z =>
    rw [faultSession_of_some hz]
    cases ht : z.towerTaken with
    | false => exact .inl (endSession_untaken_tower ht _)
    | true => exact .inr ⟨⟨z, rfl, ht⟩, by simp [endSession_eq, sessionGone, ht]⟩

theorem frozen_frame : frozen s d = { s with
    links := (withdrawGrant s).links
    run := .faulted
    fault := { s.fault with first := some d }
    grant := none
    feeds := (withdrawGrant s).feeds
    tray := (withdrawGrant s).tray
    shelf := { s.shelf with motion := .idle }
    stapler := { s.stapler with requestWaiting := false }
    timers := { Timers.stopped with completion := s.timers.completion, recovery := s.timers.recovery } } := by
  cases hg : s.grant with
  | none => simp [frozen, freeze, withdrawGrant_of_none hg, Timers.stopped, hg]
  | some g => simp [frozen, freeze, withdrawGrant_eq hg, Timers.stopped]

/-- R124, R133: a HELD tower is IDLE after the entry, and one that no session has taken is as it was. -/
theorem raiseFault_tower (h : s.run ≠ .faulted) :
    (s.tower.phase = .held → (raiseFault s d).tower = { s.tower with phase := .idle }) ∧
    (s.tower.phase ≠ .held → (∀ z, s.session = some z → z.towerTaken = false) → (raiseFault s d).tower = s.tower) := by
  have htower : (notifyPlain (frozen s d) (.fault d)).tower = s.tower := by simp [frozen_frame]
  have hsession : (notifyPlain (frozen s d) (.fault d)).session = s.session := by simp [frozen_frame]
  rw [raiseFault_eq h, freeHeldTower_tower]
  rcases faultSession_tower (s := notifyPlain (frozen s d) (.fault d)) with hsame | ⟨⟨z, hz, htaken⟩, hfreed⟩
  · rw [faultTold, hsame, htower]
    exact ⟨fun hheld => if_pos hheld, fun hfree _ => if_neg hfree⟩
  · rw [faultTold, hfreed, htower]
    refine ⟨fun _ => by simp, fun _ hnot => ?_⟩
    rw [hsession] at hz
    exact absurd htaken (by simp [hnot z hz])

end Entry

/-- Settles O40: the entry is `frozen`, then the notice, the session's end and the HELD tower, and the frozen state is
given by the withdrawal of the grant. -/
theorem raisedFaultFreezesThePart : Obligations.RaisedFaultFreezesThePart := by
  unfold Obligations.RaisedFaultFreezesThePart
  intro s d
  refine ⟨fun h => by simp [raiseFault, h, satSucc, Config.smallCountTop], fun h => ?_⟩
  obtain ⟨hrun, hfault, hgrant, hsession, -⟩ := raiseFault_working d h
  obtain ⟨hheld, hfree⟩ := raiseFault_tower (d := d) h
  have hframe : (raiseFault s d).feeds = (withdrawGrant s).feeds ∧ (raiseFault s d).tray = (withdrawGrant s).tray ∧
      (raiseFault s d).shelf = { s.shelf with motion := .idle } ∧
      (raiseFault s d).stapler = { s.stapler with requestWaiting := false } := by
    rw [raiseFault_eq h, faultTold, frozen_frame]
    simp
  obtain ⟨hfeeds, htray, hshelf, hstapler⟩ := hframe
  refine ⟨hrun, hfault, hgrant, hsession, by simp, by simp, by simp, by simp, hshelf, hstapler, ?_, hheld, hfree, ?_,
    fun hg => ?_, fun g e rest hg he => ⟨fun hp => ?_, fun hp => ?_⟩, frozen s d, ?_, ?_, ?_, ?_, ?_, ?_, ?_⟩
  · rw [raiseFault_eq h, freeHeldTower_eq, faultTold]
    exact faultSession_timers.trans (by simp [frozen_frame])
  · intro g e rest hg he
    have hhead := changeHead_eq he (fun x => { x with standing := .waiting })
    rw [hfeeds, withdrawGrant_eq hg, hhead]
    simp [headed]
  · rw [hfeeds, htray, withdrawGrant_of_none hg]
    exact ⟨rfl, rfl⟩
  · rw [htray, withdrawGrant_eq hg, takeBackGrant_other hp]
  · rw [htray, withdrawGrant_eq hg, takeBackGrant_tray he hp]
  · cases hg : s.grant with
    | none => simp only [frozen_frame, withdrawGrant_of_none hg]
    | some g => simp only [frozen_frame, withdrawGrant_eq hg] <;> rfl
  · simp [frozen_frame]
  · simp [frozen_frame]
  · rw [htray, frozen_frame]
  · rw [hfeeds, frozen_frame]
  · intro hnone
    rw [raiseFault_eq h, freeHeldTower_eq, faultTold, faultSession_of_none (by simp [frozen_frame, hnone])]
  · intro z hz
    rw [raiseFault_eq h, freeHeldTower_eq, faultTold, faultSession_of_some (z := z) (by simp [frozen_frame, hz])]

end Sys2Proof.Machine.FaultEntry
end

section
/-!
PROOFS. What a start's reading of the tray and shelf sensors comes to, and a power-on with the retention-valid flag clear
(R123, R146, R165, R166, R169).
-/
namespace Sys2Proof.Machine.Starts

open SetAssembly PocketTower FeedQueues FaultEntry

section Reads
variable {s t : State}

/-- R169: the part is as a start leaves it, before the sensors are read: nothing is granted, no timer or session runs, the
shelf and the tower are IDLE, and no fault is recorded. -/
structure JustStarted (s : State) : Prop where
  run : s.run = .standby
  fault : s.fault = { first := none, further := 0 }
  grant : s.grant = none
  session : s.session = none
  motion : s.shelf.motion = .idle
  request : s.stapler.requestWaiting = false
  tower : s.tower.phase = .idle
  timers : s.timers = Timers.stopped

/-- R165: the part with the fault `d` recorded, and `n` faults more. -/
def faultRecorded (s : State) (d : FaultDetail) (n : Nat) : State :=
  { s with run := .faulted, fault := { first := some d, further := n } }

/-- R169: the fault of the first sensor that reads occupied. -/
def startDetail (pins : Pins) : FaultDetail :=
  { cause := if pins.trayOccupied = true then .trayOccupied else .shelfOccupied
    sensor := none, link := none, tag := none }

theorem frozen_justStarted (h : JustStarted s) (d : FaultDetail) : frozen s d = faultRecorded s d 0 := by
  obtain ⟨hrun, hfault, hgrant, hsession, hmotion, hrequest, htower, htimers⟩ := h
  obtain ⟨run, fault, retentionValid, straps, pins, links, feeds, grant, tray, shelf, stapler, tower, stacker, pockets,
    session, jobs, tables, path, timers, races, pending⟩ := s
  simp only at hfault hgrant hmotion hrequest htimers
  subst hfault hgrant htimers
  simp [frozen, withdrawGrant, freeze, faultRecorded, ← hmotion, ← hrequest, Timers.stopped]

/-- R165: in a part that has just started a fault is recorded and told, and nothing else happens. -/
theorem raiseFault_justStarted (h : JustStarted s) (d : FaultDetail) :
    raiseFault s d = notifyPlain (faultRecorded s d 0) (.fault d) := by
  have htold : faultTold s d = notifyPlain (faultRecorded s d 0) (.fault d) := by
    rw [faultTold, frozen_justStarted h]
    exact faultSession_of_none (by simp [faultRecorded, h.session])
  have htower : (faultTold s d).tower.phase = .idle := by
    rw [htold]
    simp [faultRecorded, h.tower]
  rw [raiseFault_eq (by simp [h.run])]
  rw [freeHeldTower_eq, freeHeldTower_tower]
  rw [if_neg (by simp [htower]), htold]

/-- R166: a fault raised after the first is counted. -/
theorem raiseFault_recorded (d d' : FaultDetail) :
    raiseFault (notifyPlain (faultRecorded s d 0) (.fault d)) d' = notifyPlain (faultRecorded s d 1) (.fault d) := by
  simp [raiseFault, notifyPlain, notify_eq, noticeLink, faultRecorded, satSucc, Config.smallCountTop]

/-- R169: the two sensors are read, the tray's first. -/
theorem startUpReads_eq (h : JustStarted s) : startUpReads s =
    if s.pins.trayOccupied = true ∨ s.pins.shelfOccupied = true then
      notifyPlain { s with
        run := .faulted
        fault := { first := some (startDetail s.pins)
                   further := if s.pins.trayOccupied = true ∧ s.pins.shelfOccupied = true then 1 else 0 } }
        (.fault (startDetail s.pins))
    else s := by
  have hread := raiseFault_justStarted h
  unfold startUpReads
  cases htray : s.pins.trayOccupied <;> cases hshelf : s.pins.shelfOccupied
  · simp
  · simp [hread, startDetail, htray, FaultCause.plain, faultRecorded]
  · simp [hread, startDetail, htray, FaultCause.plain, faultRecorded]
  · simpa [hread, startDetail, htray, hshelf, FaultCause.plain, faultRecorded] using
      raiseFault_recorded (s := s) FaultCause.trayOccupied.plain FaultCause.shelfOccupied.plain

end Reads

section Cleared
variable {s : State}

theorem startCleared_justStarted (pins : Pins) : JustStarted (startCleared pins s) :=
  ⟨rfl, rfl, rfl, rfl, rfl, rfl, rfl, rfl⟩

theorem exec_powerOn_invalid (h : s.retentionValid = false) (pins : Pins) :
    exec (.powerOn pins) s = .next (startUpReads (startCleared pins s)) := by
  simp [exec, execPowerOn, h]

/-- R123: the pocket records of a start at the defaults, each by its own drawer and floor. -/
theorem startCleared_pocket {p : Nat} {k : Pocket} {pins : Pins}
    (h : (startCleared pins s).pockets[p]? = some k) :
    k = freshPocket (if pins.tower40 then 40 else 24) p pins.pockets := by
  have hat : (startCleared pins s).pockets =
      (List.range 40).map (fun q => freshPocket (if pins.tower40 then 40 else 24) q pins.pockets) := rfl
  rw [hat, List.getElem?_map, Option.map_eq_some_iff] at h
  obtain ⟨q, hq, rfl⟩ := h
  obtain ⟨_, rfl⟩ := List.getElem?_eq_some_iff.1 hq
  simp

/-- R123: a pocket out of the tower. -/
theorem freshPocket_outside {size p : Nat} (h : size ≤ p) (pins : PocketPins) : freshPocket size p pins = Pocket.fresh :=
  if_pos h

/-- R123: a pocket of the tower with its drawer in. -/
theorem freshPocket_drawerIn {size p : Nat} {pins : PocketPins} (h : p < size) (hd : pins.drawersIn.getLsbD p = true) :
    freshPocket size p pins = { Pocket.fresh with
      state := if pins.floorsEmpty.getLsbD p then .available else .unverified
      floorEmpty := pins.floorsEmpty.getLsbD p } := by
  simp [freshPocket, Nat.not_le.2 h, hd]

/-- R123: a pocket of the tower with its drawer out. -/
theorem freshPocket_drawerOut {size p : Nat} {pins : PocketPins} (h : p < size) (hd : pins.drawersIn.getLsbD p = false) :
    freshPocket size p pins = { Pocket.fresh with
      state := .withdrawn
      remembered := some (if pins.floorsEmpty.getLsbD p then .available else .unverified)
      floorEmpty := pins.floorsEmpty.getLsbD p } := by
  simp [freshPocket, Nat.not_le.2 h, hd]

end Cleared

/-- Settles O59: the cleared part is `State.reset` but for its pockets, straps and lines, which the start reads. -/
theorem powerOnWithoutRetention : Obligations.PowerOnWithoutRetention := by
  unfold Obligations.PowerOnWithoutRetention
  intro s pins hinvalid
  refine ⟨startCleared pins s, (exec_powerOn_invalid hinvalid pins).trans
    (congrArg Host.Outcome.next (startUpReads_eq (startCleared_justStarted pins))), rfl, rfl, rfl, rfl, rfl, rfl, rfl, rfl,
    rfl, rfl, rfl, rfl, rfl, rfl, fun l => ?_, rfl, by simp [startCleared, Config.pocketCount], fun p k hk => ?_⟩
  · cases l <;> exact ⟨rfl, rfl⟩
  · rw [startCleared_pocket hk]
    generalize (if pins.tower40 = true then 40 else 24) = size
    rcases Nat.lt_or_ge p size with hin | hout
    · cases hd : pins.pockets.drawersIn.getLsbD p with
      | true => simp [freshPocket_drawerIn hin hd, Pocket.fresh, hin]
      | false => simp [freshPocket_drawerOut hin hd, Pocket.fresh, hin]
    · simp [freshPocket_outside hout, Pocket.fresh, Nat.not_lt.2 hout]

end Sys2Proof.Machine.Starts
end

section
/-!
PROOFS. The LOST accounting of a start that keeps the retained region (R16), and such starts: a power-on with the
retention-valid flag set and a reset by the reset line (R20, R123, R136, R146, R169).
-/
namespace Sys2Proof.Machine.Starts

open SetAssembly PocketTower JobAccounts PocketRecords

/-! ## The LOST accounting (R16) -/

/-- R16: the seats of a job that are IN-PROGRESS. -/
def foundSeats (j : Job) : List Nat :=
  ((List.range j.seats.length).filter (fun i => j.seats[i]? == some .inProgress)).map (· + 1)

/-- R16: the record with its IN-PROGRESS seats lost. -/
def lostAtReset (j : Job) : Job := { j with
  lost := min 65535 (j.lost + (foundSeats j).length)
  seats := j.seats.map (fun st => if st = .inProgress then .lost else st)
  reprint := j.reprint ++ (foundSeats j).filter (fun n => !j.reprint.contains n) }

section LostAccounting
variable {s : State} {j : Job} {seats : List SeatStatus} {n : Nat}

theorem inProgressFrom_eq (seats : List SeatStatus) : ∀ n : Nat, inProgressFrom n seats =
    ((List.range seats.length).filter (fun i => seats[i]? == some .inProgress)).map (· + n) := by
  induction seats with
  | nil => intro n; rfl
  | cons st seats ih =>
    intro n
    rw [inProgressFrom, ih (n + 1), List.length_cons, List.range_succ_eq_map, List.filter_cons, List.filter_map]
    have hshift : (fun i => i + (n + 1)) = (fun i => i + n) ∘ Nat.succ := funext fun i => by simp; omega
    cases hst : st == SeatStatus.inProgress <;> simp [hst, hshift, Function.comp_def]

theorem le_of_mem_inProgressFrom {m : Nat} (h : m ∈ inProgressFrom n seats) : n ≤ m := by
  rw [inProgressFrom_eq] at h
  obtain ⟨i, -, rfl⟩ := List.mem_map.1 h
  exact Nat.le_add_left n i

theorem inProgressFrom_cons_found : inProgressFrom n (.inProgress :: seats) = n :: inProgressFrom (n + 1) seats := rfl

theorem inProgressFrom_cons_other {st : SeatStatus} (h : st ≠ .inProgress) :
    inProgressFrom n (st :: seats) = inProgressFrom (n + 1) seats := by
  simp [inProgressFrom, h]

/-- R18: the reprint list with seat `n` on it once. -/
def lostReprint (j : Job) (n : Nat) : List Nat := if n ∈ j.reprint then j.reprint else j.reprint ++ [n]

theorem mem_lostReprint {m : Nat} : m ∈ lostReprint j n ↔ m ∈ j.reprint ∨ m = n := by
  unfold lostReprint
  split
  next h => exact ⟨.inl, fun hm => hm.elim id fun heq => heq ▸ h⟩
  next => simp

/-- R16: one IN-PROGRESS seat is LOST, counted, and on the reprint list once. -/
theorem loseSeat_eq (h1 : 1 ≤ n) (hn : n ≤ j.seats.length) : j.loseSeat n = { j with
    lost := min 65535 (j.lost + 1)
    seats := j.seats.set (n - 1) .lost
    reprint := lostReprint j n } := by
  have hlost : (j.raise .lost).withSeat n .lost =
      { j with lost := min 65535 (j.lost + 1), seats := j.seats.set (n - 1) .lost } := Job_withSeat_eq _ _ h1
  rw [Job.loseSeat, hlost, Job_addReprint_eq _ h1 (by simpa using hn)]
  rfl

/-- R16: the seats behind `pre` are judged in ascending order. -/
theorem foldl_loseSeat (seats : List SeatStatus) : ∀ (pre : List SeatStatus) (j : Job), j.seats = pre ++ seats →
    j.lost ≤ 65535 → (inProgressFrom (pre.length + 1) seats).foldl Job.loseSeat j = { j with
      lost := min 65535 (j.lost + (inProgressFrom (pre.length + 1) seats).length)
      seats := pre ++ seats.map (fun st => if st = .inProgress then .lost else st)
      reprint := j.reprint ++
        (inProgressFrom (pre.length + 1) seats).filter (fun n => !j.reprint.contains n) } := by
  induction seats with
  | nil =>
    intro pre j hj hlost
    simp [inProgressFrom, ← hj, hlost]
  | cons st seats ih =>
    intro pre j hj hlost
    have hpre : (pre ++ [SeatStatus.lost]).length + 1 = pre.length + 1 + 1 := by simp
    by_cases hst : st = .inProgress
    · subst hst
      have hmid : j.seats.set (pre.length + 1 - 1) .lost = (pre ++ [.lost]) ++ seats := by simp [hj]
      have hstep := loseSeat_eq (j := j) (n := pre.length + 1) (Nat.succ_pos _) (by simp [hj])
      have hrest := ih (pre ++ [.lost]) (j.loseSeat (pre.length + 1)) (by rw [hstep]; exact hmid)
        (by rw [hstep]; exact Nat.min_le_left _ _)
      rw [hpre, hstep] at hrest
      rw [inProgressFrom_cons_found, List.foldl_cons, hstep, hrest]
      have hnew : (inProgressFrom (pre.length + 1 + 1) seats).filter
          (fun n => !(lostReprint j (pre.length + 1)).contains n) =
          (inProgressFrom (pre.length + 1 + 1) seats).filter (fun n => !j.reprint.contains n) :=
        List.filter_congr fun m hm => by
          have hle := le_of_mem_inProgressFrom hm
          have hne : m ≠ pre.length + 1 := by omega
          simp [mem_lostReprint, hne]
      congr 1
      · simp
      · rw [hnew]
        by_cases hold : pre.length + 1 ∈ j.reprint <;> simp [lostReprint, hold]
      · rw [List.length_cons]
        dsimp only
        omega
    · have hnext := ih (pre ++ [st]) j (by simp [hj]) hlost
      rw [List.length_append, List.length_singleton] at hnext
      rw [inProgressFrom_cons_other hst, hnext]
      simp [hst]

theorem loseAtReset_eq (h : j.lost ≤ 65535) : j.loseAtReset = lostAtReset j := by
  have hfold := foldl_loseSeat j.seats [] j rfl h
  rw [List.length_nil, inProgressFrom_eq] at hfold
  rw [Job.loseAtReset, inProgressFrom_eq]
  exact hfold

end LostAccounting

/-! ## The entries that apply (R142, R146) -/

section Applied
variable {s : State} {α : Type}

theorem committed_of_stays {e : Entry α} (h : goesAt false e = false) : e.committed false = e := by
  have hcond : ¬(e.marked && decide (e.refs = 0)) = true := by
    simpa [goesAt, beq_eq_decide] using h
  simp [Entry.committed, hcond]

theorem map_committed_of_stay {es : List (Entry α)} (h : es.countP (goesAt false) = 0) :
    es.map (Entry.committed false) = es :=
  (List.map_congr_left fun e he =>
    committed_of_stays (Bool.eq_false_iff.2 (List.countP_eq_zero.1 h e he))).trans (List.map_id _)

theorem committedTables_of_stay {t : Tables} (h : goingCount noScope t = 0) : committedTables noScope t = t := by
  simp only [goingCount, noScope, Nat.add_eq_zero_iff] at h
  obtain ⟨⟨⟨⟨hclasses, hplans⟩, hgrades⟩, hpockets⟩, htransport⟩ := h
  have hstays : goesAt false t.transport = false := by
    cases hgoes : goesAt false t.transport <;> simp_all
  simp only [committedTables, noScope, map_committed_of_stay hclasses, map_committed_of_stay hplans,
    map_committed_of_stay hgrades, map_committed_of_stay hpockets, committed_of_stays hstays]

theorem applyReleased_tables : (applyReleased s).tables = committedTables noScope s.tables := by
  rw [applyReleased_eq]
  split
  next h => exact (committedTables_of_stay h).symm
  next => simp

theorem commitDoneTest_links (n : Nat) : commitDoneTest s n = { s with links := (commitDoneTest s n).links } := by
  unfold commitDoneTest
  split
  · rfl
  · rw [notifyPlain, notify_eq]

theorem applyReleased_records : applyReleased s =
    { s with links := (applyReleased s).links, tables := (applyReleased s).tables } := by
  rw [applyReleased_eq]
  split
  · rfl
  · rw [commitDoneTest_links]

/-- R144: with nothing marked nothing applies. -/
theorem applyReleased_of_unmarked (h : s.tables.anyMarked = false) : applyReleased s = s := by
  have hnone : goingCount noScope s.tables = 0 := by
    have hunmarked {α : Type} {es : List (Entry α)} (he : es.any (·.marked) = false) : es.countP (goesAt false) = 0 :=
      List.countP_eq_zero.2 fun e hmem => by
        have hmarked := List.any_eq_false.1 he e hmem
        simp [goesAt, hmarked]
    simp only [Tables.anyMarked, Bool.or_eq_false_iff] at h
    obtain ⟨⟨⟨⟨hclasses, hplans⟩, hgrades⟩, hpockets⟩, htransport⟩ := h
    simp [goingCount, noScope, hunmarked hclasses, hunmarked hplans, hunmarked hgrades, hunmarked hpockets, goesAt,
      htransport]
  rw [applyReleased_eq, if_pos hnone]

end Applied

/-! ## The pocket drawers (R123) -/

section Drawers
variable {s : State} {k : Pocket}

theorem rescanFrom_getElem? (size : Nat) (pins : PocketPins) (ks : List Pocket) : ∀ n i : Nat,
    (rescanFrom size pins n ks)[i]? = ks[i]?.map (fun k =>
      if size ≤ n + i then k else k.rescan (pins.drawersIn.getLsbD (n + i)) (pins.floorsEmpty.getLsbD (n + i))) := by
  induction ks with
  | nil => intro n i; rfl
  | cons k ks ih =>
    intro n i
    cases i with
    | zero => rfl
    | succ i => simpa [rescanFrom, Nat.add_right_comm, Nat.add_assoc] using ih (n + 1) i

theorem rescan_of_disabled (h : k.state = .disabled) (drawerIn floorEmpty : Bool) : k.rescan drawerIn floorEmpty = k := by
  simp [Pocket.rescan, h]

theorem rescan_of_enabled (h : k.state = .available ∨ k.state = .full ∨ k.state = .unverified)
    (drawerIn floorEmpty : Bool) : k.rescan drawerIn floorEmpty =
      if drawerIn = true then k else { k with state := .withdrawn, remembered := some k.state } := by
  rcases h with h | h | h <;> simp [Pocket.rescan, h, Pocket.withdraw]

theorem rescan_of_withdrawn (h : k.state = .withdrawn) (drawerIn floorEmpty : Bool) : k.rescan drawerIn floorEmpty =
    if drawerIn = false then k
    else if floorEmpty = true then
      { state := .available, remembered := none, fill := 0, setCount := 0, side := .right, floorEmpty := true }
    else { k with state := k.remembered.getD .unverified, remembered := none, floorEmpty := false } := by
  cases drawerIn <;> simp [Pocket.rescan, h, Pocket.returned, Pocket.emptied]

end Drawers

/-! ## The start (R169) -/

section Kept
variable {s : State}

/-- R169: the sensors read as `pins` has them. -/
theorem startUpReads_of_pins {pins : Pins} (h : JustStarted s) (hp : s.pins = pins) : startUpReads s =
    if pins.trayOccupied = true ∨ pins.shelfOccupied = true then
      notifyPlain { s with
        run := .faulted
        fault := { first := some (startDetail pins)
                   further := if pins.trayOccupied = true ∧ pins.shelfOccupied = true then 1 else 0 } }
        (.fault (startDetail pins))
    else s :=
  hp ▸ startUpReads_eq h

/-- R169, R16: the part with its working state cleared and its retained region kept. -/
def keptRegion (pins : Pins) (s : State) : State := { keptPart pins s with jobs := s.jobs.map lostAtReset }

theorem keptPart_eq (h : s.Bounded) (pins : Pins) : keptPart pins s = keptRegion pins s := by
  have hjobs : s.jobs.map Job.loseAtReset = s.jobs.map lostAtReset :=
    List.map_congr_left fun j hj => loseAtReset_eq (h.jobRecords.2 j hj).lost
  simp only [keptRegion, keptPart, hjobs]

/-- R19, R169: nothing holds a job in a part that has just started. -/
theorem holdsClose_keptRegion (pins : Pins) (n : Nat) : holdsClose (keptRegion pins s) n = false := rfl

/-- R20: the CLOSING jobs go. -/
theorem goes_keptRegion (pins : Pins) (j : Job) : (!goes (keptRegion pins s) j) = (j.phase == .opened) := by
  rw [goes, holdsClose_keptRegion]
  cases j.phase <;> rfl

theorem removeClosed_keptRegion (h : s.Bounded) (pins : Pins) : (removeClosed (keptRegion pins s)).jobs =
    (s.jobs.filter (fun j => j.phase == .opened)).map lostAtReset := by
  have hnumbers : (keptRegion pins s).jobs.map (·.number) = s.jobs.map (·.number) := by
    simp [keptRegion, lostAtReset, Function.comp_def]
  have hle (j : Job) (hj : j ∈ (keptRegion pins s).jobs) : j.number ≤ 63 := by
    obtain ⟨i, hi, rfl⟩ := List.mem_map.1 hj
    exact (h.jobRecords.2 i hi).number.2
  rw [removeClosed_jobs (hnumbers ▸ h.jobRecords.1) hle, List.filter_congr fun j _ => goes_keptRegion pins j]
  exact List.filter_map

theorem removeClosed_keptRegion_of_opened (h : ∀ j ∈ s.jobs, j.phase = .opened) (pins : Pins) :
    removeClosed (keptRegion pins s) = keptRegion pins s := by
  refine removeClosed_of_stay fun j hj => ?_
  obtain ⟨i, hi, rfl⟩ := List.mem_map.1 hj
  exact Bool.eq_false_iff.2 fun hgoes => by simpa [lostAtReset, h i hi] using (goes_iff.1 hgoes).1

theorem startKept_eq (h : s.Bounded) (pins : Pins) : startKept pins s =
    { applyReleased (removeClosed (keptRegion pins s)) with pockets := (startKept pins s).pockets } := by
  simp only [startKept, keptPart_eq h]
  rfl

/-- What a start leaves to the removals, the releases and the drawers. -/
theorem startKept_frame (pins : Pins) : startKept pins s = { keptPart pins s with
    links := (startKept pins s).links
    pockets := (startKept pins s).pockets
    jobs := (startKept pins s).jobs
    tables := (startKept pins s).tables } := by
  simp only [startKept, rescanPockets]
  rw [applyReleased_records, JobAccounts.removeClosed_frame]

theorem startKept_pins (pins : Pins) : (startKept pins s).pins = pins := congrArg State.pins (startKept_frame pins)

theorem startKept_pockets (pins : Pins) : (startKept pins s).pockets =
    rescanFrom (if pins.tower40 = true then 40 else 24) pins.pockets 0 s.pockets := by
  simp [startKept, rescanPockets, towerSize, keptPart, clearedPart, latchStraps]

theorem startKept_jobs (h : s.Bounded) (pins : Pins) : (startKept pins s).jobs =
    (s.jobs.filter (fun j => j.phase == .opened)).map lostAtReset := by
  rw [startKept_eq h, ← removeClosed_keptRegion h pins]
  simp

theorem startKept_tables (pins : Pins) : (startKept pins s).tables = committedTables noScope s.tables.unreferenced := by
  have happlied : (startKept pins s).tables = (applyReleased (removeClosed (keptPart pins s))).tables := rfl
  rw [happlied, applyReleased_tables]
  simp [keptPart]

theorem startKept_justStarted (pins : Pins) : JustStarted (startKept pins s) := by
  rw [startKept_frame]
  exact ⟨rfl, rfl, rfl, rfl, rfl, rfl, rfl, rfl⟩

theorem anyMarked_unreferenced (t : Tables) : t.unreferenced.anyMarked = t.anyMarked := by
  simp [Tables.anyMarked, Tables.unreferenced, Entry.withRefs, Function.comp_def]

/-- R20, R146: with no CLOSING job and nothing marked no notice is queued. -/
theorem startKept_links_of_quiet (h : s.Bounded) (pins : Pins) (hopened : ∀ j ∈ s.jobs, j.phase = .opened)
    (hunmarked : s.tables.anyMarked = false) : (startKept pins s).links = State.reset.links := by
  have htables : (keptRegion pins s).tables.anyMarked = false := (anyMarked_unreferenced s.tables).trans hunmarked
  rw [startKept_eq h, removeClosed_keptRegion_of_opened hopened, applyReleased_of_unmarked htables]
  rfl

theorem startKept_pocket {p : Nat} {k : Pocket} (hk : s.pockets[p]? = some k) (pins : Pins) :
    (startKept pins s).pockets[p]? = some (if (if pins.tower40 = true then 40 else 24) ≤ p then k
      else k.rescan (pins.pockets.drawersIn.getLsbD p) (pins.pockets.floorsEmpty.getLsbD p)) := by
  rw [startKept_pockets, rescanFrom_getElem?, hk]
  simp

end Kept

/-- Settles O60: a start that keeps the retained region is `startKept`, whose LOST accounting is `foldl_loseSeat`, and the
sensors are read of it as of any part that has just started. -/
theorem keptStarts : Obligations.KeptStarts := by
  unfold Obligations.KeptStarts
  intro s pins h
  have hreads := startUpReads_of_pins (startKept_justStarted (s := s) pins) (startKept_pins pins)
  refine ⟨startUpReads (startKept pins s), startKept pins s, rfl, startKept_eq h pins, startKept_links_of_quiet h pins,
    fun hretained => by simp [exec, execPowerOn, hretained], hreads, startKept_frame pins,
    (startKept_tables pins).trans ?_, fun p k hk => ?_, startKept_jobs h pins⟩
  · simp [committedTables, Tables.unreferenced, noScope, Entry.withRefs, Function.comp_def]
  · have hpocket := startKept_pocket hk pins
    revert hpocket
    generalize (if pins.tower40 = true then 40 else 24) = size
    intro hpocket
    refine ⟨fun hkept => hpocket.trans ?_, fun hin henabled => hpocket.trans ?_, fun hin hwithdrawn => hpocket.trans ?_⟩
    · rcases hkept with hout | hdisabled
      · rw [if_pos hout]
      · rw [rescan_of_disabled hdisabled, ite_self]
    · rw [if_neg (Nat.not_le.2 hin), rescan_of_enabled henabled]
    · rw [if_neg (Nat.not_le.2 hin), rescan_of_withdrawn hwithdrawn]

end Sys2Proof.Machine.Starts
end

section
/-!
PROOFS. The merge arbiter: classification (R34 to R36), what a grant writes (R47, R51, R154), and the arbiter's order
(R42 to R46, R56, R93).
-/
namespace Sys2Proof.Machine.MergeArbiter

open SetAssembly ParkingShelf FeedLinks FeedQueues

/-! ## Start selection's candidates (R46) -/

section Candidates
variable {s : State} {xs ys : List (Nat × Candidate)} {c d : Nat × Candidate}

theorem best_cons_cases (h : best (c :: xs) = some d) : (d = c ∧ ∀ e, best xs = some e → e.1 ≤ c.1) ∨
    (best xs = some d ∧ c.1 < d.1) := by
  simp only [best] at h
  split at h
  next hnone => exact .inl ⟨(Option.some.inj h).symm, fun e he => by simp [hnone] at he⟩
  next e he =>
    split at h
    next hlt =>
      cases h
      exact .inr ⟨he, hlt⟩
    next hge =>
      cases h
      refine .inl ⟨rfl, fun e' he' => ?_⟩
      cases he.symm.trans he'
      exact Nat.not_lt.1 hge

theorem best_eq_none_iff : best xs = none ↔ xs = [] := by
  cases xs with
  | nil => simp [best]
  | cons c xs =>
    simp only [best, reduceCtorEq, iff_false]
    split
    · exact Option.some_ne_none _
    · split <;> exact Option.some_ne_none _

theorem best_mem (h : best xs = some d) : d ∈ xs := by
  induction xs with
  | nil => cases h
  | cons c xs ih =>
    rcases best_cons_cases h with ⟨rfl, -⟩ | ⟨hrest, -⟩
    · exact List.mem_cons_self
    · exact List.mem_cons_of_mem _ (ih hrest)

theorem le_of_best (h : best xs = some d) : ∀ x ∈ xs, x.1 ≤ d.1 := by
  induction xs generalizing d with
  | nil => exact fun x hx => nomatch hx
  | cons c xs ih =>
    intro x hx
    rcases best_cons_cases h with ⟨rfl, hle⟩ | ⟨hrest, hlt⟩
    · rcases List.mem_cons.1 hx with rfl | hx
      · exact Nat.le_refl _
      · cases he : best xs with
        | none => simp [best_eq_none_iff.1 he] at hx
        | some e => exact (ih he x hx).trans (hle e he)
    · rcases List.mem_cons.1 hx with rfl | hx
      · exact Nat.le_of_lt hlt
      · exact ih hrest x hx

/-- R46: of equal priorities the first is chosen. -/
theorem lt_of_best_append (h : best (xs ++ ys) = some d) (hd : d ∉ xs) : ∀ x ∈ xs, x.1 < d.1 := by
  induction xs with
  | nil => exact fun x hx => nomatch hx
  | cons c xs ih =>
    obtain ⟨hdc, hdxs⟩ := not_or.1 (mt List.mem_cons.2 hd)
    rcases best_cons_cases h with ⟨heq, -⟩ | ⟨hrest, hlt⟩
    · exact absurd heq hdc
    · intro x hx
      rcases List.mem_cons.1 hx with rfl | hx
      · exact hlt
      · exact ih hrest hdxs x hx

/-- R46: the shelf top, as a candidate. -/
def shelfCandidates (s : State) : List (Nat × Candidate) :=
  s.shelf.stack.head?.toList.map (fun r => (r.priority, Candidate.shelfTop))

/-- R46: link `l`'s head, as a candidate. -/
def headCandidates (s : State) (l : Link) : List (Nat × Candidate) :=
  (openingPriority s l).toList.map (fun p => (p, Candidate.head l))

theorem candidates_eq : candidates s = shelfCandidates s ++ (headCandidates s .a ++ headCandidates s .b) :=
  List.append_assoc _ _ _

theorem mem_shelfCandidates : d ∈ shelfCandidates s ↔
    ∃ r, s.shelf.stack.head? = some r ∧ (r.priority, Candidate.shelfTop) = d := by
  simp [shelfCandidates]

theorem mem_headCandidates {l : Link} : d ∈ headCandidates s l ↔
    ∃ p, openingPriority s l = some p ∧ (p, Candidate.head l) = d := by
  simp [headCandidates]

theorem mem_candidates {p : Nat} {x : Candidate} : (p, x) ∈ candidates s ↔
    (x = .shelfTop ∧ ∃ r, s.shelf.stack.head? = some r ∧ r.priority = p) ∨
    ∃ l, x = .head l ∧ openingPriority s l = some p := by
  rw [candidates_eq]
  simp only [List.mem_append, mem_shelfCandidates, mem_headCandidates, Prod.mk.injEq]
  constructor
  · rintro (⟨r, hr, hp, rfl⟩ | ⟨q, hq, rfl, rfl⟩ | ⟨q, hq, rfl, rfl⟩)
    · exact .inl ⟨rfl, r, hr, hp⟩
    · exact .inr ⟨.a, rfl, hq⟩
    · exact .inr ⟨.b, rfl, hq⟩
  · rintro (⟨rfl, r, hr, hp⟩ | ⟨l, rfl, hq⟩)
    · exact .inl ⟨r, hr, hp, rfl⟩
    · cases l
      · exact .inr (.inl ⟨p, hq, rfl, rfl⟩)
      · exact .inr (.inr ⟨p, hq, rfl, rfl⟩)

/-- R46: the shelf top goes first among equals. -/
theorem shelfTop_of_best {p : Nat} {x : Candidate} {r : SetRec} (h : best (candidates s) = some (p, x))
    (hr : s.shelf.stack.head? = some r) (hp : r.priority = p) : x = .shelfTop := by
  rw [candidates_eq] at h
  refine Classical.by_contradiction fun hx => ?_
  have hnot : (p, x) ∉ shelfCandidates s := fun hmem => by
    obtain ⟨_, -, heq⟩ := mem_shelfCandidates.1 hmem
    cases heq
    exact hx rfl
  exact absurd (lt_of_best_append h hnot _ (mem_shelfCandidates.2 ⟨r, hr, rfl⟩)) (by simp [hp])

/-- R46: link A's head goes before link B's among equals. -/
theorem not_head_b_of_best {p : Nat} {x : Candidate} (h : best (candidates s) = some (p, x))
    (ha : openingPriority s .a = some p) : x ≠ .head .b := by
  rintro rfl
  rw [candidates_eq, ← List.append_assoc] at h
  have hnot : (p, Candidate.head .b) ∉ shelfCandidates s ++ headCandidates s .a := fun hmem => by
    rcases List.mem_append.1 hmem with hmem | hmem
    · obtain ⟨_, -, heq⟩ := mem_shelfCandidates.1 hmem
      cases heq
    · obtain ⟨_, -, heq⟩ := mem_headCandidates.1 hmem
      cases heq
  exact absurd (lt_of_best_append h hnot _ (List.mem_append_right _ (mem_headCandidates.2 ⟨p, ha, rfl⟩)))
    (Nat.lt_irrefl p)

end Candidates

/-! ## What a grant writes (R47, R51, R154) -/

section Grants
variable {s : State} {l : Link} {e : QueueEntry} {rest : List QueueEntry} {p : Purpose} {d : Desc} {r : SetRec}

theorem route_eq (p : Purpose) : p.route = if p = .tray then .tray else .purge := by cases p <;> rfl

/-- R47: the head is GRANTED and the grant outstanding, with its GRANT not yet in the lane. -/
def granting (s : State) (l : Link) (e : QueueEntry) (rest : List QueueEntry) (p : Purpose) : State :=
  { headed s l { e with standing := .granted p.route } rest with
    grant := some { link := l, tag := e.desc.tag, purpose := p, stage := .inLane } }

theorem issueGrant_eq (he : (s.feeds.get l).entries = e :: rest) (p : Purpose) :
    issueGrant s l e p = sendGrant (granting s l e rest p) l e.desc.tag p.route := by
  simp only [issueGrant, changeHead_eq he, granting]

/-- R154: the GRANT waits in the lane behind a frame that is being sent, or on an absent link. -/
theorem issueGrant_of_busy (he : (s.feeds.get l).entries = e :: rest)
    (h : (s.links.get l).sending ≠ none ∨ linkPresent s l = false) (p : Purpose) :
    issueGrant s l e p = { granting s l e rest p with
      links := s.links.set l { s.links.get l with lane := some (.grant e.desc.tag p.route) } } := by
  have hpresent : linkPresent (granting s l e rest p) l = linkPresent s l := linkPresent_congr rfl l
  have hbusy : ((granting s l e rest p).links.get l).sending ≠ none ∨ linkPresent (granting s l e rest p) l = false :=
    hpresent ▸ h
  rw [issueGrant_eq he, sendGrant, placeInLane_of_busy hbusy]
  simp [noteGrantSending, granting, headed]

/-- R154, R153: an idle transmitter sends the GRANT at once. -/
theorem issueGrant_of_idle (he : (s.feeds.get l).entries = e :: rest) (hs : (s.links.get l).sending = none)
    (hl : linkPresent s l = true) (p : Purpose) :
    issueGrant s l e p = { granting s l e rest p with
      grant := some { link := l, tag := e.desc.tag, purpose := p, stage := .sending }
      links := s.links.set l { s.links.get l with
        lane := none, sending := some (.grant e.desc.tag p.route)
        line := frameChars s.straps.address (.grant e.desc.tag p.route) } } := by
  have hpresent : linkPresent (granting s l e rest p) l = true := (linkPresent_congr rfl l).trans hl
  rw [issueGrant_eq he, sendGrant, placeInLane_of_idle (s := granting s l e rest p) hs hpresent]
  simp [noteGrantSending, granting, headed]

/-- R51: the granted sheet ends its part. -/
def EndsPart (s : State) (r : SetRec) (d : Desc) : Prop := d.last = true ∨
  ∀ x, 1 ≤ d.part → (planOf s r.plan).parts[d.part - 1]? = some x → x.maxCount ≤ (r.partCount d.part).taken

theorem grantEndsPart_iff : grantEndsPart (planOf s r.plan) r d = true ↔ EndsPart s r d := by
  unfold grantEndsPart EndsPart PlanBody.part
  rw [Bool.or_eq_true]
  refine or_congr_right ?_
  by_cases h0 : d.part = 0
  · simp [h0]
  · have h1 : 1 ≤ d.part := Nat.one_le_iff_ne_zero.2 h0
    cases hp : (planOf s r.plan).parts[d.part - 1]? <;> simp [h0, h1]

/-- R52: the record once its current part has ended. -/
def partEnded (s : State) (r : SetRec) : SetRec :=
  let b := planOf s r.plan
  let last : Bool := decide (b.parts.length ≤ r.part)
  { r with
    flags := { r.flags with
      short := r.flags.short || decide ((r.partCount r.part).taken < ((b.part r.part).map (·.minCount)).getD 0) }
    assembly := if last then .closePending else r.assembly
    part := if last then r.part else r.part + 1 }

theorem SetRec_endPart_partEnded : r.endPart (planOf s r.plan) = partEnded s r := by
  by_cases h : (planOf s r.plan).parts.length ≤ r.part <;> simp [SetRec.endPart, SetFlags.judgeShort, partEnded, h]

theorem endPartAtGrant_of_ends (ho : openSet s = some r) (h : EndsPart s r d) : endPartAtGrant s d = { s with
    timers := { s.timers with stall := none }, tray := { s.tray with held := some (partEnded s r) } } := by
  simp [endPartAtGrant, ho, grantEndsPart_iff.2 h, endPart_eq (openSet_eq_some_iff.1 ho).1, SetRec_endPart_partEnded]

theorem endPartAtGrant_of_not (ho : openSet s = some r) (h : ¬EndsPart s r d) : endPartAtGrant s d = s := by
  simp [endPartAtGrant, ho, mt grantEndsPart_iff.1 h]

end Grants

/-! ## Classification (R34 to R36) -/

section Classes
variable {s : State} {l : Link} {d : Desc} {j : Job} {e : QueueEntry}

theorem checkAgainst_eq_none_iff : checkAgainst s l d j = none ↔
    d.seat ≤ j.seats.length ∧ d.seat ≤ (classOf s j.cls).seatCount ∧
      (∃ x, (planOf s j.plan).parts[d.part - 1]? = some x ∧ x.source = l) ∧ outOfOrder s d = false := by
  unfold checkAgainst
  split
  next h => exact iff_of_false (by simp) (fun hfits => by omega)
  next h =>
    obtain ⟨hlist, hclass⟩ := not_or.1 h
    cases hp : (planOf s j.plan).parts[d.part - 1]? with
    | none => simp
    | some x =>
      by_cases hx : x.source = l
      · have hseat : d.seat ≤ j.seats.length ∧ d.seat ≤ (classOf s j.cls).seatCount := by omega
        cases outOfOrder s d <;> simp [hx, hseat]
      · simp [hx]

theorem openIsOf_iff {job seat : Nat} :
    openIsOf s job seat = true ↔ ∃ r, openSet s = some r ∧ r.job = job ∧ r.seat = seat := by
  unfold openIsOf
  cases openSet s <;> simp [SetRec.isOf]

theorem parkedIsOf_iff {job seat : Nat} : parkedIsOf s job seat = true ↔
    ∃ r ∈ s.shelf.stack, r.job = job ∧ r.seat = seat := by
  simp [parkedIsOf, SetRec.isOf]

theorem opening_iff (b : PlanBody) (p : Nat) : b.opening p = true ↔
    1 ≤ p ∧ p ≤ b.parts.length ∧ ∀ x ∈ b.parts.take (p - 1), x.minCount = 0 := by
  simp [PlanBody.opening, and_assoc]

theorem draining_iff {α : Type} {es : List (Entry α)} {n : Nat} : ((es[n]?).map Entry.draining).getD false = true ↔
    ∃ x, es[n]? = some x ∧ x.marked = true ∧ 0 < x.refs := by
  cases es[n]? <;> simp [Entry.draining]

theorem classify_of_none (h : findJob s d.job = none) : classify s l d = .noLongerValid := by simp [classify, h]

theorem classify_of_fails (hj : findJob s d.job = some j) (h : checkAgainst s l d j ≠ none) :
    classify s l d = .noLongerValid := by
  obtain ⟨x, hx⟩ := Option.ne_none_iff_exists'.1 h
  simp [classify, hj, hx]

theorem classify_of_fits (hj : findJob s d.job = some j) (h : checkAgainst s l d j = none) : classify s l d =
    if openIsOf s d.job d.seat = true then .partOfOpen
    else if parkedIsOf s d.job d.seat = true then .parkedOwned
    else if d.index = 1 ∧ (planOf s j.plan).opening d.part = true then
      if planDraining s j.plan = true ∨ classDraining s j.cls = true then .heldForCommit else .setOpening
    else .orphan := by
  simp [classify, hj, h]

/-- R36: the plan or the class of the job drains. -/
def Drains (s : State) (j : Job) : Prop :=
  (∃ x, s.tables.plans[j.plan]? = some x ∧ x.marked = true ∧ 0 < x.refs) ∨
  (∃ x, s.tables.classes[j.cls]? = some x ∧ x.marked = true ∧ 0 < x.refs)

theorem drains_iff : (planDraining s j.plan = true ∨ classDraining s j.cls = true) ↔ Drains s j :=
  or_congr draining_iff draining_iff

/-- R34: the descriptor opens a set. -/
theorem opens_iff {b : PlanBody} : (d.index = 1 ∧ b.opening d.part = true) ↔
    d.index = 1 ∧ 1 ≤ d.part ∧ d.part ≤ b.parts.length ∧ ∀ x ∈ b.parts.take (d.part - 1), x.minCount = 0 :=
  and_congr_right fun _ => opening_iff b d.part

theorem headClass_of_checked (h : headOf s l = some e) (hs : e.standing = .waiting) (hf : e.faulty = none)
    (hc : e.checked = true) : headClass s l = some (classify s l e.desc) := by
  simp [headClass, h, hs, hf, hc]

theorem headClass_of_other (h : headOf s l = some e)
    (hno : e.standing ≠ .waiting ∨ e.faulty ≠ none ∨ e.checked = false) : headClass s l = none := by
  simp only [headClass, h]
  split
  next hs hf =>
    have hc : e.checked = false := by simpa [hs, hf] using hno
    simp [hc]
  next => rfl

end Classes

/-! ## Purge grants (R45, R56) -/

section Purges
variable {s : State} {l : Link} {d : Desc} {e : QueueEntry} {p : Purpose}

/-- R45: the other link's head opens, or waits to open, a set of the job and seat. -/
def OtherOpens (s : State) (l : Link) (d : Desc) : Prop := ∃ x, headOf s (otherLink l) = some x ∧
  (headClass s (otherLink l) = some .setOpening ∨ headClass s (otherLink l) = some .heldForCommit) ∧
  x.desc.job = d.job ∧ x.desc.seat = d.seat

theorem deferred_iff : deferred s l d = true ↔ OtherOpens s l d := by
  unfold deferred OtherOpens
  split
  next x hc hx => simp [hc, hx]
  next x hc hx => simp [hc, hx]
  next hset hheld =>
    refine iff_of_false (by simp) ?_
    rintro ⟨x, hx, hc | hc, -⟩
    · exact hset x hc hx
    · exact hheld x hc hx

theorem purgePurpose_of_none (h : headOf s l = none) : purgePurpose s l = none := by simp [purgePurpose, h]

theorem purgePurpose_of_not_waiting (h : headOf s l = some e) (hs : e.standing ≠ .waiting) : purgePurpose s l = none := by
  simp only [purgePurpose, h]
  split
  next => rfl
  next => rfl
  next hw => exact absurd hw hs

theorem purgePurpose_of_faulty (h : headOf s l = some e) (hs : e.standing = .waiting) (hf : e.faulty ≠ none) :
    purgePurpose s l = some .purgeFaulty := by
  obtain ⟨r, hr⟩ := Option.ne_none_iff_exists'.1 hf
  simp [purgePurpose, h, hs, hr]

theorem purgePurpose_of_sound (h : headOf s l = some e) (hs : e.standing = .waiting) (hf : e.faulty = none) :
    purgePurpose s l = if headClass s l = some .noLongerValid then some .purgeOrphan
      else if headClass s l = some .orphan then if deferred s l e.desc then none else some .purgeOrphan
      else none := by
  simp only [purgePurpose, h, hs, hf]
  cases hc : headClass s l with
  | none => simp
  | some c => cases c <;> simp

/-- R43, R56: purge grants may be served. -/
def Purges (s : State) : Prop := s.run = .running ∨
  (s.run = .halting ∧ ∃ r, s.tray.held = some r ∧ ∀ c, s.tray.close = some c → c.kind ≠ .final)

theorem purgesServed_iff : purgesServed s = true ↔ Purges s := by
  have hopen : (openSet s).isSome = true ↔ ∃ r, s.tray.held = some r ∧ ∀ c, s.tray.close = some c → c.kind ≠ .final := by
    simp only [Option.isSome_iff_exists, openSet_eq_some_iff]
  unfold purgesServed Purges
  cases hr : s.run <;> simp [hopen]

theorem purgeChoice_of_a (h : Purges s) (he : headOf s .a = some e) (hp : purgePurpose s .a = some p) :
    purgeChoice s = some (.a, e, p) := by
  simp [purgeChoice, purgesServed_iff.2 h, he, hp]

theorem purgeChoice_of_b (h : Purges s) (ha : purgePurpose s .a = none) (he : headOf s .b = some e)
    (hp : purgePurpose s .b = some p) : purgeChoice s = some (.b, e, p) := by
  simp [purgeChoice, purgesServed_iff.2 h, ha, he, hp]

theorem purgeChoice_of_none (h : ¬Purges s ∨ (purgePurpose s .a = none ∧ purgePurpose s .b = none)) :
    purgeChoice s = none := by
  rcases h with hno | ⟨ha, hb⟩
  · simp [purgeChoice, mt purgesServed_iff.1 hno]
  · simp [purgeChoice, ha, hb]

/-- R154: a WITHDRAW waits in the lane of link `l`. -/
def Waits (s : State) (l : Link) : Prop := ∃ tag, (s.links.get l).lane = some (.withdraw tag)

theorem laneFree_of_not_waits (h : ¬Waits s l) : laneFree s l = true := by
  simpa [laneFree] using mt withdrawWaits_iff.1 h

theorem laneFree_of_waits (h : Waits s l) : laneFree s l = false := by
  simpa [laneFree] using withdrawWaits_iff.2 h

theorem servePurgeOrStart_of_choice (h : purgeChoice s = some (l, e, p)) :
    (Waits s l → servePurgeOrStart s = s) ∧ (¬Waits s l → servePurgeOrStart s = issueGrant s l e p) := by
  refine ⟨fun hw => ?_, fun hw => ?_⟩
  · simp [servePurgeOrStart, h, laneFree_of_waits hw]
  · simp [servePurgeOrStart, h, laneFree_of_not_waits hw]

end Purges

/-! ## Start selection (R46, R63) -/

section Starts
variable {s : State} {l : Link} {e : QueueEntry} {j : Job} {p : Nat}

theorem startSelection_of_not (h : s.run ≠ .running ∨ s.tray.phase ≠ .empty ∨ s.tower.phase = .blocked) :
    startSelection s = s := by
  refine if_neg ?_
  rintro ⟨hrun, hphase, htower⟩
  rcases h with h | h | h
  · exact h hrun
  · exact h hphase
  · exact htower h

theorem startSelection_of_none (h : candidates s = []) : startSelection s = s := by simp [startSelection, h, best]

theorem startSelection_shelfTop (hrun : s.run = .running) (hphase : s.tray.phase = .empty)
    (htower : s.tower.phase ≠ .blocked) (h : best (candidates s) = some (p, .shelfTop)) : startSelection s = { s with
      tray := { s.tray with phase := .unparking }
      shelf := { s.shelf with motion := .lowering }
      timers := { s.timers with motion := some 20000 } } := by
  simp [startSelection, hrun, hphase, htower, h, beginUnpark, msTicks, Config.motionMs, Config.ticksPerMs]

theorem startSelection_head (hrun : s.run = .running) (hphase : s.tray.phase = .empty) (htower : s.tower.phase ≠ .blocked)
    (h : best (candidates s) = some (p, .head l)) (he : headOf s l = some e) (hj : findJob s e.desc.job = some j) :
    (Waits s l → startSelection s = s) ∧ (¬Waits s l → startSelection s = startSet s l e j) := by
  refine ⟨fun hw => ?_, fun hw => ?_⟩
  · simp [startSelection, h, he, hj, laneFree_of_waits hw]
  · simp [startSelection, hrun, hphase, htower, h, he, hj, laneFree_of_not_waits hw]

end Starts

/-! ## The arbiter's order (R42 to R44, R93) -/

section Serve
variable {s : State} {l : Link} {e : QueueEntry} {r : SetRec} {part : PlanPart} {rest : List QueueEntry}

theorem grantable_iff : grantable s = true ↔ active s = true ∧ s.grant = none ∧
    (∀ x ∈ s.path.entries, x.state ≠ .preGate) ∧ s.path.entries.length < 4 ∧ s.path.purgeCount < 250 := by
  have hpre : (!anyPreGate s) = true ↔ ∀ x ∈ s.path.entries, x.state ≠ .preGate := by simp [anyPreGate]
  simp only [grantable, Bool.and_eq_true, hpre, Option.isNone_iff_eq_none, decide_eq_true_eq, and_assoc]
  exact Iff.rfl

theorem serve_of_not_grantable (h : grantable s = false) : serve s = s := by simp [serve, h]

theorem serve_of_nothing_needed (hg : grantable s = true)
    (h : ∀ r, assemblingSet s = some r → neededSheet s r = none) : serve s = servePurgeOrStart s := by
  cases hr : assemblingSet s with
  | none => simp [serve, hg, hr]
  | some r => simp [serve, hg, hr, h r hr]

theorem serve_of_needed (hg : grantable s = true) (hr : assemblingSet s = some r) (hn : neededSheet s r = some (l, e)) :
    serve s = if splitFires r (boundThicknesses s) (thickness s e.desc.grade) then servePurgeOrStart (beginSplit s)
      else if laneFree s l then grantNeeded s l e else s := by
  simp [serve, hg, hr, hn]

theorem neededSheet_of_head (h1 : 1 ≤ r.part) (hp : (planOf s r.plan).parts[r.part - 1]? = some part)
    (he : headOf s part.source = some e) (hc : headClass s part.source = some .partOfOpen) (hpart : e.desc.part = r.part) :
    neededSheet s r = some (part.source, e) := by
  have hplan : (planOf s r.plan).part r.part = some part := (PlanBody_part_eq _ h1).trans hp
  simp [neededSheet, hplan, he, hc, hpart]

/-- R93: the tray-bound sheets. -/
def boundEntries (s : State) : List PathEntry :=
  s.path.entries.filter (fun x => x.purpose == .tray && x.state != .toPurge)

theorem trayBound_eq : trayBound s = boundEntries s := by
  refine List.filter_congr fun x _ => ?_
  unfold PathEntry.trayBound
  cases x.purpose <;> cases x.state <;> rfl

/-- R93: the split check of the needed sheet `e`. -/
def SplitFires (s : State) (r : SetRec) (e : QueueEntry) : Prop :=
  99 < r.traySheets + (boundEntries s).length + 1 ∨
  1200 < r.trayHeight + ((boundEntries s).map
    (fun x => match x.desc with | some d => thickness s d.grade | none => 0)).sum + thickness s e.desc.grade

theorem splitFires_iff :
    splitFires r (boundThicknesses s) (thickness s e.desc.grade) = true ↔ SplitFires s r e := by
  simp [splitFires, boundThicknesses, trayBound_eq, SplitFires, Config.maxSegmentSheets, Config.maxTrayHeight] <;>
    exact Iff.rfl

/-- R41: the record with the needed sheet `e` taken. -/
def sheetTaken (r : SetRec) (e : QueueEntry) : SetRec := { r with
  parts := r.parts.modify (r.part - 1) (fun c => { taken := c.taken + 1, lastIndex := e.desc.index })
  flags := { r.flags with gap := r.flags.gap || decide ((r.partCount r.part).lastIndex + 1 < e.desc.index) } }

/-- R41: the part with the needed sheet taken. -/
def taking (s : State) (r : SetRec) (e : QueueEntry) : State :=
  { s with tray := { s.tray with held := some (sheetTaken r e) } }

theorem grantNeeded_eq (hh : s.tray.held = some r) (hpart : e.desc.part = r.part) :
    grantNeeded s l e = endPartAtGrant (issueGrant (taking s r e) l e .tray) e.desc := by
  simp [grantNeeded, changeHeld, hh, SetRec.grantSheet, SetFlags.judgeGap, changeAt_eq_modify, hpart, taking, sheetTaken]

/-- R51, R52: the end of the part leaves the grant, its counts and the links. -/
theorem endPartAtGrant_keeps {t : State} (hh : t.tray.held = some r) (d : Desc) :
    ∃ r', (endPartAtGrant t d).tray.held = some r' ∧ r'.parts = r.parts ∧ r'.flags.gap = r.flags.gap := by
  unfold endPartAtGrant
  split
  next x ho =>
    obtain ⟨hx, -⟩ := openSet_eq_some_iff.1 ho
    cases hh.symm.trans hx
    split
    · rw [endPart_eq hx, SetRec_endPart_partEnded]
      exact ⟨_, rfl, rfl, rfl⟩
    · exact ⟨r, hh, rfl, rfl⟩
  next => exact ⟨r, hh, rfl, rfl⟩

theorem issueGrant_held (p : Purpose) : (issueGrant s l e p).tray = s.tray := by simp

theorem issueGrant_written (he : (s.feeds.get l).entries = e :: rest) (p : Purpose) :
    (∃ stage, (issueGrant s l e p).grant = some { link := l, tag := e.desc.tag, purpose := p, stage := stage }) ∧
    ((issueGrant s l e p).feeds.get l).entries = { e with standing := .granted p.route } :: rest := by
  by_cases hbusy : (s.links.get l).sending ≠ none ∨ linkPresent s l = false
  · rw [issueGrant_of_busy he hbusy]
    exact ⟨⟨_, rfl⟩, by simp [granting, headed]⟩
  · obtain ⟨hidle, hpresent⟩ := not_or.1 hbusy
    rw [issueGrant_of_idle he (not_not.1 hidle) (by simpa using hpresent)]
    exact ⟨⟨_, rfl⟩, by simp [granting, headed]⟩

end Serve

/-! ## The statement's parts -/

section Parts
variable {s : State} {l : Link} {e : QueueEntry} {r : SetRec} {part : PlanPart} {rest : List QueueEntry}

/-- R41, R44, R47, R93: the arbiter at a needed sheet. -/
theorem serve_needed (hg : grantable s = true) (hr : assemblingSet s = some r)
    (hn : neededSheet s r = some (l, e)) (hpart : e.desc.part = r.part) :
    (SplitFires s r e → serve s = servePurgeOrStart (beginSplit s)) ∧
    (¬SplitFires s r e → Waits s l → serve s = s) ∧
    (¬SplitFires s r e → ¬Waits s l →
      serve s = endPartAtGrant (issueGrant (taking s r e) l e .tray) e.desc) := by
  have hheld := (assemblingSet_eq_some_iff.1 hr).2.1
  rw [serve_of_needed hg hr hn]
  refine ⟨fun hf => if_pos (splitFires_iff.2 hf), fun hf hw => ?_, fun hf hw => ?_⟩
  · simp [mt splitFires_iff.1 hf, laneFree_of_waits hw]
  · rw [if_neg (mt splitFires_iff.1 hf), if_pos (laneFree_of_not_waits hw), grantNeeded_eq hheld hpart]

/-- R41, R47: what the needed-sheet grant leaves. -/
theorem needed_granted (he : (s.feeds.get l).entries = e :: rest) :
    let t := endPartAtGrant (issueGrant (taking s r e) l e .tray) e.desc
    ∃ g r', t.grant = some g ∧ g.link = l ∧ g.tag = e.desc.tag ∧ g.purpose = .tray ∧
      (t.feeds.get l).entries = { e with standing := .granted .tray } :: rest ∧ t.tray.held = some r' ∧
      r'.parts = (sheetTaken r e).parts ∧ r'.flags.gap = (sheetTaken r e).flags.gap ∧
      ((s.links.get l).sending.isSome = true →
        t.links.get l = { s.links.get l with lane := some (.grant e.desc.tag .tray) }) := by
  have htaking : ((taking s r e).feeds.get l).entries = e :: rest := he
  obtain ⟨⟨stage, hgrant⟩, hentries⟩ := issueGrant_written htaking .tray
  have hheld : (issueGrant (taking s r e) l e .tray).tray.held = some (sheetTaken r e) := by
    rw [issueGrant_held]
    rfl
  obtain ⟨r', hr', hparts, hgap⟩ := endPartAtGrant_keeps hheld e.desc
  refine ⟨_, r', by simpa using hgrant, rfl, rfl, rfl, by simpa [Purpose.route] using hentries, hr', hparts, hgap,
    fun hsending => ?_⟩
  have hbusy : ((taking s r e).links.get l).sending ≠ none := Option.isSome_iff_ne_none.1 hsending
  rw [issueGrant_of_busy htaking (.inl hbusy)]
  simp [taking, Purpose.route]

end Parts

/-- Settles O45: the classes by `classify_of_fits`, the grants by `issueGrant_of_busy` and `issueGrant_of_idle`, and the
order of the arbiter by `serve_needed`, `servePurgeOrStart_of_choice` and the lemmas of start selection. -/
theorem startSelectionTakesTheHighest : Obligations.StartSelectionTakesTheHighest := by
  unfold Obligations.StartSelectionTakesTheHighest
  refine ⟨fun s p c h => ?_, fun s p c => ?_, fun s l p => openingPriority_eq_some_iff, fun s l e rest p he => ?_,
    fun s d r hh hclose => ?_, fun s l d => ?_, fun s h => ?_, fun s hactive hgrant hpre hlength hpurge => ?_⟩
  · exact ⟨le_of_best h, best_mem h, fun r hr hp => shelfTop_of_best h hr hp, not_head_b_of_best h⟩
  · rw [mem_candidates]
    refine or_congr_right ⟨?_, ?_⟩
    · rintro ⟨l, rfl, hp⟩
      obtain ⟨e, j, hhead⟩ := openingPriority_eq_some_iff.1 hp
      exact ⟨l, e, j, rfl, hhead⟩
    · rintro ⟨l, e, j, rfl, hhead⟩
      exact ⟨l, rfl, openingPriority_eq_some_iff.2 ⟨e, j, hhead⟩⟩
  · dsimp only
    rw [← route_eq]
    exact ⟨fun hbusy => issueGrant_of_busy he hbusy p, fun hs hl => issueGrant_of_idle he hs hl p⟩
  · have ho := openSet_eq_some_iff.2 ⟨hh, hclose⟩
    exact ⟨endPartAtGrant_of_ends ho, endPartAtGrant_of_not ho⟩
  · refine ⟨classify_of_none, fun j hj => ⟨fun hfits => classify_of_fails hj (mt checkAgainst_eq_none_iff.1 hfits), ?_⟩⟩
    have hfits := fun hf => classify_of_fits (l := l) hj (checkAgainst_eq_none_iff.2 hf)
    refine ⟨fun hf hopen => ?_, fun hf hopen hparked => ?_, fun hf hopen hparked hopens hdrains => ?_,
      fun hf hopen hparked hopens hdrains => ?_, fun hf hopen hparked hopens => ?_⟩
    · rw [hfits hf, if_pos (openIsOf_iff.2 hopen)]
    · rw [hfits hf, if_neg (mt openIsOf_iff.1 hopen), if_pos (parkedIsOf_iff.2 hparked)]
    · rw [hfits hf, if_neg (mt openIsOf_iff.1 hopen), if_neg (mt parkedIsOf_iff.1 hparked), if_pos (opens_iff.2 hopens),
        if_neg (mt drains_iff.1 hdrains)]
    · rw [hfits hf, if_neg (mt openIsOf_iff.1 hopen), if_neg (mt parkedIsOf_iff.1 hparked), if_pos (opens_iff.2 hopens),
        if_pos (drains_iff.2 hdrains)]
    · rw [hfits hf, if_neg (mt openIsOf_iff.1 hopen), if_neg (mt parkedIsOf_iff.1 hparked),
        if_neg (mt opens_iff.1 hopens)]
  · exact serve_of_not_grantable (Bool.eq_false_iff.2 (mt grantable_iff.1 h))
  · have hg := grantable_iff.2 ⟨hactive, hgrant, hpre, hlength, hpurge⟩
    refine ⟨fun r part e rest hphase hheld hclose hassembling h1 hplan he hclass hpart => ?_, fun hnothing => ?_,
      fun l => purgePurpose_of_none, fun l e he => ⟨purgePurpose_of_not_waiting he, ?_, purgePurpose_of_faulty he, ?_, ?_,
      headClass_of_checked he, headClass_of_other he⟩⟩
    · have hr : assemblingSet s = some r :=
        assemblingSet_eq_some_iff.2 ⟨hphase, hheld, by simp [hclose], hassembling, hactive⟩
      have hhead := headOf_eq_some_iff.2 ⟨rest, he⟩
      obtain ⟨hfires, hwaits, hgranted⟩ := serve_needed hg hr (neededSheet_of_head h1 hplan hhead hclass hpart) hpart
      refine ⟨hfires, hwaits, fun hf hw => ⟨hgranted hf hw, ?_⟩⟩
      rw [hgranted hf hw]
      exact needed_granted he
    · have hserve := serve_of_nothing_needed hg hnothing
      rw [hserve]
      refine ⟨fun e p hp he hpurpose => servePurgeOrStart_of_choice (purgeChoice_of_a hp he hpurpose),
        fun e p hp ha he hpurpose => servePurgeOrStart_of_choice (purgeChoice_of_b hp ha he hpurpose), fun hnone => ?_⟩
      have hstart : servePurgeOrStart s = startSelection s := by simp [servePurgeOrStart, purgeChoice_of_none hnone]
      rw [hstart]
      exact ⟨startSelection_of_not, fun hrun hphase htower => ⟨startSelection_of_none,
        fun p hbest => startSelection_shelfTop hrun hphase htower hbest,
        fun p l e j hbest he hj => startSelection_head hrun hphase htower hbest he hj⟩⟩
    · intro hs hf hvalid horphan
      rw [purgePurpose_of_sound he hs hf, if_neg hvalid, if_neg horphan]
    · intro hs hf hvalid
      rw [purgePurpose_of_sound he hs hf, if_pos hvalid]
    · intro hs hf horphan
      rw [purgePurpose_of_sound he hs hf, if_neg (by simp [horphan]), if_pos horphan]
      exact ⟨fun hw => if_pos (deferred_iff.2 hw), fun hw => if_neg (mt deferred_iff.1 hw)⟩

end Sys2Proof.Machine.MergeArbiter
end

section
/-!
PROOFS. The job records through the losses of a CLEAR (R14, R17, R167, R168): what one loss writes, and what a list of
losses comes to.
-/
namespace Sys2Proof.Machine.ClearLosses

open SetAssembly JobAccounts

/-! ## One loss (R168) -/

/-- R14, R17, R168: the record of a job that a set of `seat` is lost of, another set of the seat being live or not. -/
def lostSeat (live : Bool) (seat : Nat) (j : Job) : Job :=
  (if live then j.raise .lost else (j.raise .lost).withSeat seat .lost).addReprint seat

section OneLoss
variable {s t u v : State} {j j' : Job} {live : Bool} {seat m n : Nat}

theorem lostSeat_number : (lostSeat live seat j).number = j.number :=
  (Job_addReprint_number _ _).trans (outcome_number live .lost .lost)

theorem addReprint_frame (j : Job) (seat : Nat) :
    j.addReprint seat = { j with reprint := (j.addReprint seat).reprint } := by
  unfold Job.addReprint
  split <;> rfl

theorem withSeat_frame (j : Job) (seat : Nat) (st : SeatStatus) :
    j.withSeat seat st = { j with seats := (j.withSeat seat st).seats } := by
  unfold Job.withSeat
  split <;> rfl

/-- R168: beside its seats and its reprint list the record gains one lost set. -/
theorem lostSeat_frame : lostSeat live seat j = { j with
    lost := min 65535 (j.lost + 1)
    seats := (lostSeat live seat j).seats
    reprint := (lostSeat live seat j).reprint } := by
  unfold lostSeat
  rw [addReprint_frame]
  cases live with
  | true => rfl
  | false =>
    simp only [Bool.false_eq_true, if_false]
    rw [withSeat_frame]
    rfl

theorem withSeat_seats (h1 : 1 ≤ m) (st : SeatStatus) : (j.withSeat seat st).seats[m - 1]? =
    if m = seat then (j.seats[m - 1]?).map (fun _ => st) else j.seats[m - 1]? := by
  unfold Job.withSeat
  by_cases h0 : seat = 0
  · simp [h0, Nat.ne_of_gt h1]
  · have hindex : m - 1 = seat - 1 ↔ m = seat := by omega
    simp [h0, changeAt_getElem?, hindex]

theorem lostSeat_seats (h1 : 1 ≤ m) : (lostSeat live seat j).seats[m - 1]? =
    if m = seat ∧ live = false then (j.seats[m - 1]?).map (fun _ => .lost) else j.seats[m - 1]? := by
  unfold lostSeat
  rw [addReprint_frame]
  cases live with
  | true => simp [Job.raise]
  | false =>
    simp only [Bool.false_eq_true, if_false, and_true]
    exact withSeat_seats h1 .lost

theorem withSeat_length (st : SeatStatus) : (j.withSeat seat st).seats.length = j.seats.length := by
  unfold Job.withSeat
  split
  · rfl
  · simp [changeAt_eq_modify]

theorem lostSeat_length : (lostSeat live seat j).seats.length = j.seats.length := by
  unfold lostSeat
  rw [addReprint_frame]
  cases live with
  | true => rfl
  | false => exact withSeat_length .lost

theorem addReprint_mem (h1 : 1 ≤ m) (hm : m ≤ j.seats.length) :
    m ∈ (j.addReprint seat).reprint ↔ m ∈ j.reprint ∨ m = seat := by
  rw [SheetPath.addReprint_job_eq]
  split
  next => simp
  next h =>
    refine ⟨.inl, fun hmem => hmem.elim id fun heq => ?_⟩
    subst heq
    exact Classical.by_contradiction fun hnot => h ⟨hnot, h1, hm⟩

theorem lostSeat_reprint (h1 : 1 ≤ m) (hm : m ≤ j.seats.length) :
    m ∈ (lostSeat live seat j).reprint ↔ m ∈ j.reprint ∨ m = seat := by
  unfold lostSeat
  cases live with
  | true => exact addReprint_mem h1 hm
  | false =>
    have hlength : m ≤ ((j.raise .lost).withSeat seat .lost).seats.length :=
      hm.trans (withSeat_length (j := j.raise .lost) .lost).ge
    rw [if_neg Bool.false_ne_true, addReprint_mem h1 hlength, withSeat_frame]
    rfl

theorem findJob_accountLost (job : Nat) : findJob (accountLost s job seat) job =
    (findJob s job).map (lostSeat (seatLive s job seat) seat) := by
  rw [accountLost, addReprint, findJob_changeJob fun x => Job_addReprint_number x seat, accountOutcome,
    findJob_changeJob fun x => outcome_number _ .lost .lost, Option.map_map]
  rfl

theorem findJob_accountLost_ne {job : Nat} (h : n ≠ job) : findJob (accountLost s job seat) n = findJob s n := by
  rw [accountLost, addReprint, findJob_changeJob_ne (fun x => Job_addReprint_number x seat) h, accountOutcome,
    findJob_changeJob_ne (fun x => outcome_number _ .lost .lost) h]

theorem findJob_congr (h : t.jobs = s.jobs) (n : Nat) : findJob t n = findJob s n := by simp [findJob, h]

end OneLoss

/-! ## The losses so far -/

/-- R14, R17, R168: the record `j'` that `j` has become by the loss of the sets `xs`, in the state `u`: a lost seat is LOST
unless a set of it is live yet. -/
structure Losses (u : State) (j : Job) (xs : List (Nat × Nat)) (j' : Job) : Prop where
  number : j'.number = j.number
  phase : j'.phase = j.phase
  lost : j'.lost = min 65535 (j.lost + (xs.filter (fun x => x.1 == j.number)).length)
  delivered : j'.delivered = j.delivered
  diverted : j'.diverted = j.diverted
  exceptions : j'.exceptions = j.exceptions
  length : j'.seats.length = j.seats.length
  seats : ∀ seat, 1 ≤ seat → seat ≤ j.seats.length → j'.seats[seat - 1]? =
    if (j.number, seat) ∈ xs ∧ (j.number, seat) ∉ liveSets u then some .lost else j.seats[seat - 1]?
  reprint : ∀ seat, 1 ≤ seat → seat ≤ j.seats.length →
    (seat ∈ j'.reprint ↔ seat ∈ j.reprint ∨ (j.number, seat) ∈ xs)

/-- The record of `j` in `u` has the losses `xs`. -/
def Accounted (u : State) (j : Job) (xs : List (Nat × Nat)) : Prop :=
  ∃ j', findJob u j.number = some j' ∧ Losses u j xs j'

section Losses
variable {s t u v : State} {j j' : Job} {xs ys : List (Nat × Nat)} {seat m n : Nat}

theorem accounted_nil (h : findJob s j.number = some j) (hlost : j.lost ≤ 65535) : Accounted s j [] :=
  ⟨j, h, rfl, rfl, by simpa using hlost, rfl, rfl, rfl, rfl, fun _ _ _ => by simp, fun _ _ _ => by simp⟩

/-- A change that keeps the records and the live sets keeps the account. -/
theorem accounted_congr (h : Accounted u j xs) (hj : v.jobs = u.jobs)
    (hl : ∀ x, x ∈ liveSets v ↔ x ∈ liveSets u) : Accounted v j xs := by
  obtain ⟨j', hfound, hlosses⟩ := h
  refine ⟨j', (findJob_congr hj _).trans hfound, { hlosses with seats := fun seat h1 hle => ?_ }⟩
  rw [hlosses.seats seat h1 hle]
  simp only [hl]

theorem mem_append_of_ne {x y : Nat × Nat} (h : x ≠ y) : x ∈ xs ++ [y] ↔ x ∈ xs := by simp [h]

/-- R168: the loss of a set whose record has just left the part. -/
theorem accounted_lose {job : Nat} (h : Accounted u j xs) (hj : v.jobs = u.jobs) (hmem : (job, seat) ∈ liveSets u)
    (hl : ∀ x, x ≠ (job, seat) → (x ∈ liveSets v ↔ x ∈ liveSets u)) (hw : ∀ x, x ∈ liveSets t ↔ x ∈ liveSets v)
    (ht : ∀ n, findJob t n = findJob (accountLost v job seat) n) : Accounted t j (xs ++ [(job, seat)]) := by
  obtain ⟨j', hfound, hlosses⟩ := h
  rw [← findJob_congr hj] at hfound
  by_cases hjob : j.number = job
  · subst hjob
    have hlive : seatLive v j.number seat = false ↔ (j.number, seat) ∉ liveSets v := by simp [seatLive]
    refine ⟨lostSeat (seatLive v j.number seat) seat j', by rw [ht, findJob_accountLost, hfound]; rfl, ?_⟩
    constructor
    case number => exact lostSeat_number.trans hlosses.number
    case phase => rw [lostSeat_frame]; exact hlosses.phase
    case lost =>
      rw [lostSeat_frame, List.filter_append]
      simp [hlosses.lost]
      omega
    case delivered => rw [lostSeat_frame]; exact hlosses.delivered
    case diverted => rw [lostSeat_frame]; exact hlosses.diverted
    case exceptions => rw [lostSeat_frame]; exact hlosses.exceptions
    case length => exact lostSeat_length.trans hlosses.length
    case seats =>
      intro m h1 hle
      rw [lostSeat_seats h1, hlosses.seats m h1 hle]
      by_cases hm : m = seat
      · subst hm
        by_cases hv : (j.number, m) ∈ liveSets v
        · simp [hw, hv, hmem, seatLive]
        · have hsome : (j.seats[m - 1]?).isSome = true := by
            rw [List.getElem?_eq_getElem (by omega)]
            rfl
          obtain ⟨st, hst⟩ := Option.isSome_iff_exists.1 hsome
          simp [hw, hv, hmem, seatLive, hst]
      · have hne : (j.number, m) ≠ (j.number, seat) := by simp [hm]
        simp only [hm, false_and, if_false, hw, hl _ hne, mem_append_of_ne hne]
    case reprint =>
      intro m h1 hle
      rw [lostSeat_reprint h1 (hlosses.length ▸ hle), hlosses.reprint m h1 hle]
      simp [or_assoc]
  · have hne (m : Nat) : (j.number, m) ≠ (job, seat) := by simp [hjob]
    refine ⟨j', by rw [ht, findJob_accountLost_ne hjob, hfound], { hlosses with lost := ?_, seats := ?_, reprint := ?_ }⟩
    · have hother : ¬job = j.number := fun heq => hjob heq.symm
      rw [hlosses.lost]
      simp [List.filter_append, hother]
    · intro m h1 hle
      simp only [hlosses.seats m h1 hle, hw, hl _ (hne m), mem_append_of_ne (hne m)]
    · intro m h1 hle
      rw [hlosses.reprint m h1 hle, mem_append_of_ne (hne m)]

end Losses

end Sys2Proof.Machine.ClearLosses
end

section
/-!
PROOFS. CLEAR: its refusal, the steps of an accepted one, and the losses of the sets that the part held (R167, R168).
-/
namespace Sys2Proof.Machine.ClearLosses

open SetAssembly JobAccounts FeedLinks

/-! ## The sets the part holds (R12) -/

/-- The job and seat of the set in the tray. -/
def traySets (s : State) : List (Nat × Nat) := s.tray.held.toList.map (fun r => (r.job, r.seat))

/-- The jobs and seats of the sets on the shelf. -/
def shelfSets (s : State) : List (Nat × Nat) := s.shelf.stack.map (fun r => (r.job, r.seat))

/-- The job and seat of the set whose final segment the elevator holds. -/
def towerSets (s : State) : List (Nat × Nat) :=
  (s.tower.carried.toList.filter (·.final)).map (fun g => (g.job, g.seat))

section Steps
variable {s t u v : State} {j : Job} {xs : List (Nat × Nat)}

theorem mem_liveSets {x : Nat × Nat} : x ∈ liveSets s ↔ x ∈ traySets s ∨ x ∈ shelfSets s ∨ x ∈ towerSets s := by
  simp only [liveSets, List.mem_append, traySets, shelfSets, towerSets, or_assoc]

theorem mem_liveSets_congr (ht : t.tray.held = s.tray.held) (hs : t.shelf.stack = s.shelf.stack)
    (hc : t.tower.carried = s.tower.carried) (x : Nat × Nat) : x ∈ liveSets t ↔ x ∈ liveSets s := by
  simp [liveSets, ht, hs, hc]

theorem findJob_loseSet (job seat plan cls tag segment total : Nat) (flags : SetFlags) (jam : Bool) (n : Nat) :
    findJob (loseSet s job seat plan cls tag segment total flags jam) n = findJob (accountLost s job seat) n :=
  findJob_congr (by simp [loseSet, dropRefs, changeRefs]) n

/-- R168: `accounted_lose`, for a set whose loss is accounted at once. -/
theorem accounted_loseSet {job seat : Nat} (h : Accounted u j xs) (hj : v.jobs = u.jobs) (hmem : (job, seat) ∈ liveSets u)
    (hl : ∀ x, x ≠ (job, seat) → (x ∈ liveSets v ↔ x ∈ liveSets u)) (plan cls tag segment total : Nat)
    (flags : SetFlags) (jam : Bool) :
    Accounted (loseSet v job seat plan cls tag segment total flags jam) j (xs ++ [(job, seat)]) :=
  accounted_lose h hj hmem hl (mem_liveSets_congr (by simp) (by simp) (by simp)) (findJob_loseSet _ _ _ _ _ _ _ _ _)

/-! ## The steps (R167) -/

/-- R167, R99: the tray is EMPTY, and a fire of its set that runs on is marked. -/
def trayEmptied (s : State) : State := { s with
  tray := Tray.empty
  stapler := { s.stapler with owner := s.stapler.owner.map (fun o => { o with lost := true }) } }

theorem clearTray_of_none (h : s.tray.held = none) : clearTray s = trayEmptied s := by simp [clearTray, h, trayEmptied]

theorem clearTray_of_some {r : SetRec} (h : s.tray.held = some r) : clearTray s = loseSet (trayEmptied s)
    r.job r.seat r.plan r.cls r.replyTag r.segment r.totalSheets r.flags ((s.tray.close.map (·.jamMark)).getD false) := by
  simp [clearTray, h, trayEmptied, loseRecord]

/-- R167: the tower is IDLE. -/
def towerIdled (s : State) : State := { s with tower := Tower.idle }

theorem clearTower_of_final {g : Segment} (h : s.tower.carried = some g) (hg : g.final = true) :
    clearTower s = loseSet (towerIdled s)
      g.job g.seat g.plan g.cls g.replyTag g.segment g.totalSheets g.flags g.jamMark := by
  simp [clearTower, h, hg, towerIdled]

theorem clearTower_of_not_final (h : ∀ g, s.tower.carried = some g → g.final = false) :
    clearTower s = towerIdled s := by
  cases hc : s.tower.carried with
  | none => simp [clearTower, hc, towerIdled]
  | some g => simp [clearTower, hc, h g hc, towerIdled]

/-- R167: the shelf with the records `rs` left. -/
def shelfLeft (s : State) (rs : List SetRec) : State := { s with shelf := { motion := .idle, stack := rs } }

theorem loseShelf_cons (r : SetRec) (rs : List SetRec) : loseShelf (r :: rs) s = loseShelf rs
    (loseSet (shelfLeft s rs) r.job r.seat r.plan r.cls r.replyTag r.segment r.totalSheets r.flags false) := rfl

/-! ## The losses of the steps (R168) -/

theorem accounted_clearTray (h : Accounted s j xs) : Accounted (clearTray s) j (xs ++ traySets s) := by
  cases hheld : s.tray.held with
  | none =>
    have hsets : traySets s = [] := by simp [traySets, hheld]
    rw [clearTray_of_none hheld, hsets, List.append_nil]
    exact accounted_congr h rfl (mem_liveSets_congr hheld.symm rfl rfl)
  | some r =>
    have hsets : traySets s = [(r.job, r.seat)] := by simp [traySets, hheld]
    have hempty : traySets (trayEmptied s) = [] := rfl
    rw [clearTray_of_some hheld, hsets]
    refine accounted_loseSet (u := s) (v := trayEmptied s) h rfl (mem_liveSets.2 (.inl ?_)) (fun x hx => ?_) _ _ _ _ _ _ _
    · rw [hsets]
      exact List.mem_singleton_self _
    · rw [mem_liveSets, mem_liveSets, hsets, hempty]
      simp only [List.mem_singleton, hx, List.not_mem_nil]
      exact Iff.rfl

theorem accounted_clearTower (h : Accounted s j xs) : Accounted (clearTower s) j (xs ++ towerSets s) := by
  have hidle : towerSets (towerIdled s) = [] := rfl
  by_cases hfinal : ∃ g, s.tower.carried = some g ∧ g.final = true
  · obtain ⟨g, hg, hf⟩ := hfinal
    have hsets : towerSets s = [(g.job, g.seat)] := by simp [towerSets, hg, hf]
    rw [clearTower_of_final hg hf, hsets]
    refine accounted_loseSet (u := s) (v := towerIdled s) h rfl (mem_liveSets.2 (.inr (.inr ?_))) (fun x hx => ?_)
      _ _ _ _ _ _ _
    · rw [hsets]
      exact List.mem_singleton_self _
    · rw [mem_liveSets, mem_liveSets, hsets, hidle]
      simp only [List.mem_singleton, hx, List.not_mem_nil]
      exact Iff.rfl
  · have hnot (g : Segment) (hg : s.tower.carried = some g) : g.final = false :=
      Bool.eq_false_iff.2 fun hf => hfinal ⟨g, hg, hf⟩
    have hsets : towerSets s = [] := by
      cases hc : s.tower.carried with
      | none => simp [towerSets, hc]
      | some g => simp [towerSets, hc, hnot g hc]
    rw [clearTower_of_not_final hnot, hsets, List.append_nil]
    refine accounted_congr h rfl fun x => ?_
    rw [mem_liveSets, mem_liveSets, hsets, hidle]
    exact Iff.rfl

theorem accounted_loseShelf (rs : List SetRec) : ∀ {s : State} {xs : List (Nat × Nat)}, Accounted s j xs →
    s.shelf.stack = rs → Accounted (loseShelf rs s) j (xs ++ rs.map (fun r => (r.job, r.seat))) := by
  induction rs with
  | nil =>
    intro s xs h hs
    rw [List.map_nil, List.append_nil]
    exact accounted_congr h rfl (mem_liveSets_congr rfl hs.symm rfl)
  | cons r rs ih =>
    intro s xs h hs
    have hsets : shelfSets s = (r.job, r.seat) :: rs.map (fun r => (r.job, r.seat)) := by simp [shelfSets, hs]
    have hleft : shelfSets (shelfLeft s rs) = rs.map (fun r => (r.job, r.seat)) := rfl
    rw [loseShelf_cons, List.map_cons, ← List.singleton_append, ← List.append_assoc]
    refine ih (accounted_loseSet (u := s) (v := shelfLeft s rs) h rfl (mem_liveSets.2 (.inr (.inl ?_))) (fun x hx => ?_)
      _ _ _ _ _ _ _) (by simp [shelfLeft])
    · rw [hsets]
      exact List.mem_cons_self
    · rw [mem_liveSets, mem_liveSets, hsets, hleft]
      simp only [List.mem_cons, hx, false_or]
      exact Iff.rfl

/-- R167: the sets that step 4 loses. -/
def shelfLost (s : State) : List (Nat × Nat) := if s.pins.shelfOccupied = true then [] else shelfSets s

/-- R167: the sets that step 4 keeps. -/
def shelfKept (s : State) : List (Nat × Nat) := if s.pins.shelfOccupied = true then shelfSets s else []

theorem accounted_clearShelf (h : Accounted s j xs) : Accounted (clearShelf s) j (xs ++ shelfLost s) := by
  unfold clearShelf shelfLost
  split
  · rw [List.append_nil]
    exact accounted_congr h rfl (mem_liveSets_congr rfl rfl rfl)
  · exact accounted_loseShelf _ h rfl

theorem loseShelf_shelf (rs : List SetRec) : ∀ s : State, (loseShelf rs s).shelf = { motion := .idle, stack := [] } := by
  induction rs with
  | nil => exact fun _ => rfl
  | cons r rs ih => exact fun _ => ih _

theorem clearShelf_shelf : (clearShelf s).shelf =
    { motion := .idle, stack := if s.pins.shelfOccupied = true then s.shelf.stack else [] } := by
  unfold clearShelf
  split
  · rfl
  · exact loseShelf_shelf _ _

/-- R167: the part after step 4. -/
def emptiedOut (s : State) : State := clearShelf (clearTower (clearTray (clearPath s)))

theorem clearTray_held : (clearTray s).tray = Tray.empty := by
  cases h : s.tray.held with
  | none => rw [clearTray_of_none h]; rfl
  | some r => rw [clearTray_of_some h]; simp [trayEmptied]

theorem clearTower_idle : (clearTower s).tower = Tower.idle := by
  by_cases hfinal : ∃ g, s.tower.carried = some g ∧ g.final = true
  · obtain ⟨g, hg, hf⟩ := hfinal
    rw [clearTower_of_final hg hf]
    simp [towerIdled]
  · rw [clearTower_of_not_final fun g hg => Bool.eq_false_iff.2 fun hf => hfinal ⟨g, hg, hf⟩]
    rfl

/-- R167, R168: the losses of the sets the part held. -/
theorem accounted_emptiedOut (h : Accounted s j []) :
    Accounted (emptiedOut s) j (traySets s ++ towerSets s ++ shelfLost s) := by
  have hpath : Accounted (clearPath s) j [] :=
    accounted_congr h (by simp) (mem_liveSets_congr (by simp) (by simp) (by simp))
  have htray : traySets (clearPath s) = traySets s := by simp [traySets]
  have htower : towerSets (clearTray (clearPath s)) = towerSets s := by simp [towerSets]
  have hshelf : shelfLost (clearTower (clearTray (clearPath s))) = shelfLost s := by simp [shelfLost, shelfSets]
  have hlost := accounted_clearShelf (accounted_clearTower (accounted_clearTray hpath))
  rwa [htray, htower, hshelf, List.nil_append] at hlost

/-- R167: what is live after step 4 is what the shelf keeps. -/
theorem mem_liveSets_emptiedOut (x : Nat × Nat) : x ∈ liveSets (emptiedOut s) ↔ x ∈ shelfKept s := by
  have htray : traySets (emptiedOut s) = [] := by simp [traySets, emptiedOut, clearTray_held, Tray.empty]
  have htower : towerSets (emptiedOut s) = [] := by simp [towerSets, emptiedOut, clearTower_idle, Tower.idle]
  have hshelf : shelfSets (emptiedOut s) = shelfKept s := by
    unfold shelfSets shelfKept emptiedOut
    rw [clearShelf_shelf]
    cases hp : s.pins.shelfOccupied <;> simp [hp, shelfSets]
  simp [mem_liveSets, htray, htower, hshelf]

end Steps

end Sys2Proof.Machine.ClearLosses
end

section
/-!
PROOFS. CLEAR: the earlier segment that is lost alone, the whole of an accepted CLEAR, and its statement (R14, R20, R144,
R167, R168).
-/
namespace Sys2Proof.Machine.ClearLosses

open SetAssembly JobAccounts FeedLinks

/-! ## The segment lost alone (R14) -/

section Segments
variable {s t u v : State} {j : Job} {g : Segment} {xs : List (Nat × Nat)} {n : Nat}

theorem changeFirst_map {α β : Type} {p : α → Bool} {f : α → α} (q : α → β) (h : ∀ x, q (f x) = q x) (xs : List α) :
    (changeFirst p f xs).map q = xs.map q := by
  induction xs with
  | nil => rfl
  | cons x xs ih =>
    rw [changeFirst]
    split <;> simp [h, ih]

/-- R69: the shelf with the set of the segment INCOMPLETE. -/
def shelfShort (x : Shelf) (g : Segment) : Shelf := { x with
  stack := changeFirst (fun r => r.isOf g.job g.seat) (fun r => { r with flags := r.flags.withIncomplete }) x.stack }

theorem shelfShort_map {β : Type} (q : SetRec → β) (h : ∀ (r : SetRec) (fl : SetFlags), q { r with flags := fl } = q r)
    (x : Shelf) (g : Segment) : (shelfShort x g).stack.map q = x.stack.map q :=
  changeFirst_map q (fun r => h r _) x.stack

/-- R14: the record of a job that a segment is lost alone of. -/
def segmentLost (g : Segment) (j : Job) : Job := if j.number = g.job then { j with
    lost := min 65535 (j.lost + 1)
    reprint := if g.seat ∈ j.reprint ∨ g.seat = 0 ∨ j.seats.length < g.seat then j.reprint else j.reprint ++ [g.seat] }
  else j

theorem addReprint_eq_ite (j : Job) (seat : Nat) : j.addReprint seat = { j with
    reprint := if seat ∈ j.reprint ∨ seat = 0 ∨ j.seats.length < seat then j.reprint else j.reprint ++ [seat] } := by
  rw [SheetPath.addReprint_job_eq]
  have hcond : (seat ∉ j.reprint ∧ 1 ≤ seat ∧ seat ≤ j.seats.length) ↔
      ¬(seat ∈ j.reprint ∨ seat = 0 ∨ j.seats.length < seat) := by
    simp only [not_or, Nat.not_lt, Nat.one_le_iff_ne_zero, ne_eq]
  simp only [hcond, ite_not]
  split <;> rfl

theorem accountSegmentLoss_eq : accountSegmentLoss s g.job g.seat = { s with jobs := s.jobs.map (segmentLost g) } := by
  have hjob (j : Job) : ((fun j => if j.number == g.job then j.addReprint g.seat else j) ∘
      fun j => if j.number == g.job then j.raise .lost else j) j = segmentLost g j := by
    unfold segmentLost
    by_cases hn : j.number = g.job
    · simp only [Function.comp_apply, hn, beq_self_eq_true, if_true, Job_raise_number, addReprint_eq_ite]
      rfl
    · simp [hn]
  simp only [accountSegmentLoss, addReprint, changeJob, List.map_map, List.map_congr_left fun j _ => hjob j]

theorem loseSegment_of_kept (h : parkedIsOf s g.job g.seat = true) : loseSegment s g =
    notify { s with shelf := shelfShort s.shelf g, jobs := s.jobs.map (segmentLost g) } g.replyTag g.job
      (.setLost g.seat g.segment false g.totalSheets g.flags g.jamMark) := by
  have hlost := accountSegmentLoss_eq (s := { s with shelf := shelfShort s.shelf g }) (g := g)
  simp only [loseSegment, h, if_true]
  exact congrArg (fun x => notify x g.replyTag g.job
    (.setLost g.seat g.segment false g.totalSheets g.flags g.jamMark)) hlost

theorem loseSegment_of_not_kept (h : parkedIsOf s g.job g.seat = false) : loseSegment s g = s := by
  simp [loseSegment, h]

theorem parkedIsOf_eq (job seat : Nat) : parkedIsOf s job seat = (shelfSets s).contains (job, seat) := by
  rw [Bool.eq_iff_iff, MergeArbiter.parkedIsOf_iff, List.contains_iff_mem]
  simp [shelfSets]

theorem loseSegment_shelf_of_kept (h : parkedIsOf s g.job g.seat = true) :
    (loseSegment s g).shelf = shelfShort s.shelf g := by
  rw [loseSegment_of_kept h]
  simp

/-- R69: a set that loses a segment stays on the shelf. -/
theorem shelfSets_loseSegment : shelfSets (loseSegment s g) = shelfSets s := by
  cases h : parkedIsOf s g.job g.seat with
  | true =>
    rw [shelfSets, loseSegment_shelf_of_kept h]
    exact shelfShort_map _ (fun _ _ => rfl) s.shelf g
  | false => rw [loseSegment_of_not_kept h]

theorem mem_liveSets_loseSegment (x : Nat × Nat) : x ∈ liveSets (loseSegment s g) ↔ x ∈ liveSets s := by
  have htray : traySets (loseSegment s g) = traySets s := by simp [traySets]
  have htower : towerSets (loseSegment s g) = towerSets s := by simp [towerSets]
  rw [mem_liveSets, mem_liveSets, shelfSets_loseSegment, htray, htower]

/-- R14: the account of a live set whose segment is lost alone. -/
theorem accountLost_of_live {job seat : Nat} (h : (job, seat) ∈ liveSets s) :
    accountLost s job seat = accountSegmentLoss s job seat := by
  have hlive : seatLive s job seat = true := by simpa [seatLive] using h
  simp [accountLost, accountOutcome, accountSegmentLoss, hlive]

theorem accounted_loseSegment (h : Accounted s j xs) (hk : parkedIsOf s g.job g.seat = true) :
    Accounted (loseSegment s g) j (xs ++ [(g.job, g.seat)]) := by
  have hmem : (g.job, g.seat) ∈ liveSets s := by
    rw [parkedIsOf_eq, List.contains_iff_mem] at hk
    exact mem_liveSets.2 (.inr (.inl hk))
  refine accounted_lose (u := s) (v := s) h rfl hmem (fun x _ => Iff.rfl) mem_liveSets_loseSegment (fun n => ?_)
  rw [accountLost_of_live hmem, loseSegment_of_kept hk, accountSegmentLoss_eq]
  exact findJob_congr (by simp) n

end Segments

/-! ## The whole of an accepted CLEAR (R167) -/

/-- R168: the set in the tray is lost. -/
def trayLost (x : Tray) (u : State) : State :=
  match x.held with
  | none => u
  | some r => loseSet u r.job r.seat r.plan r.cls r.replyTag r.segment r.totalSheets r.flags
      ((x.close.map (·.jamMark)).getD false)

/-- R168: the set whose final segment the elevator holds is lost. -/
def towerLost (x : Tower) (u : State) : State :=
  match x.carried with
  | none => u
  | some g => if g.final = true
    then loseSet u g.job g.seat g.plan g.cls g.replyTag g.segment g.totalSheets g.flags g.jamMark else u

/-- R167: the shelf is judged by its sensor. -/
def shelfJudged (occupied : Bool) (x : Shelf) (u : State) : State :=
  if occupied = true then { u with shelf := { x with motion := .idle } } else loseShelf x.stack u

/-- R14, R168: the earlier segment of a kept set is lost alone, and the shelf is `y`. -/
def segmentTold (x : Tower) (kept : List (Nat × Nat)) (y : Shelf) (u : State) : State :=
  match x.carried with
  | none => u
  | some g => if g.final = false ∧ kept.contains (g.job, g.seat) = true then
      notify { u with shelf := y, jobs := u.jobs.map (segmentLost g) } g.replyTag g.job
        (.setLost g.seat g.segment false g.totalSheets g.flags g.jamMark)
    else u

/-- R167: the part after the losses. -/
def allLost (s : State) : State :=
  match s.tower.carried with
  | some g => if g.final then emptiedOut s else loseSegment (emptiedOut s) g
  | none => emptiedOut s

/-- R14: the segments that are lost alone. -/
def aloneSets (s : State) : List (Nat × Nat) :=
  (s.tower.carried.toList.filter (fun g => !g.final && (shelfKept s).contains (g.job, g.seat))).map
    (fun g => (g.job, g.seat))

section Whole
variable {s t u v : State} {j : Job} {g : Segment} {xs : List (Nat × Nat)} {n : Nat}

theorem clearTray_eq : clearTray s = trayLost s.tray (trayEmptied s) := by
  unfold trayLost
  cases h : s.tray.held with
  | none => exact clearTray_of_none h
  | some r => exact clearTray_of_some h

theorem clearTower_eq : clearTower s = towerLost s.tower (towerIdled s) := by
  unfold towerLost
  cases h : s.tower.carried with
  | none => exact clearTower_of_not_final fun g hg => by simp [h] at hg
  | some g =>
    cases hf : g.final with
    | true => simp [clearTower_of_final h hf, hf]
    | false =>
      have hnot (x : Segment) (hx : s.tower.carried = some x) : x.final = false := by
        cases h.symm.trans hx
        exact hf
      simp [clearTower_of_not_final hnot, hf]

theorem emptiedOut_eq : emptiedOut s = shelfJudged s.pins.shelfOccupied s.shelf
    (towerLost s.tower (towerIdled (trayLost s.tray (trayEmptied (clearPath s))))) := by
  have hclear (v : State) : clearShelf v = shelfJudged v.pins.shelfOccupied v.shelf v := rfl
  have htower : (clearTray (clearPath s)).tower = s.tower := by simp
  have hshelf : (clearTower (clearTray (clearPath s))).shelf = s.shelf := by simp
  have hpins : (clearTower (clearTray (clearPath s))).pins = s.pins := by simp
  rw [emptiedOut, hclear, hshelf, hpins, clearTower_eq, htower, clearTray_eq]
  rfl

theorem shelfSets_emptiedOut : shelfSets (emptiedOut s) = shelfKept s := by
  unfold shelfSets shelfKept emptiedOut
  rw [clearShelf_shelf]
  cases hp : s.pins.shelfOccupied <;> simp [hp, shelfSets]

theorem emptiedOut_kept (job seat : Nat) : parkedIsOf (emptiedOut s) job seat = (shelfKept s).contains (job, seat) := by
  rw [parkedIsOf_eq, shelfSets_emptiedOut]

/-- R167: with no earlier segment of a kept set nothing is lost alone. -/
theorem allLost_of_none (h : ∀ g, s.tower.carried = some g → g.final = false →
    (shelfKept s).contains (g.job, g.seat) = false) : allLost s = emptiedOut s := by
  unfold allLost
  split
  next g hg =>
    split
    next => rfl
    next hf => exact loseSegment_of_not_kept ((emptiedOut_kept _ _).trans (h g hg (Bool.eq_false_iff.2 hf)))
  next => rfl

theorem allLost_of_segment (h : s.tower.carried = some g) (hf : g.final = false) :
    allLost s = loseSegment (emptiedOut s) g := by
  simp [allLost, h, hf]

theorem allLost_eq : allLost s = segmentTold s.tower (shelfKept s) (allLost s).shelf (emptiedOut s) := by
  unfold segmentTold
  split
  next hnone => exact allLost_of_none fun g hg => by simp [hnone] at hg
  next g hg =>
    split
    next hkept =>
      have hparked := (emptiedOut_kept g.job g.seat).trans hkept.2
      rw [allLost_of_segment hg hkept.1, loseSegment_of_kept hparked]
      simp
    next hnot =>
      refine allLost_of_none fun x hx hf => ?_
      cases hg.symm.trans hx
      exact Bool.eq_false_iff.2 fun hk => hnot ⟨hf, hk⟩

theorem clearAll_eq (hr : s.run = .faulted) : clearAll s = notifyPlain { applyReleased (removeClosed (allLost s)) with
    run := .standby, fault := { first := none, further := 0 } } (.stateChange .faulted .standby) := by
  have hrun : (applyReleased (removeClosed (allLost s))).run = .faulted := by
    unfold allLost
    repeat' split
    all_goals simp [emptiedOut, hr]
  have hclear : clearAll s = changeRun { applyReleased (removeClosed (allLost s)) with
      fault := { first := none, further := 0 } } .standby := rfl
  rw [hclear, changeRun]
  simp only [hrun]

/-- R14, R167, R168: every loss of a CLEAR, in the record of a job. -/
theorem accounted_allLost (h : Accounted s j []) :
    Accounted (allLost s) j (traySets s ++ towerSets s ++ shelfLost s ++ aloneSets s) := by
  have hout := accounted_emptiedOut h
  by_cases hseg : ∃ g, s.tower.carried = some g ∧ g.final = false ∧ (shelfKept s).contains (g.job, g.seat) = true
  · obtain ⟨g, hg, hf, hk⟩ := hseg
    have halone : aloneSets s = [(g.job, g.seat)] := by
      rw [List.contains_iff_mem] at hk
      simp [aloneSets, hg, hf, hk]
    rw [allLost_of_segment hg hf, halone]
    exact accounted_loseSegment hout ((emptiedOut_kept _ _).trans hk)
  · have hno (g : Segment) (hg : s.tower.carried = some g) (hf : g.final = false) :
        (shelfKept s).contains (g.job, g.seat) = false :=
      Bool.eq_false_iff.2 fun hk => hseg ⟨g, hg, hf, hk⟩
    have halone : aloneSets s = [] := by
      cases hc : s.tower.carried with
      | none => simp [aloneSets, hc]
      | some g =>
        cases hf : g.final with
        | true => simp [aloneSets, hc, hf]
        | false => simp only [aloneSets, hc, Option.toList_some, List.filter_cons, hf, hno g hc hf]; rfl
    rw [allLost_of_none hno, halone, List.append_nil]
    exact hout

theorem mem_liveSets_allLost (x : Nat × Nat) : x ∈ liveSets (allLost s) ↔ x ∈ shelfKept s := by
  rw [← mem_liveSets_emptiedOut]
  unfold allLost
  split
  next g _ =>
    split
    next => exact Iff.rfl
    next => exact mem_liveSets_loseSegment x
  next => exact Iff.rfl

/-- R20: a job that is OPEN stays in the list. -/
theorem findJob_removeClosed_of_opened (h : findJob s n = some j) (hp : j.phase = .opened) :
    findJob (removeClosed s) n = some j := by
  have hfold (is : List Job) : ∀ s : State, (∀ i ∈ is, i.number = n → i.phase = .opened) →
      findJob (is.foldl removeIfClosed s) n = findJob s n := by
    induction is with
    | nil => exact fun _ _ => rfl
    | cons i is ih =>
      intro s hi
      obtain ⟨hhead, hrest⟩ := List.forall_mem_cons.1 hi
      rw [List.foldl_cons, ih _ hrest, findJob, findJob, removeIfClosed_jobs, List.find?_filter]
      refine congrArg (fun p => s.jobs.find? p) (funext fun x => ?_)
      by_cases hx : x.number = n
      · have hstays : (goes s i && x.number == i.number) = false := by
          by_cases hsame : x.number = i.number
          · have hopened := hhead (hsame.symm.trans hx)
            simp [goes, hopened]
          · simp [hsame]
        simp only [hstays]
        simp [hx]
      · simp [hx]
  refine (hfold _ s fun i hi hn => ?_).trans h
  obtain ⟨m, -, hfound⟩ := List.mem_filterMap.1 hi
  have hm : m = n := (findJob_some hfound).1.symm.trans hn
  cases (hm ▸ hfound).symm.trans h
  exact hp

/-- R167, R168: what an accepted CLEAR leaves of an OPEN job's record. -/
theorem accounted_clearAll (hr : s.run = .faulted) (h : findJob s j.number = some j) (hlost : j.lost ≤ 65535)
    (hp : j.phase = .opened) : ∃ j', findJob (clearAll s) j.number = some j' ∧
      Losses (allLost s) j (traySets s ++ towerSets s ++ shelfLost s ++ aloneSets s) j' := by
  obtain ⟨j', hfound, hlosses⟩ := accounted_allLost (accounted_nil h hlost)
  refine ⟨j', ?_, hlosses⟩
  have hjobs : (clearAll s).jobs = (removeClosed (allLost s)).jobs := by simp [clearAll_eq hr]
  rw [findJob_congr hjobs]
  exact findJob_removeClosed_of_opened hfound (hlosses.phase.trans hp)

/-! ## What an accepted CLEAR leaves (R68, R69, R90, R167) -/

theorem allLost_frame : (allLost s).path = { s.path with entries := [], gate := .purgeSide } ∧
    (allLost s).tray = Tray.empty ∧ (allLost s).tower = Tower.idle ∧
    (allLost s).stapler = { s.stapler with owner := (allLost s).stapler.owner } := by
  have hpath : (emptiedOut s).path = { s.path with entries := [], gate := .purgeSide } := by simp [emptiedOut, clearPath]
  have htray : (emptiedOut s).tray = Tray.empty := by simp [emptiedOut, clearTray_held]
  have htower : (emptiedOut s).tower = Tower.idle := by simp [emptiedOut, clearTower_idle]
  have hstapler : (emptiedOut s).stapler = { s.stapler with owner := (emptiedOut s).stapler.owner } := by
    have hcleared : (emptiedOut s).stapler = (clearTray (clearPath s)).stapler := by simp [emptiedOut]
    rw [hcleared, clearTray_eq]
    unfold trayLost
    split <;> simp [trayEmptied]
  unfold allLost
  split
  next g _ =>
    split
    next => exact ⟨hpath, htray, htower, hstapler⟩
    next =>
      simp only [loseSegment_frame]
      exact ⟨hpath, htray, htower, hstapler⟩
  next => exact ⟨hpath, htray, htower, hstapler⟩

theorem emptiedOut_shelf : (emptiedOut s).shelf =
    { motion := .idle, stack := if s.pins.shelfOccupied = true then s.shelf.stack else [] } := by
  rw [emptiedOut, clearShelf_shelf]
  simp

theorem allLost_shelf_cases : (allLost s).shelf = (emptiedOut s).shelf ∨ ∃ g, s.tower.carried = some g ∧
    g.final = false ∧ (shelfKept s).contains (g.job, g.seat) = true ∧
      (allLost s).shelf = shelfShort (emptiedOut s).shelf g := by
  by_cases hseg : ∃ g, s.tower.carried = some g ∧ g.final = false ∧ (shelfKept s).contains (g.job, g.seat) = true
  · obtain ⟨g, hg, hf, hk⟩ := hseg
    rw [allLost_of_segment hg hf]
    exact .inr ⟨g, hg, hf, hk, loseSegment_shelf_of_kept ((emptiedOut_kept _ _).trans hk)⟩
  · rw [allLost_of_none fun g hg hf => Bool.eq_false_iff.2 fun hk => hseg ⟨g, hg, hf, hk⟩]
    exact .inl rfl

theorem allLost_motion : (allLost s).shelf.motion = .idle := by
  rcases allLost_shelf_cases (s := s) with h | ⟨g, -, -, -, h⟩
  · rw [h, emptiedOut_shelf]
  · rw [h, shelfShort, emptiedOut_shelf]

theorem allLost_stack_of_empty (h : s.pins.shelfOccupied = false) : (allLost s).shelf.stack = [] := by
  rcases allLost_shelf_cases (s := s) with hs | ⟨g, -, -, -, hs⟩
  · simp [hs, emptiedOut_shelf, h]
  · simp [hs, shelfShort, emptiedOut_shelf, h, changeFirst]

theorem allLost_stack_map (h : s.pins.shelfOccupied = true) :
    (allLost s).shelf.stack.map (fun r => (r.job, r.seat, r.totalSheets)) =
      s.shelf.stack.map (fun r => (r.job, r.seat, r.totalSheets)) := by
  rcases allLost_shelf_cases (s := s) with hs | ⟨g, -, -, -, hs⟩
  · simp [hs, emptiedOut_shelf, h]
  · rw [hs, shelfShort_map _ (fun _ _ => rfl), emptiedOut_shelf, if_pos h]

theorem allLost_stack_of_no_segment (h : s.pins.shelfOccupied = true) (hn : aloneSets s = []) :
    (allLost s).shelf.stack = s.shelf.stack := by
  rcases allLost_shelf_cases (s := s) with hs | ⟨g, hg, hf, hk, -⟩
  · simp [hs, emptiedOut_shelf, h]
  · rw [List.contains_iff_mem] at hk
    simp [aloneSets, hg, hf, hk] at hn

theorem allLost_stack_of_segment (h : s.pins.shelfOccupied = true) {before after : List SetRec} {r : SetRec}
    (hg : s.tower.carried = some g) (hf : g.final = false) (hs : s.shelf.stack = before ++ r :: after)
    (hr : (r.job, r.seat) = (g.job, g.seat)) (hb : ∀ x ∈ before, (x.job, x.seat) ≠ (g.job, g.seat)) :
    (allLost s).shelf.stack = before ++ { r with flags := { r.flags with incomplete := true } } :: after := by
  have hkept : (shelfKept s).contains (g.job, g.seat) = true := by
    rw [List.contains_iff_mem, shelfKept, if_pos h, shelfSets, hs, ← hr]
    simp
  have hfirst := changeFirst_append (fun x : SetRec => x.isOf g.job g.seat)
    (fun x => { x with flags := x.flags.withIncomplete }) r after (by simpa [SetRec.isOf] using hr) before
    (fun x hx => by simpa [SetRec.isOf] using hb x hx)
  rw [allLost_of_segment hg hf, loseSegment_shelf_of_kept ((emptiedOut_kept _ _).trans hkept), shelfShort,
    emptiedOut_shelf, if_pos h, hs]
  exact hfirst

theorem mem_shelfKept_of_alone {x : Nat × Nat} (h : x ∈ aloneSets s) : x ∈ shelfKept s := by
  simp only [aloneSets, List.mem_map, List.mem_filter, Bool.and_eq_true, List.contains_iff_mem] at h
  obtain ⟨g, ⟨-, -, hkept⟩, rfl⟩ := h
  exact hkept

/-- R168: a seat is LOST when a set of it is lost whole and the shelf keeps none. -/
theorem lost_seats {ws : List (Nat × Nat)} {j' : Job} {seat : Nat} (h : Losses (allLost s) j (ws ++ aloneSets s) j')
    (h1 : 1 ≤ seat) (hle : seat ≤ j.seats.length) :
    ((j.number, seat) ∈ ws → (j.number, seat) ∉ shelfKept s → j'.seats[seat - 1]? = some .lost) ∧
    ((j.number, seat) ∉ ws ∨ (j.number, seat) ∈ shelfKept s → j'.seats[seat - 1]? = j.seats[seat - 1]?) := by
  have hseats := h.seats seat h1 hle
  simp only [mem_liveSets_allLost] at hseats
  refine ⟨fun hw hk => hseats.trans (if_pos ⟨List.mem_append_left _ hw, hk⟩), fun hkept => hseats.trans (if_neg ?_)⟩
  rintro ⟨hmem, hk⟩
  rcases List.mem_append.1 hmem with hw | halone
  · exact hkept.elim (fun hno => hno hw) hk
  · exact hk (mem_shelfKept_of_alone halone)

/-- R167: what the removals, the releases and the run state leave of the losses. -/
theorem clearAll_frame_lost (hr : s.run = .faulted) : (clearAll s).shelf = (allLost s).shelf ∧
    (clearAll s).path = { s.path with entries := [], gate := .purgeSide } ∧ (clearAll s).tray = Tray.empty ∧
    (clearAll s).tower = Tower.idle ∧ (clearAll s).run = .standby ∧
    (clearAll s).fault = { first := none, further := 0 } ∧
    (clearAll s).stapler = { s.stapler with owner := (clearAll s).stapler.owner } := by
  obtain ⟨hpath, htray, htower, hstapler⟩ := allLost_frame (s := s)
  have hkept : (clearAll s).stapler = (allLost s).stapler := by simp [clearAll_eq hr]
  refine ⟨by simp [clearAll_eq hr], ?_, ?_, ?_, by simp [clearAll_eq hr], by simp [clearAll_eq hr], ?_⟩
  · simpa [clearAll_eq hr] using hpath
  · simpa [clearAll_eq hr] using htray
  · simpa [clearAll_eq hr] using htower
  · rw [hkept]
    exact hstapler

end Whole

/-! ## The request (R167) -/

section Request
variable {s : State} {l : Link} {f : Frame} {pins : Pins}

/-- R167: the frame has left the FIFO, and the lines are read. -/
def clearTaken (s : State) (l : Link) (pins : Pins) : State := { takeFrame s l with pins := pins }

theorem exec_clear (h : s.requests l f 0x08) : exec (.clear l pins) s =
    .next (if (clearTaken s l pins).run = .faulted ∧ clearReads (clearTaken s l pins) = true
      then clearAll (answerTo (clearTaken s l pins) l f .done [])
      else answerTo (clearTaken s l pins) l f (.refused .badState) []) := by
  obtain ⟨hoffered, hkind, hlength⟩ := h
  exact congrArg _ (handle_request (owner := ownClear pins) s hoffered
    (by simp [ofKind, hkind, kindClear]) hlength)

theorem clearTaken_run : (clearTaken s l pins).run = s.run := by simp [clearTaken]

theorem clearReads_iff : clearReads (clearTaken s l pins) = true ↔ pins.saCovered = false ∧
    (s.straps.linkBPresent = false ∨ pins.sbCovered = false) ∧ pins.stCovered = false ∧ pins.spCovered = false ∧
    pins.trayOccupied = false ∧ pins.elevatorHome = true := by
  simp [clearReads, clearTaken, and_assoc]

theorem exec_clear_refused (h : s.requests l f 0x08)
    (hr : s.run ≠ .faulted ∨ pins.saCovered = true ∨ (s.straps.linkBPresent = true ∧ pins.sbCovered = true) ∨
      pins.stCovered = true ∨ pins.spCovered = true ∨ pins.trayOccupied = true ∨ pins.elevatorHome = false) :
    exec (.clear l pins) s = .next (answerTo (clearTaken s l pins) l f (.refused .badState) []) := by
  rw [exec_clear h, if_neg]
  rw [clearTaken_run, clearReads_iff]
  rintro ⟨hrun, hsa, hsb, hst, hsp, htray, hhome⟩
  rcases hr with hr | hr | ⟨hb, hr⟩ | hr | hr | hr | hr
  · exact hr hrun
  · simp [hsa] at hr
  · simp [hb, hr] at hsb
  · simp [hst] at hr
  · simp [hsp] at hr
  · simp [htray] at hr
  · simp [hhome] at hr

end Request

/-- Settles O28: the next state by `clearAll_eq`, the kept shelf by `allLost_shelf_cases`, and the job records by
`accounted_clearAll`. -/
theorem clearIsJudgedAndEmptiesThePart : Obligations.ClearIsJudgedAndEmptiesThePart := by
  unfold Obligations.ClearIsJudgedAndEmptiesThePart
  refine ⟨fun s l f pins h hr => exec_clear_refused h hr, fun s => ⟨rfl, fun r rs => rfl⟩, ?_⟩
  intro s l f pins h hrun hsa hsb hst hsp htray hhome
  have hexec : exec (.clear l pins) s = .next (clearAll (answerTo (clearTaken s l pins) l f .done [])) := by
    rw [exec_clear h, if_pos ⟨clearTaken_run.trans hrun, clearReads_iff.2 ⟨hsa, hsb, hst, hsp, htray, hhome⟩⟩]
  obtain ⟨a, ha⟩ : ∃ a, a = answerTo (clearTaken s l pins) l f .done [] := ⟨_, rfl⟩
  have hfault : a.run = .faulted := by simp [ha, clearTaken, hrun]
  have htray : a.tray = s.tray := by simp [ha, clearTaken]
  have htower : a.tower = s.tower := by simp [ha, clearTaken]
  have hshelf : a.shelf = s.shelf := by simp [ha, clearTaken]
  have hpath : a.path = s.path := by simp [ha, clearTaken]
  have hstapler : a.stapler = s.stapler := by simp [ha, clearTaken]
  have hjobs : a.jobs = s.jobs := by simp [ha, clearTaken]
  have hpins : a.pins = pins := by simp [ha, clearTaken]
  obtain ⟨hshelved, hcleared, hempty, hidle, hstandby, hnone, howner⟩ := clearAll_frame_lost hfault
  have hkept : shelfKept a =
      if pins.shelfOccupied = true then s.shelf.stack.map (fun r => (r.job, r.seat)) else [] := by
    rw [shelfKept, shelfSets, hpins, hshelf]
  have hemptied : trayEmptied (clearPath a) = { a with
      path := { s.path with entries := [], gate := .purgeSide }
      tray := Tray.empty
      stapler := { s.stapler with owner := s.stapler.owner.map (fun o => { o with lost := true }) } } := by
    simp only [trayEmptied, clearPath, hpath, hstapler]
  have htold := clearAll_eq hfault
  rw [allLost_eq, ← hshelved, emptiedOut_eq, hkept, htray, htower, hshelf, hpins, hemptied] at htold
  rw [← ha] at hexec
  refine ⟨clearAll a, hexec, ?_, hstandby, hnone, ?_, hempty, hidle, ?_, ?_, ?_, ?_, ?_, ?_, ?_, ?_, ?_, ?_, ?_, ?_, ?_, ?_,
    ?_, ?_, ?_⟩
  · subst ha
    exact htold
  · rw [hcleared, hpath]
  · rw [hshelved]
    exact allLost_motion
  · intro hp
    rw [hshelved]
    exact allLost_stack_of_empty (hpins ▸ hp)
  · intro hp
    rw [hshelved, ← hshelf]
    exact allLost_stack_map (hpins ▸ hp)
  · intro hp halone
    rw [hshelved, ← hshelf]
    refine allLost_stack_of_no_segment (hpins ▸ hp) ?_
    rw [aloneSets, hkept, htower]
    exact halone
  · intro g before r after hp hg hf hs hr hb
    rw [hshelved]
    exact allLost_stack_of_segment (hpins ▸ hp) (htower ▸ hg) hf (hshelf ▸ hs) hr hb
  · simp [ha, clearTaken]
  · simp [ha, clearTaken]
  · simp [ha, clearTaken]
  · simp [ha, clearTaken]
  · rw [howner, hstapler]
  · simp [ha, clearTaken]
  · simp [ha, clearTaken]
  · simp [ha, clearTaken]
  · simp [ha, clearTaken]
  · simp [ha, clearTaken]
  · simp [ha, clearTaken]
  · intro j hj hopened hnumbers hlost
    have hfound : findJob a j.number = some j := (findJob_congr hjobs j.number).trans (findJob_mem hnumbers hj)
    obtain ⟨j', hfound', hlosses⟩ := accounted_clearAll hfault hfound hlost hopened
    have hwhole : traySets a ++ towerSets a ++ shelfLost a = s.tray.held.toList.map (fun r => (r.job, r.seat)) ++
        (s.tower.carried.toList.filter (·.final)).map (fun g => (g.job, g.seat)) ++
        (if pins.shelfOccupied = true then [] else s.shelf.stack.map (fun r => (r.job, r.seat))) := by
      rw [traySets, towerSets, shelfLost, shelfSets, htray, htower, hshelf, hpins]
    have halone : aloneSets a = (s.tower.carried.toList.filter (fun g => !g.final && (if pins.shelfOccupied = true then
        s.shelf.stack.map (fun r => (r.job, r.seat)) else []).contains (g.job, g.seat))).map
        (fun g => (g.job, g.seat)) := by
      rw [aloneSets, hkept, htower]
    rw [hwhole] at hlosses
    refine ⟨j', hfound', ?_, hlosses.delivered, hlosses.diverted, hlosses.exceptions, hlosses.length,
      fun seat h1 hle => ?_⟩
    · rw [← halone]
      exact hlosses.lost
    · rw [← halone, ← hkept]
      obtain ⟨hgone, hstays⟩ := lost_seats hlosses h1 hle
      exact ⟨hgone, hstays, hlosses.reprint seat h1 hle⟩

end Sys2Proof.Machine.ClearLosses
end
